-- ==== Sys2Proof/Word.lean ====
section
/-! DEFINITION. Word.lean: the byte, and its plainest readings. -/

namespace Sys2Proof

/-- One byte of the RAM, of a record or of a bus cycle (00_scope.md 0.2). -/
abbrev Byte := BitVec 8

/-- The byte whose value is `n` modulo 256. -/
abbrev Byte.of (n : Nat) : Byte := BitVec.ofNat 8 n

end Sys2Proof
end

