-- ==== Sys2Proof/Syntax.lean ====
section
/-! DEFINITION. Syntax.lean: the commands of the JD-460, one constructor per row of spec/opcode_table.json. -/

namespace Sys2Proof

/-- The levels that stand on the part's pins at a standby start (R1, R28, R151; pins of 00_scope.md 0.8). -/
structure PinLevels where
  /-- CASS_SW closed. -/
  cassSw : Bool
  /-- TAB_SW shows the record tab present. -/
  tabSw : Bool
  /-- LOAD_POS: the UNTHREADED switch is closed. -/
  unthreadedSw : Bool
  /-- LOAD_POS: the THREADED switch is closed. -/
  threadedSw : Bool
  /-- START_SENSE active. -/
  startSense : Bool
  /-- END_SENSE active. -/
  endSense : Bool
  /-- MOTOR_OC[3:0]: 0 drum, 1 capstan, 2 reel, 3 load. -/
  motorOc : BitVec 4
  /-- THERMAL active. -/
  thermal : Bool
  /-- The WB straps. -/
  wb : BitVec 3
  /-- The FR strap: true for 30 frames a second. -/
  fr30 : Bool
  /-- FIELD_ID stands at the level of a frame's first field. -/
  fieldFirst : Bool
  deriving DecidableEq, Repr

/-- One reading of the tuning indicators (R71, R74, R75, R80). -/
structure Reading where
  /-- AFT_HI active. -/
  hi : Bool
  /-- AFT_LO active. -/
  lo : Bool
  /-- SYNC_OK present. -/
  sync : Bool
  deriving DecidableEq, Repr

/-- The two reels (R40). -/
inductive ReelName where
  | supply
  | takeup
  deriving DecidableEq, Repr

/-- The two motors that carry a lock allowance (R17). -/
inductive LockMotor where
  | drum
  | capstan
  deriving DecidableEq, Repr

/-- The two ends of a tape (R20). -/
inductive TapeEnd where
  /-- END_SENSE, a tape end. -/
  | ending
  /-- START_SENSE, a tape beginning. -/
  | beginning
  deriving DecidableEq, Repr

/-- The commands. Times are µs on the part's own time base (log entry 1); a row about a switch or a sensor carries the
qualified new level (log entry 4). -/
inductive Instr where
  /-- STANDBY_START (R180): a rise of STBY_GOOD in BACKUP, with the pin levels that stand. -/
  | standbyStart (levels : PinLevels)
  /-- STANDBY_SUPPLY_LOSS (R179): a fall of STBY_GOOD; whether a RAM byte write is in progress. -/
  | standbySupplyLoss (byteInProgress : Bool)
  /-- BACKUP_RESET (R104). -/
  | backupReset
  /-- CASSETTE_INSERTION (R2): a qualified closing of CASS_SW, with the level of TAB_SW. -/
  | cassetteInsertion (tab : Bool)
  /-- CASSETTE_REMOVAL (R3): a qualified opening of CASS_SW. -/
  | cassetteRemoval
  /-- PLAY (R7): a host write of 0x01 to COMMAND. -/
  | play
  /-- RECORD (R16): 0x02. -/
  | record
  /-- STOP (R5): 0x03. -/
  | stop
  /-- PAUSE (R18): 0x04. -/
  | pause
  /-- RESUME (R19): 0x05. -/
  | resume
  /-- FF (R8): 0x06. -/
  | ff
  /-- REW (R8): 0x07. -/
  | rew
  /-- CUE (R8): 0x08. -/
  | cue
  /-- REVIEW (R8): 0x09. -/
  | review
  /-- EJECT (R12): 0x0A. -/
  | eject
  /-- INDEX_SEARCH (R25): 0x0B. -/
  | indexSearch
  /-- GOTO (R24): 0x0C. -/
  | goto
  /-- COUNTER_RESET (R52): 0x0D. -/
  | counterReset
  /-- RECOVER (R23): 0x0E. -/
  | recover
  /-- THREADING_COMPLETE (R9): a qualified change of the THREADED switch. -/
  | threadingComplete (closed : Bool)
  /-- UNTHREADING_COMPLETE (R12): a qualified change of the UNTHREADED switch. -/
  | unthreadingComplete (closed : Bool)
  /-- THREAD_TIMEOUT (R11). -/
  | threadTimeout
  /-- UNTHREAD_TIMEOUT (R12). -/
  | unthreadTimeout
  /-- EJECT_TIMEOUT (R13). -/
  | ejectTimeout
  /-- IDLE_TIMEOUT (R14). -/
  | idleTimeout
  /-- PAUSE_TIMEOUT (R15). -/
  | pauseTimeout
  /-- LOCK_ALLOWANCE_EXPIRY (R17). -/
  | lockAllowanceExpiry (motor : LockMotor)
  /-- TAPE_LIMIT (R20): a qualified change of END_SENSE or START_SENSE. -/
  | tapeLimit (which : TapeEnd) (active : Bool)
  /-- MOTOR_OC (R22): a change of one MOTOR_OC input. -/
  | motorOc (motor : Fin 4) (active : Bool)
  /-- THERMAL (R22): a change of the THERMAL input. -/
  | thermal (active : Bool)
  /-- SEARCH_COUNTER_TIMEOUT (R24). -/
  | searchCounterTimeout
  /-- MAIN_GOOD_FALL (R188). -/
  | mainGoodFall
  /-- MAIN_GOOD_RISE (R184). -/
  | mainGoodRise
  /-- RAIL_TIMEOUT (R188). -/
  | railTimeout
  /-- HOST_RESET_RELEASE (R184): the hold timer reaches 50 ms. -/
  | hostResetRelease
  /-- DRUM_FG_PULSE (R31) at a time. -/
  | drumFgPulse (at_ : Nat)
  /-- DRUM_FG_GAP (R31). -/
  | drumFgGap
  /-- CAPSTAN_FG_PULSE (R32) at a time. -/
  | capstanFgPulse (at_ : Nat)
  /-- CAPSTAN_FG_GAP (R32). -/
  | capstanFgGap
  /-- DRUM_PG_PULSE (R35) at a time. -/
  | drumPgPulse (at_ : Nat)
  /-- FRAME_REFERENCE_PULSE (R34): the next internal reference pulse. -/
  | frameReferencePulse
  /-- FRAME_REFERENCE_TIMEOUT (R34). -/
  | frameReferenceTimeout
  /-- REEL_MARK (R40) of a reel at a time. -/
  | reelMark (reel : ReelName) (at_ : Nat)
  /-- REEL_STALL (R41) of a reel. -/
  | reelStall (reel : ReelName)
  /-- CTL_READ_PULSE (R47): the time of its rising edge and its high time. -/
  | ctlReadPulse (rise high : Nat)
  /-- RUN_DOWN_END (R47). -/
  | runDownEnd
  /-- EXTRAPOLATION_START (R49). -/
  | extrapolationStart
  /-- EXTRAPOLATED_FRAME (R49). -/
  | extrapolatedFrame
  /-- UNSURE_SET (R50). -/
  | unsureSet
  /-- PROFILE_WRITE (R58): a host write at an offset 0..127 of the profile table. -/
  | profileWrite (off : Nat) (data : Byte)
  /-- TUNE (R69): 0x21. -/
  | tune
  /-- SCAN (R79): 0x22. -/
  | scan
  /-- SCAN_STOP (R84): 0x23. -/
  | scanStop
  /-- STORE (R85): 0x24. -/
  | store
  /-- FINE (R76): 0x25. -/
  | fine
  /-- SYNTH_WORD_END (R68). -/
  | synthWordEnd
  /-- SETTLE_END (R71), with the first sample's reading. -/
  | settleEnd (r : Reading)
  /-- AFC_SAMPLE (R71). -/
  | afcSample (r : Reading)
  /-- TRACKING_SAMPLE (R74). -/
  | trackingSample (r : Reading)
  /-- NO_SIGNAL_WATCH (R75). -/
  | noSignalWatch (r : Reading)
  /-- SCAN_STEP_TEST (R80). -/
  | scanStepTest (r : Reading)
  /-- DWELL_TIMEOUT (R82). -/
  | dwellTimeout
  /-- PRESET_WRITE (R157): a host write at an offset 0..1583 from preset 1. -/
  | presetWrite (off : Nat) (data : Byte)
  /-- FIELD_START (R91): a change of FIELD_ID at a time. -/
  | fieldStart (at_ : Nat)
  /-- LINE_START (R91): a LINE_SYNC pulse. -/
  | lineStart
  /-- LINE_PACKET_COMPLETE (R95): nine-bit bytes that complete on the framed line, data in bits 7..0, parity in bit 8. -/
  | linePacketComplete (bytes : List (BitVec 9))
  /-- TIME_TAKE (R111). -/
  | timeTake
  /-- LABEL_TAKE (R101). -/
  | labelTake
  /-- NAME_TAKE (R102). -/
  | nameTake
  /-- SECOND_ADVANCE (R105). -/
  | secondAdvance
  /-- SET_TIME (R109): 0x31. -/
  | setTime
  /-- CLAIM (R120): 0x41. -/
  | claim
  /-- COMMIT (R122): 0x42. -/
  | commit
  /-- DISCARD (R124): 0x43. -/
  | discard
  /-- DELETE (R124): 0x44. -/
  | delete
  /-- ABORT (R125): 0x45. -/
  | abort
  /-- PROGRAMME_WRITE (R156): a host write at an offset 0..511 of the programme table. -/
  | programmeWrite (off : Nat) (data : Byte)
  /-- CLAIM_EXPIRY (R121). -/
  | claimExpiry
  /-- OCCURRENCE_START (R133). -/
  | occurrenceStart
  /-- OCCURRENCE_START_DUE (R134). -/
  | occurrenceStartDue
  /-- OCCURRENCE_STOP_REACHED (R134). -/
  | occurrenceStopReached
  /-- ABSENCE_TIMEOUT (R137). -/
  | absenceTimeout
  /-- LABEL_LOSS_TIMEOUT (R138). -/
  | labelLossTimeout
  /-- LABEL_OVERRUN_LIMIT (R139). -/
  | labelOverrunLimit
  /-- LIVE_READ (R161): a host read cycle at an address. -/
  | liveRead (addr : BitVec 16)
  /-- PART_OWNED_WRITE (R155): a host write at a part-owned or live offset of the region. -/
  | partOwnedWrite (off : Nat) (data : Byte)
  /-- HOST_WRITE (R154): a host write cycle at an address. -/
  | hostWrite (addr : BitVec 16) (data : Byte)
  /-- SETTINGS_WRITE (R194): a host write at an offset 0..31 of the settings block. -/
  | settingsWrite (off : Nat) (data : Byte)
  /-- UNKNOWN_COMMAND (R168): a host write to COMMAND of a code that names no command. -/
  | unknownCommand (code : Byte)
  /-- EVENT_ACK (R173): a host write to EVENT_ACK. -/
  | eventAck (seq : Byte)
  /-- POSTED_WRITE_DRAIN (R163). -/
  | postedWriteDrain
  /-- SLOT_GRANT (R162). -/
  | slotGrant
  /-- POWER_OFF (R185): 0x51. -/
  | powerOff
  /-- POWER_OFF_COMPLETE (R186). -/
  | powerOffComplete
  /-- KEY_PRESS (R190): successive 10 ms samples of K[3:0] (R189), a set bit for a pressed (low) key. -/
  | keyPress (samples : List (BitVec 4))
  /-- FRAMING_CODE_FOUND (R93): bits on SLICE_IN at the line's bit timing, first bit first. -/
  | framingCodeFound (bits : List Bool)
  deriving DecidableEq, Repr

end Sys2Proof
end

