-- ==== Sys2Proof/Decode.lean ====
section
/-! DEFINITION. Decode.lean: reading a command from a word. No row of spec/opcode_table.json gives bits: a JD-460 command
is a bus cycle, an edge on a pin or a timer of its own, and no word spells one (log entry 35). -/

namespace Sys2Proof

/-- The command that a word of `nbits` bits spells: none. -/
def decodeTableWord (_nbits _w : Nat) : Option Instr := none

end Sys2Proof
end

