-- ==== Sys2Proof/Config.lean ====
section
/-! DEFINITION. Config.lean: the figures the manual fixes for every JD-460, and the free values: results the
manual leaves open, which nothing in Lean can evaluate. -/

namespace Sys2Proof.Config

/-- FREE VALUE (log entry 17). A pulse stands exactly half a drum target period from two reference pulses: R35 and R36
give the phase error both as +target/2 and as −target/2. `true` takes the positive one. -/
opaque phaseTie : Nat → Bool

/-- FREE VALUE (log entry 18). The tracking difference d of R36 when no drum PG pulse has come since the drum started:
the rule takes the nearest PG pulse, and there is none. It is reduced into −target/2..+target/2 where it is used. -/
opaque trackingBeforePg : Nat → Nat

/-- FREE VALUE (log entry 28). What the two bytes 0x028..0x029 show of a deferred step that does not fit a signed 16-bit
number: 11.3 gives the field two bytes and no rule limits a deferred step. -/
opaque wideStep : Int → Nat

/-- FREE VALUE (log entry 6). HWAIT was asserted by an event that is no host cycle, and the next thing that happens is a
host cycle: `true` takes it for the cycle in progress at that moment, which R165 completes, `false` for one that begins
later, which R165 holds. -/
opaque cycleInProgress : Nat → Bool

/-- R28: the drum target in µs, one frame period F (R39, R49), by the FR strap. -/
def framePeriod (fr30 : Bool) : Nat := if fr30 then 33367 else 40000

/-- 00_scope.md 0.9: frames per second by the FR strap. -/
def fps (fr30 : Bool) : Nat := if fr30 then 30 else 25

/-- R32: the SP period P of the capstan FG in µs. -/
def capstanPeriod (fr30 : Bool) : Nat := if fr30 then 2781 else 3333

/-- R51: the counter's limit in frames. -/
def counterLimit (fr30 : Bool) : Int := 36000 * (fps fr30 : Int) - 1

/-- R31, R32: the longest interval an FG measurement counts, in µs. -/
def fgLimit : Nat := 65535

/-- R9, R12: the threading and unthreading timeouts in µs. -/
def threadLimit : Nat := 6000000
/-- R13: the eject timeout in µs. -/
def ejectLimit : Nat := 4000000
/-- R14, R15: the idle and pause limits in µs. -/
def idleLimit : Nat := 300000000
/-- R17: the drum's lock allowance in µs. -/
def drumAllowance : Nat := 2000000
/-- R17: the capstan's lock allowance in µs. -/
def capstanAllowance : Nat := 1500000
/-- R24: how long the counter may stand still in a search, in µs. -/
def searchLimit : Nat := 4000000
/-- R47: the run-down after a motion, in µs. -/
def runDownLimit : Nat := 300000
/-- R50: the blank time that sets UNSURE, in µs. -/
def unsureLimit : Nat := 1000000
/-- R184: the rail timer's limit in µs. -/
def railLimit : Nat := 1000000
/-- R184: the hold timer's limit in µs. -/
def holdLimit : Nat := 50000
/-- R37: the FG pulses of one frame of tape at SP. -/
def fgPerFrame : Nat := 12
/-- R18, R19: the frames of a back-space and of a catch-up. -/
def pauseFrames : Nat := 30

/-- 4.2: the valid range of a working divider. -/
def dividerLow : Nat := 1600
/-- 4.2: the valid range of a working divider. -/
def dividerHigh : Nat := 18000

/-- R121: the claim timer's limit in s. -/
def claimLimit : Nat := 120
/-- R137: the absence timer's limit in s. -/
def absenceLimit : Nat := 90
/-- R138: the loss timer's limit in s. -/
def lossLimit : Nat := 60
/-- R139: the label overrun limit in s after the stop. -/
def overrunLimit : Nat := 10800

/-- Fuel of the in-event chain (log entry 9): more than the notices one event can raise. -/
def chainFuel : Nat := 128

end Sys2Proof.Config
end

