-- ==== Sys2Proof/Machine/State.lean ====
section
/-! DEFINITION. Machine/State.lean: every piece of state the manual gives the JD-460, as plain data, and the machine
after reset. Times are µs of the part's running time (log entry 1); dates and date-times that the manual compares are
counts of days and seconds from 1990-01-01 00:00:00. -/

namespace Sys2Proof.Machine

/-- RAM, and each shadow of a RAM table, in canonical form: addresses strictly rising, no cell equal to 0x00, which is
what an unlisted address reads as (log entry 7). -/
abbrev Memory := List Host.Cell

/-- Why a command stops the machine. No meaning raises one: every command answers a next state. -/
inductive Fault where
  /-- Raised by no meaning; the type is closed with it. Safe. -/
  | neverRaised
  deriving DecidableEq, Repr

/-- Why a command has no meaning. -/
inductive Refusal where
  /-- Raised by a dispatch arm whose row has no meaning yet: by none. Safe. -/
  | notModelled (mnemonic : String)
  deriving DecidableEq, Repr

/-! ### Named values -/

/-- The tape speeds (00_scope.md 0.9). -/
inductive Speed where
  | sp | lp | ep
  deriving DecidableEq, Repr

/-- Directions of tape motion. -/
inductive Dir where
  | forward | backward
  deriving DecidableEq, Repr

/-- The transport's and the tuner's owner (R4, R78). -/
inductive Owner where
  | panel | schedule
  deriving DecidableEq, Repr

/-- The mechanism states of 1.1. -/
inductive TransportState where
  | noCassette | unthreaded | threading | stop | play | still | record | recPause
  | cue | review | ff | rew | seek | unthreading | ejecting | fault
  deriving DecidableEq, Repr

/-- R8: what a TRANSPORT event names as its cause. -/
inductive Cause where
  | request | schedule | auto
  deriving DecidableEq, Repr

/-- Whose operation is at work: the tag and cause its TRANSPORT event will carry (R8). -/
structure Origin where
  tag : Byte
  cause : Cause
  deriving DecidableEq, Repr

/-- The target requests of 1.4, and STOP, which may replace one (R10). -/
inductive TargetRequest where
  | play | cue | review | ff | rew | stop | eject
  /-- RECORD after its source is tuned: speed, mark flag, start paused. -/
  | record (speed : Speed) (mark paused : Bool)
  | goto (target : Int)
  | indexSearch (dir : Dir) (count : Nat)
  deriving DecidableEq, Repr

/-- R1: a pending target with its arguments and tag. -/
structure Target where
  req : TargetRequest
  from_ : Origin
  deriving DecidableEq, Repr

/-- The fault codes of 11.6. -/
inductive FaultCode where
  | overcurrent | thermal | jam | servo | slack | cassette
  deriving DecidableEq, Repr

/-- R1: a latched fault with its detail. -/
structure FaultLatch where
  code : FaultCode
  detail : Nat
  deriving DecidableEq, Repr

/-- R18, R19: the phase of REC_PAUSE. -/
inductive RecPhase where
  | atRest | backSpace | catchUp
  deriving DecidableEq, Repr

/-- 1.9: the kind of a search. -/
inductive SearchKind where
  | goto | index
  deriving DecidableEq, Repr

/-- 1.9: the phase of a search. -/
inductive SearchPhase where
  | wind | approach | settle
  deriving DecidableEq, Repr

/-- 1.9: the search context. `target` is T of a GOTO, and M once an index search settles. -/
structure Search where
  kind : SearchKind
  tag : Byte
  /-- The direction of motion: the SEEK direction. -/
  dir : Dir
  phase : SearchPhase
  target : Int
  /-- Index search: the marks asked for, and the marks counted. -/
  count : Nat
  counted : Nat
  /-- The start position S. -/
  start : Int
  /-- Since when the counter has not changed (the 4 s rule of R24). -/
  since : Nat
  deriving DecidableEq, Repr

/-- The load motor's output (1.5). -/
inductive LoadMotor where
  | off | forward | reverse
  deriving DecidableEq, Repr

/-- Transport Controller (R1). Timers hold the time they started. -/
structure Trc where
  st : TransportState
  owner : Owner
  pending : Option Target
  fault : Option FaultLatch
  /-- Cassette present. -/
  cassette : Bool
  /-- Record tab latched present. -/
  tab : Bool
  attempt : Nat
  /-- R11: the reverse run after a first threading failure. -/
  reverseRun : Bool
  /-- The 6 s timer of threading or unthreading, or the 4 s timer of an eject. -/
  loadTimer : Option Nat
  idle : Option Nat
  pauseT : Option Nat
  rewindDue : Bool
  markDue : Bool
  pausePoint : Option Int
  search : Option Search
  phase : RecPhase
  heldResume : Option Origin
  /-- The RESUME of the catch-up under way. -/
  resumeBy : Origin
  writing : Bool
  /-- R17: the drum's and the capstan's lock allowance. -/
  drumAllow : Option Nat
  capAllow : Option Nat
  /-- What an unthreading or eject under way ends with. -/
  op : Origin
  loadMotor : LoadMotor
  brake : Bool
  deriving DecidableEq, Repr

/-- The drive modes: the rows of R29. -/
inductive Row where
  | allOff | still | rest | backSpace | catchUp | record | play | cue | review | ff | rew
  | seekWind (d : Dir)
  /-- SEEK in APPROACH or SETTLE. -/
  | seekSlow (d : Dir)
  deriving DecidableEq, Repr

/-- R28: the drum's lock. -/
inductive DrumLock where
  | unlocked | speed | phase
  deriving DecidableEq, Repr

/-- R28, R34: the frame reference source. -/
inductive RefSource where
  | external | internal
  deriving DecidableEq, Repr

/-- R38: where the speed in use comes from. -/
inductive SpeedOrigin where
  | recorded | detected | default
  deriving DecidableEq, Repr

/-- R40, R41: the timing record of one reel, in ms. -/
structure Reel where
  /-- Marks in segment, 0..5. -/
  marks : Nat
  /-- Times of the latest four marks of the segment, newest first. -/
  times : List Nat
  interval : Option Nat
  /-- The period; none is invalid. -/
  period : Option Nat
  /-- The end of the stall allowance; none when the stall timer is stopped. -/
  stall : Option Nat
  deriving DecidableEq, Repr

/-- R37: a frame run: FG pulses counted, and FG pulses asked for. -/
structure FrameRun where
  done : Nat
  goal : Nat
  deriving DecidableEq, Repr

/-- Servo Unit (R28). -/
structure Srv where
  row : Row
  /-- R29: the capstan of the RECORD row has been started by TRC. -/
  capOn : Bool
  dir : Dir
  drumDuty : Nat
  capDuty : Nat
  reelDuty : Nat
  drumLock : DrumLock
  /-- The capstan is in SPEED_LOCK. -/
  capLock : Bool
  drumIn : Nat
  drumOut : Nat
  capIn : Nat
  capOut : Nat
  phaseIn : Nat
  phaseOut : Nat
  source : RefSource
  /-- The latest internal reference pulse. -/
  refLast : Nat
  /-- The last accepted frame start. -/
  frameStart : Option Nat
  /-- The last FG pulse since the drive started, and from when the next gap counts. -/
  drumFg : Option Nat
  drumGap : Nat
  capFg : Option Nat
  capGap : Nat
  /-- The last drum PG pulse. -/
  pg : Option Nat
  /-- R36: the drum PG pulses before the last one that a CTL pulse still to be read may be nearest to, newest first. -/
  pgBefore : List Nat
  speed : Speed
  origin : SpeedOrigin
  candidate : Option Speed
  detCount : Nat
  run : Option FrameRun
  supply : Reel
  takeup : Reel
  windSettled : Bool
  /-- R30: the duties that the PWM outputs carry in the PWM period that runs. -/
  drumPwm : Nat
  capPwm : Nat
  reelPwm : Nat
  deriving DecidableEq, Repr

/-- R45, R49, R50: the blank timer. -/
inductive BlankTimer where
  | stopped
  | running (since : Nat)
  /-- Stopped with its elapsed time held while the lock is lost. -/
  | held (elapsed : Nat)
  deriving DecidableEq, Repr

/-- R49: the extrapolation, with the time of its last frame. -/
inductive Extrapolation where
  | off
  | running (last : Nat)
  | paused
  deriving DecidableEq, Repr

/-- R55: one read pulse of the mark window. -/
structure ReadPulse where
  frame : Int
  long : Bool
  deriving DecidableEq, Repr

/-- R56: a pending backward mark. -/
structure PendingMark where
  lowest : Int
  shorts : Nat
  deriving DecidableEq, Repr

/-- R54: a mark being written. -/
structure MarkWrite where
  first : Int
  frames : Nat
  deriving DecidableEq, Repr

/-- R47: the run-down after a motion. -/
structure RunDown where
  dir : Dir
  since : Nat
  deriving DecidableEq, Repr

/-- Position Unit (R45). -/
structure Pos where
  counter : Int
  /-- The counter source is CAPSTAN. -/
  capSource : Bool
  overrange : Bool
  unsure : Bool
  blank : BlankTimer
  extrap : Extrapolation
  runDown : Option RunDown
  /-- The mark window, newest pulse first. -/
  window : List ReadPulse
  pendingMark : Option PendingMark
  lastMark : Option Int
  markWrite : Option MarkWrite
  /-- The previous read pulse of the motion. -/
  lastPulse : Option Nat
  profile : Option Nat
  noMatch : Bool
  candidate : Option Nat
  noMatchCount : Nat
  r : Option Nat
  remaining : Nat
  /-- The profile shadow: the 128 bytes of 0x080. -/
  profiles : Memory
  deriving DecidableEq, Repr

/-- The tuner states of 4.1. -/
inductive TunerState where
  | idle | hold | settling | acquire | locked | noSignal | drift | line
  deriving DecidableEq, Repr

/-- R66: the tuning kind. -/
inductive TuningKind where
  | none | preset | direct | line | scan
  deriving DecidableEq, Repr

/-- R67: the band. -/
inductive Band where
  | low | mid | high
  deriving DecidableEq, Repr

/-- R68: a synthesiser word: its divider and its band. -/
structure SynthWord where
  divider : Nat
  band : Band
  deriving DecidableEq, Repr

/-- 4.7: the direction of a scan. -/
inductive ScanDir where
  | up | down
  deriving DecidableEq, Repr

/-- 4.7: the phase of a scan. -/
inductive ScanPhase where
  | step | acquire | dwell | store
  deriving DecidableEq, Repr

/-- R82: a station's record before its slot is chosen. -/
structure Station where
  divider : Nat
  offset : Int
  net : Nat
  name : List Byte
  deriving DecidableEq, Repr

/-- R66: the scan context. -/
structure Scan where
  dir : ScanDir
  tag : Byte
  base : Nat
  phase : ScanPhase
  station : Option Station
  deriving DecidableEq, Repr

/-- R77, R83, R85: a write group TUN holds. -/
inductive TunHeld where
  /-- A 1-byte offset write for a preset. -/
  | offset (preset : Nat) (value : Byte)
  /-- A 16-byte record of a STORE. -/
  | record (preset : Nat) (bytes : List Byte)
  /-- The record of the scan's station; its slot is chosen when it is handed. -/
  | station (s : Station)
  deriving DecidableEq, Repr

/-- Tuner Control (R66). -/
structure Tun where
  st : TunerState
  owner : Owner
  kind : TuningKind
  preset : Option Nat
  base : Nat
  offset : Int
  band : Band
  net : Nat
  tag : Byte
  samples : Nat
  centre : Nat
  offCentre : Nat
  syncLoss : Nat
  /-- Tracking hold. -/
  hold : Bool
  /-- R75: the acquisition under way was begun by the NO_SIGNAL watch. -/
  quiet : Bool
  sending : Option SynthWord
  waiting : Option SynthWord
  scan : Option Scan
  held : List TunHeld
  /-- The preset shadow: the 1,600 bytes of 0x400 (slot 0 never listed). -/
  presets : Memory
  deriving DecidableEq, Repr

/-- R89: the slicer state. -/
inductive SlicerState where
  | off | waitField | run
  deriving DecidableEq, Repr

/-- R89: the assembler. -/
inductive Assembler where
  | idle | runIn | framed | done
  deriving DecidableEq, Repr

/-- R92: a line window. -/
structure LineWindow where
  first : Nat
  size : Nat
  mask : BitVec 16
  deriving DecidableEq, Repr

/-- R89, R97, R98, R99: a packet of the FIFO. -/
inductive Packet where
  | time (year month day hour minute second code : Byte)
  | label (net : Nat) (month day hour minute : Byte) (status : Nat)
  | name (net : Nat) (chars : List Byte)
  deriving DecidableEq, Repr

/-- Line Data Slicer (R89). -/
structure Lds where
  st : SlicerState
  line : Nat
  window : LineWindow
  field : LineWindow
  asm : Assembler
  /-- R93: the line's framing code has already failed; the line is not searched again. -/
  searched : Bool
  bytes : List (BitVec 9)
  fifo : List Packet
  /-- R101, R102: the takes that are due. -/
  clkTakes : Nat
  schTakes : Nat
  tunTakes : Nat
  /-- R103: how many of them, the oldest, an emptying of the FIFO has left with nothing to find. -/
  clkVoid : Nat
  schVoid : Nat
  tunVoid : Nat
  deriving DecidableEq, Repr

/-- A date and time of day (00_scope.md 0.10). -/
structure DateTime where
  year : Nat
  month : Nat
  day : Nat
  hour : Nat
  minute : Nat
  second : Nat
  deriving DecidableEq, Repr

/-- R116: the retained record. -/
structure Retained where
  valid : Bool
  entry : Fin 16
  /-- The occurrence date, in days. -/
  date : Nat
  start : DateTime
  counter : Int
  deriving DecidableEq, Repr

/-- R111, R112: the held sample. -/
structure Sample where
  d : Int
  code : Int
  age : Nat
  deriving DecidableEq, Repr

/-- Clock Calendar (R104). -/
structure Clk where
  time : DateTime
  sub : Nat
  valid : Bool
  limit : Bool
  code : Option Int
  retained : Retained
  sample : Option Sample
  deferred : Option Int
  running : Bool
  deriving DecidableEq, Repr

/-- The entry states of 7.2. -/
inductive EntryState where
  | empty | draft | waiting | preroll | active | paused | ended
  deriving DecidableEq, Repr

/-- R147: the outcomes. -/
inductive EndOutcome where
  | none | complete | truncated | short | missed | aborted | powerFail
  deriving DecidableEq, Repr

/-- R147: the reasons. -/
inductive Reason where
  | none | timerOff | overlap | transportBusy | step | noCassette | protected_ | source | notReady | label
  | tapeEnd | clock | supplyOff | host | override_ | fault | mainLost | supplyLost | overrun
  deriving DecidableEq, Repr

/-- R128: the wait reasons. -/
inductive WaitReason where
  | none | timerOff | clock | overlap | transport
  deriving DecidableEq, Repr

/-- R118: the status of one programme entry: its part fields and its wait reason. `next` is the start of the next
occurrence in seconds, `lastRun` a date in days. -/
structure Entry where
  state : EntryState
  outcome : EndOutcome
  lastRun : Option Nat
  next : Option Nat
  speed : Option Speed
  late : Bool
  short : Bool
  unknownTape : Bool
  fallback : Bool
  wait : WaitReason
  deriving DecidableEq, Repr

/-- R117: the run context. Date in days, start and stop in seconds. -/
structure Run where
  entry : Fin 16
  date : Nat
  start : Nat
  stop : Nat
  /-- The mode is LABEL. -/
  label : Bool
  net : Nat
  speed : Option Speed
  late : Bool
  short : Bool
  unknownTape : Bool
  fallback : Bool
  markWritten : Bool
  startDue : Bool
  ready : Bool
  runningSeen : Bool
  /-- Label watch has begun. -/
  watch : Bool
  absence : Nat
  loss : Nat
  seen : Bool
  actualStart : Option DateTime
  counterAtStart : Int
  remaining : Nat
  deriving DecidableEq, Repr

/-- R118, R148: a write group SCH holds. -/
inductive SchHeld where
  | status (entry : Fin 16) (bytes : List Byte)
  | log (slot seq : Nat) (entry : Fin 16) (bytes : List Byte)
  deriving DecidableEq, Repr

/-- Programme Scheduler (R117). -/
structure Sch where
  /-- The programme shadow: the host fields of the 512 bytes of 0x200. -/
  prog : Memory
  entries : Vector Entry 16
  queue : List (Fin 16)
  claim : Option (Fin 16 × Nat)
  run : Option Run
  held : List SchHeld
  logSlot : Nat
  logSeq : Nat
  deriving DecidableEq, Repr

/-- R162: the blocks that hold write groups. -/
inductive Block where
  | rqu | sch | tun | pwr
  deriving DecidableEq, Repr

/-- R162: one byte of a write group with its pending mark. -/
structure GroupByte where
  value : Byte
  pending : Bool
  deriving DecidableEq, Repr

/-- R162: a write group: a start offset in the deck region and 1..32 bytes. -/
structure WriteGroup where
  start : Nat
  bytes : List GroupByte
  deriving DecidableEq, Repr

/-- R160: the groups of the live block. -/
inductive LiveGroup where
  | clock | counter | remain | transport | servo | tuner | schedule | events | power | log
  deriving DecidableEq, Repr

/-- Memory Path (R151). -/
structure Mpath where
  /-- The settings shadow: the 32 bytes of 0x060 as written. -/
  settings : Memory
  latch : Option (LiveGroup × List Byte)
  queue : List WriteGroup
  grants : List Block
  urgent : Bool
  hwait : Bool
  /-- The model's own field (log entry 6): HWAIT was asserted by an event that is no host cycle, and neither a host cycle
  nor a drain has come since, so that a host cycle may be the one in progress of R165. -/
  cycleOpen : Bool
  deriving DecidableEq, Repr

/-- 9.3: the kind, subject and details of an event. -/
structure Event where
  kind : Byte
  subject : Byte
  d0 : Byte
  d1 : Byte
  d2 : Byte
  deriving DecidableEq, Repr

/-- Request Unit (R167). -/
structure Rqu where
  tag : Byte
  arg0 : Byte
  arg1 : Byte
  arg2 : Byte
  arg3 : Byte
  arg4 : Byte
  arg5 : Byte
  head : Nat
  count : Nat
  headSeq : Nat
  overflow : Option Nat
  refused : Nat
  /-- The newest entry, for the comparison of R158; read only while the count is not 0. -/
  newest : Event
  held : List WriteGroup
  irq : Bool
  deriving DecidableEq, Repr

/-- R178: the power states. -/
inductive PowerState where
  | backup | standby | on
  deriving DecidableEq, Repr

/-- 10.1: the phases of ON. -/
inductive OnPhase where
  | rising | resetHold | running | stopping
  deriving DecidableEq, Repr

/-- R184: the wake causes. -/
inductive WakeCause where
  | none | power | eject | cassette | timer
  deriving DecidableEq, Repr

/-- R178: the power-off. -/
inductive PowerOff where
  | none
  | host (tag : Byte)
  | auto
  deriving DecidableEq, Repr

/-- R184: the hold timer. -/
inductive HoldTimer where
  | stopped
  | running (since : Nat)
  | reached
  deriving DecidableEq, Repr

/-- R189: the qualifier and latch of one key; `true` is pressed. -/
structure Key where
  candidate : Bool
  count : Nat
  latch : Bool
  deriving DecidableEq, Repr

/-- R182, R190: a write group PWR holds. -/
inductive PwrHeld where
  | init (g : WriteGroup)
  /-- A toggle of the flags byte at 0x060, with the byte made. -/
  | toggle (flags : Byte)
  deriving DecidableEq, Repr

/-- Power and Panel (R178). -/
structure Pwr where
  power : PowerState
  phase : OnPhase
  cause : WakeCause
  keySince : Bool
  off : PowerOff
  regionReady : Bool
  railTimer : Option Nat
  holdTimer : HoldTimer
  key0 : Key
  key1 : Key
  key2 : Key
  key3 : Key
  wakeDue : Option WakeCause
  held : List PwrHeld
  mainEn : Bool
  /-- HRST# is asserted. -/
  hrst : Bool
  deriving DecidableEq, Repr

/-- The pins as last seen (00_scope.md 0.8). -/
structure Pins where
  cassSw : Bool
  tabSw : Bool
  unthreadedSw : Bool
  threadedSw : Bool
  startSense : Bool
  endSense : Bool
  motorOc : BitVec 4
  thermal : Bool
  mainGood : Bool
  stbyGood : Bool
  wb : BitVec 3
  fr30 : Bool
  aftHi : Bool
  aftLo : Bool
  syncOk : Bool
  fieldFirst : Bool
  deriving DecidableEq, Repr

/-- The straps as sampled at the standby start (R28, R151). -/
structure Straps where
  base : BitVec 3
  fr30 : Bool
  deriving DecidableEq, Repr

/-- R115: a step notice. -/
structure StepNotice where
  old : DateTime
  new : DateTime
  /-- The weekday of the new date. -/
  weekday : Nat
  validBefore : Bool
  deriving DecidableEq, Repr

/-- What a block has told SCH in the event under way (log entry 9). -/
inductive Notice where
  /-- R132: TRC reports a state it enters while SCHEDULE owns the transport. -/
  | transport (st : TransportState)
  /-- R22, R145: TRC latched a fault. -/
  | fault (code : FaultCode)
  /-- R20, R145: TRC met a tape limit. -/
  | tapeLimit
  /-- R5, R145: TRC took a STOP with override. -/
  | override_
  /-- R115: CLK applied a step. -/
  | step (n : StepNotice)
  /-- R134, R135, R139: test the run context against the clock. -/
  | runTests
  /-- R128: run the pre-roll check. -/
  | check
  /-- R149: test the auto-off request. -/
  | autoOff
  /-- R188: the main rail is lost. -/
  | mainLost
  deriving DecidableEq, Repr

/-- The machine. -/
structure State where
  /-- The commands that wait, first in first out. -/
  pending : List Instr
  /-- The part's running time in µs (log entry 1). -/
  now : Nat
  /-- What the free values are applied to (log entries 6, 17 and 18). -/
  free : Nat
  notices : List Notice
  /-- Entries the pre-roll check has taken up in the event under way (log entry 10). -/
  taken : List (Fin 16)
  mem : Memory
  /-- What the part drove on HD at the last host read. -/
  hd : Option Byte
  /-- The high time of the last pulse on CTL_OUT. -/
  ctlOut : Option Nat
  pins : Pins
  straps : Straps
  trc : Trc
  srv : Srv
  pos : Pos
  tun : Tun
  lds : Lds
  clk : Clk
  sch : Sch
  mpath : Mpath
  rqu : Rqu
  pwr : Pwr
  deriving DecidableEq, Repr

/-! ### Reset and standby-start values -/

/-- No tag, cause AUTO: the origin of TRC's own decisions (R8, R170). -/
def Origin.auto : Origin := ⟨0, .auto⟩

/-- R1 at a standby start, before the switches choose the state. -/
def Trc.start : Trc :=
  { st := .noCassette, owner := .panel, pending := none, fault := none, cassette := false, tab := false,
    attempt := 1, reverseRun := false, loadTimer := none, idle := none, pauseT := none, rewindDue := false,
    markDue := false, pausePoint := none, search := none, phase := .atRest, heldResume := none,
    resumeBy := .auto, writing := false, drumAllow := none, capAllow := none, op := .auto,
    loadMotor := .off, brake := false }

/-- R28 at a standby start: one reel. -/
def Reel.start : Reel := { marks := 0, times := [], interval := none, period := none, stall := none }

/-- R28 at a standby start, `now` being its time. -/
def Srv.start (now : Nat) : Srv :=
  { row := .allOff, capOn := false, dir := .forward, drumDuty := 0, capDuty := 0, reelDuty := 0,
    drumLock := .unlocked, capLock := false, drumIn := 0, drumOut := 0, capIn := 0, capOut := 0,
    phaseIn := 0, phaseOut := 0, source := .internal, refLast := now, frameStart := none, drumFg := none,
    drumGap := 0, capFg := none, capGap := 0, pg := none, pgBefore := [], speed := .sp, origin := .default,
    candidate := none, detCount := 0, run := none, supply := .start, takeup := .start, windSettled := false, drumPwm := 0,
    capPwm := 0, reelPwm := 0 }

/-- R45 at a standby start, before the profile shadow is loaded. -/
def Pos.start : Pos :=
  { counter := 0, capSource := false, overrange := false, unsure := false, blank := .stopped, extrap := .off,
    runDown := none, window := [], pendingMark := none, lastMark := none, markWrite := none, lastPulse := none,
    profile := none, noMatch := false, candidate := none, noMatchCount := 0, r := none, remaining := 0xFFFF,
    profiles := [] }

/-- R66 at a standby start, before the preset shadow is loaded. -/
def Tun.start : Tun :=
  { st := .idle, owner := .panel, kind := .none, preset := none, base := 0, offset := 0, band := .low, net := 0,
    tag := 0, samples := 0, centre := 0, offCentre := 0, syncLoss := 0, hold := false, quiet := false,
    sending := none, waiting := none, scan := none, held := [], presets := [] }

/-- R92: the default line window. -/
def LineWindow.start : LineWindow := { first := 14, size := 6, mask := 0x003F }

/-- R89 at a standby start, before the window shadow is loaded. -/
def Lds.start : Lds :=
  { st := .off, line := 0, window := .start, field := .start, asm := .idle, searched := false, bytes := [],
    fifo := [], clkTakes := 0, schTakes := 0, tunTakes := 0, clkVoid := 0, schVoid := 0, tunVoid := 0 }

/-- R104 after a backup reset: the time. -/
def DateTime.start : DateTime := { year := 0, month := 1, day := 1, hour := 0, minute := 0, second := 0 }

/-- R104, R116 after a backup reset: the retained record is invalid. -/
def Retained.cleared : Retained :=
  { valid := false, entry := 0, date := 0, start := .start, counter := 0 }

/-- R104 after a backup reset. -/
def Clk.reset : Clk :=
  { time := .start, sub := 0, valid := false, limit := false, code := none, retained := .cleared,
    sample := none, deferred := none, running := false }

/-- R104 at a standby start: the logic domain's items; the backup domain is unchanged. -/
def Clk.logicStart (c : Clk) : Clk := { c with sample := none, deferred := none, running := false }

/-- R200: the status of an initialised programme entry. -/
def Entry.start : Entry :=
  { state := .empty, outcome := .none, lastRun := none, next := none, speed := none, late := false,
    short := false, unknownTape := false, fallback := false, wait := .none }

/-- R117 at a standby start of an initialised region (R182). -/
def Sch.start : Sch :=
  { prog := [], entries := Vector.replicate 16 .start, queue := [], claim := none, run := none, held := [],
    logSlot := 0, logSeq := 1 }

/-- 11.4: the settings block at its defaults. -/
def defaultSettings : Memory :=
  [(0, 0x1B), (1, 1), (2, 0x0A), (3, 0x03), (4, 45), (5, 1), (6, 14), (7, 6), (8, 0x3F)]

/-- R151 at a standby start of an initialised region. -/
def Mpath.start : Mpath :=
  { settings := defaultSettings, latch := none, queue := [], grants := [], urgent := false, hwait := false,
    cycleOpen := false }

/-- R167 at a standby start of an initialised region. -/
def Rqu.start : Rqu :=
  { tag := 0, arg0 := 0, arg1 := 0, arg2 := 0, arg3 := 0, arg4 := 0, arg5 := 0, head := 0, count := 0,
    headSeq := 0, overflow := none, refused := 0, newest := ⟨0, 0, 0, 0, 0⟩, held := [], irq := false }

/-- R178: a key at a standby start. -/
def Key.start : Key := { candidate := false, count := 0, latch := false }

/-- R178 at a standby start. -/
def Pwr.start : Pwr :=
  { power := .standby, phase := .rising, cause := .none, keySince := false, off := .none, regionReady := false,
    railTimer := none, holdTimer := .stopped, key0 := .start, key1 := .start, key2 := .start, key3 := .start,
    wakeDue := none, held := [], mainEn := false, hrst := true }

/-- The pins before anything has been seen on them (log entry 8). -/
def Pins.start : Pins :=
  { cassSw := false, tabSw := false, unthreadedSw := true, threadedSw := false, startSense := false,
    endSense := false, motorOc := 0, thermal := false, mainGood := false, stbyGood := false, wb := 0,
    fr30 := false, aftHi := false, aftLo := false, syncOk := false, fieldFirst := false }

/-- The machine right after reset (log entry 8): a backup reset has set the backup domain (R104), the standby supply is
absent, and the power state is BACKUP. The unpowered logic is shown at its standby-start values. -/
def State.reset : State :=
  { pending := [], now := 0, free := 0, notices := [], taken := [], mem := [], hd := none, ctlOut := none,
    pins := .start, straps := ⟨0, false⟩, trc := .start, srv := .start 0, pos := .start, tun := .start,
    lds := .start, clk := .reset, sch := .start, mpath := .start, rqu := .start,
    pwr := { Pwr.start with power := .backup } }

/-! ### One update per field; their small lemmas stand in Laws/State.lean -/

/-- The machine with its field `pending` replaced. -/
def State.setPending (s : State) (x : List Instr) : State := { s with pending := x }
/-- The machine with its field `now` replaced. -/
def State.setNow (s : State) (x : Nat) : State := { s with now := x }
/-- The machine with its field `free` replaced. -/
def State.setFree (s : State) (x : Nat) : State := { s with free := x }
/-- The machine with its field `notices` replaced. -/
def State.setNotices (s : State) (x : List Notice) : State := { s with notices := x }
/-- The machine with its field `taken` replaced. -/
def State.setTaken (s : State) (x : List (Fin 16)) : State := { s with taken := x }
/-- The machine with its field `mem` replaced. -/
def State.setMem (s : State) (x : Memory) : State := { s with mem := x }
/-- The machine with its field `hd` replaced. -/
def State.setHd (s : State) (x : Option Byte) : State := { s with hd := x }
/-- The machine with its field `ctlOut` replaced. -/
def State.setCtlOut (s : State) (x : Option Nat) : State := { s with ctlOut := x }
/-- The machine with its field `pins` replaced. -/
def State.setPins (s : State) (x : Pins) : State := { s with pins := x }
/-- The machine with its field `straps` replaced. -/
def State.setStraps (s : State) (x : Straps) : State := { s with straps := x }
/-- The machine with its field `trc` replaced. -/
def State.setTrc (s : State) (x : Trc) : State := { s with trc := x }
/-- The machine with its field `srv` replaced. -/
def State.setSrv (s : State) (x : Srv) : State := { s with srv := x }
/-- The machine with its field `pos` replaced. -/
def State.setPos (s : State) (x : Pos) : State := { s with pos := x }
/-- The machine with its field `tun` replaced. -/
def State.setTun (s : State) (x : Tun) : State := { s with tun := x }
/-- The machine with its field `lds` replaced. -/
def State.setLds (s : State) (x : Lds) : State := { s with lds := x }
/-- The machine with its field `clk` replaced. -/
def State.setClk (s : State) (x : Clk) : State := { s with clk := x }
/-- The machine with its field `sch` replaced. -/
def State.setSch (s : State) (x : Sch) : State := { s with sch := x }
/-- The machine with its field `mpath` replaced. -/
def State.setMpath (s : State) (x : Mpath) : State := { s with mpath := x }
/-- The machine with its field `rqu` replaced. -/
def State.setRqu (s : State) (x : Rqu) : State := { s with rqu := x }
/-- The machine with its field `pwr` replaced. -/
def State.setPwr (s : State) (x : Pwr) : State := { s with pwr := x }

end Sys2Proof.Machine
end

