-- ==== Sys2Proof/Machine/Calendar.lean ====
section
/-! DEFINITION. Machine/Calendar.lean: calendar arithmetic of R105, R106 and R107. -/

namespace Sys2Proof.Machine

/-- R105: 1990 + year offset is divisible by 4. -/
def isLeap (year : Nat) : Bool := (1990 + year) % 4 == 0

/-- R105: the last day of a month. -/
def lastDay (year month : Nat) : Nat :=
  if month == 2 then (if isLeap year then 29 else 28)
  else if month == 4 || month == 6 || month == 9 || month == 11 then 30
  else 31

/-- A valid calendar date of the clock's range: year offset 0..99 (R109). -/
def validDate (year month day : Nat) : Bool :=
  year ≤ 99 && 1 ≤ month && month ≤ 12 && 1 ≤ day && day ≤ lastDay year month

/-- A valid time of day in hours and minutes. -/
def validHm (hour minute : Nat) : Bool := hour ≤ 23 && minute ≤ 59

/-- The days of a year before the first of a month. -/
def monthStart (year month : Nat) : Nat :=
  let base := match month with
    | 2 => 31 | 3 => 59 | 4 => 90 | 5 => 120 | 6 => 151 | 7 => 181 | 8 => 212 | 9 => 243 | 10 => 273
    | 11 => 304 | 12 => 334 | _ => 0
  if 3 ≤ month && isLeap year then base + 1 else base

/-- The days from 1990-01-01 to the first of a year; the leap years before year offset y are those at 2, 6, 10, …. -/
def yearStart (year : Nat) : Nat := 365 * year + (year + 1) / 4

/-- R106: the number of days from 1990-01-01 to a date. -/
def daysOf (year month day : Nat) : Nat := yearStart year + monthStart year month + (day - 1)

/-- R106: the weekday of a day count, 0 Monday: 1990-01-01 is a Monday. -/
def weekdayOf (days : Nat) : Nat := days % 7

/-- The seconds from 1990-01-01 00:00:00 to a date-time. -/
def DateTime.secs (t : DateTime) : Nat :=
  daysOf t.year t.month t.day * 86400 + t.hour * 3600 + t.minute * 60 + t.second

/-- The days from 1990-01-01 to the date of a date-time. -/
def DateTime.days (t : DateTime) : Nat := daysOf t.year t.month t.day

/-- The year offset that holds a day count. -/
def yearOfDays (n : Nat) : Nat := if yearStart (n / 365) ≤ n then n / 365 else n / 365 - 1

/-- The latest month up to `month` that starts at or before the day `n` of the year. -/
def monthOfDay (year n : Nat) : Nat → Nat
  | 0 => 1
  | month + 1 => if monthStart year (month + 1) ≤ n then month + 1 else monthOfDay year n month

/-- The date of a day count, with a time of day. -/
def dateOfDays (n hour minute second : Nat) : DateTime :=
  let year := yearOfDays n
  let inYear := n - yearStart year
  let month := monthOfDay year inYear 12
  { year, month, day := inYear - monthStart year month + 1, hour, minute, second }

/-- The date-time of a count of seconds. -/
def dateTimeOf (t : Nat) : DateTime :=
  dateOfDays (t / 86400) (t % 86400 / 3600) (t % 3600 / 60) (t % 60)

/-- R107: the upper limit of the clock. -/
def limitTime : DateTime := { year := 99, month := 12, day := 31, hour := 23, minute := 59, second := 59 }

/-- R105: the next second, carried upward. -/
def DateTime.tick (t : DateTime) : DateTime :=
  if t.second < 59 then { t with second := t.second + 1 }
  else if t.minute < 59 then { t with second := 0, minute := t.minute + 1 }
  else if t.hour < 23 then { t with second := 0, minute := 0, hour := t.hour + 1 }
  else if t.day < lastDay t.year t.month then { t with second := 0, minute := 0, hour := 0, day := t.day + 1 }
  else if t.month < 12 then { t with second := 0, minute := 0, hour := 0, day := 1, month := t.month + 1 }
  else { year := t.year + 1, month := 1, day := 1, hour := 0, minute := 0, second := 0 }

/-- R107: a date-time of the clock's range. -/
def DateTime.wf (t : DateTime) : Bool :=
  validDate t.year t.month t.day && t.hour ≤ 23 && t.minute ≤ 59 && t.second ≤ 59

end Sys2Proof.Machine
end

