-- ==== Sys2Proof/Machine/Memory.lean ====
section
/-! DEFINITION. Machine/Memory.lean: reading, writing and cutting a canonical memory: the RAM and the shadows. -/

namespace Sys2Proof.Machine

/-- The byte at an address; an unlisted address reads 0x00 (log entry 7). -/
def Memory.read (m : Memory) (a : Nat) : Byte :=
  match m with
  | [] => 0
  | (k, v) :: rest => if k = a then v else Memory.read rest a

/-- The memory with a byte written, in canonical form: 0x00 is written by unlisting the address. -/
def Memory.write (m : Memory) (a : Nat) (v : Byte) : Memory :=
  match m with
  | [] => if v = 0 then [] else [(a, v)]
  | (k, w) :: rest =>
    if a < k then (if v = 0 then (k, w) :: rest else (a, v) :: (k, w) :: rest)
    else if a = k then (if v = 0 then rest else (a, v) :: rest)
    else (k, w) :: Memory.write rest a v

/-- Successive bytes written from an address up. -/
def Memory.writeAll (m : Memory) (a : Nat) : List Byte → Memory
  | [] => m
  | v :: rest => Memory.writeAll (m.write a v) (a + 1) rest

/-- Every listed address lies above `low`, the addresses rise, and no listed byte is 0x00. -/
def Memory.wfFrom (low : Option Nat) : Memory → Bool
  | [] => true
  | (k, v) :: rest =>
    (match low with | none => true | some l => decide (l < k)) && v != 0 && Memory.wfFrom (some k) rest

/-- The canonical form. -/
def Memory.wf (m : Memory) : Bool := Memory.wfFrom none m

/-- The cells of `len` addresses from `start`, keyed from 0: how a shadow is loaded from the RAM (R181). -/
def Memory.slice (m : Memory) (start len : Nat) : Memory :=
  match m with
  | [] => []
  | (k, v) :: rest =>
    if start ≤ k && k < start + len then (k - start, v) :: Memory.slice rest start len
    else Memory.slice rest start len

/-- `len` bytes from an address up. -/
def Memory.bytes (m : Memory) (a : Nat) : Nat → List Byte
  | 0 => []
  | len + 1 => m.read a :: Memory.bytes m (a + 1) len

/-- A little-endian 16-bit number (0.10). -/
def Memory.read16 (m : Memory) (a : Nat) : Nat := (m.read a).toNat + 256 * (m.read (a + 1)).toNat

end Sys2Proof.Machine
end

