-- ==== Sys2Proof/Machine/Operands.lean ====
section
/-! DEFINITION. Machine/Operands.lean: the codes of chapter 11, the argument cells, and the fields of the settings,
profile, preset and programme records as the shadows hold them. -/

namespace Sys2Proof.Machine

/-! ### Numbers and bytes -/

/-- A number kept within a range. -/
def clampNat (low high n : Nat) : Nat := if n < low then low else if high < n then high else n

/-- A signed number kept within a range. -/
def clampInt (low high x : Int) : Int := if x < low then low else if high < x then high else x

/-- A number as two bytes, low byte first (0.10). -/
def le16 (n : Nat) : List Byte := [Byte.of n, Byte.of (n / 256)]

/-- A signed number as one byte. -/
def signedByte (x : Int) : Byte := BitVec.ofInt 8 x

/-- A signed number as two bytes. -/
def signed16 (x : Int) : List Byte := le16 (BitVec.ofInt 16 x).toNat

/-- A signed number as three bytes. -/
def signed24 (x : Int) : List Byte :=
  let n := (BitVec.ofInt 24 x).toNat
  [Byte.of n, Byte.of (n / 256), Byte.of (n / 65536)]

/-- A bit as a number, in a place. -/
def bitAt (b : Bool) (place : Nat) : Nat := if b then 2 ^ place else 0

/-! ### Codes of 11.6 and 11.7 -/

/-- The speed multiplier m (0.9), which is also the speed code of 11.6. -/
def Speed.m : Speed → Nat
  | .sp => 1 | .lp => 2 | .ep => 3

/-- The speed of a code 1..3. -/
def speedOf (n : Nat) : Option Speed :=
  match n with
  | 1 => some .sp | 2 => some .lp | 3 => some .ep | _ => none

/-- 11.6: transport states. -/
def TransportState.code : TransportState → Nat
  | .noCassette => 0 | .unthreaded => 1 | .threading => 2 | .stop => 3 | .play => 4 | .still => 5 | .record => 6
  | .recPause => 7 | .cue => 8 | .review => 9 | .ff => 10 | .rew => 11 | .seek => 12 | .unthreading => 13
  | .ejecting => 14 | .fault => 15

/-- 11.6: TRANSPORT causes. -/
def Cause.code : Cause → Nat
  | .request => 1 | .schedule => 2 | .auto => 3

/-- 11.6: fault codes. -/
def FaultCode.code : FaultCode → Nat
  | .overcurrent => 1 | .thermal => 2 | .jam => 3 | .servo => 4 | .slack => 5 | .cassette => 6

/-- 11.2: the command code of a target request. -/
def TargetRequest.code : TargetRequest → Nat
  | .play => 0x01 | .record _ _ _ => 0x02 | .stop => 0x03 | .ff => 0x06 | .rew => 0x07 | .cue => 0x08
  | .review => 0x09 | .eject => 0x0A | .indexSearch _ _ => 0x0B | .goto _ => 0x0C

/-- 11.6: tuner states. -/
def TunerState.code : TunerState → Nat
  | .idle => 0 | .hold => 1 | .settling => 2 | .acquire => 3 | .locked => 4 | .noSignal => 5 | .drift => 6 | .line => 7

/-- 11.3: tuning kinds. -/
def TuningKind.code : TuningKind → Nat
  | .none => 0 | .preset => 1 | .direct => 2 | .line => 3 | .scan => 4

/-- 11.3: bands. -/
def Band.code : Band → Nat
  | .low => 0 | .mid => 1 | .high => 2

/-- 11.7: entry states. -/
def EntryState.code : EntryState → Nat
  | .empty => 0 | .draft => 1 | .waiting => 2 | .preroll => 3 | .active => 4 | .paused => 5 | .ended => 6

/-- 11.7, R197: the entry state a byte is taken as. -/
def entryStateOf (n : Nat) : EntryState :=
  match n with
  | 1 => .draft | 2 => .waiting | 3 => .preroll | 4 => .active | 5 => .paused | 6 => .ended | _ => .empty

/-- 11.7: outcomes. -/
def EndOutcome.code : EndOutcome → Nat
  | .none => 0 | .complete => 1 | .truncated => 2 | .short => 3 | .missed => 4 | .aborted => 5 | .powerFail => 6

/-- 11.7, R197: the outcome a byte is taken as. -/
def outcomeOf (n : Nat) : EndOutcome :=
  match n with
  | 1 => .complete | 2 => .truncated | 3 => .short | 4 => .missed | 5 => .aborted | 6 => .powerFail | _ => .none

/-- 11.7: reasons. -/
def Reason.code : Reason → Nat
  | .none => 0 | .timerOff => 1 | .overlap => 2 | .transportBusy => 3 | .step => 4 | .noCassette => 5
  | .protected_ => 6 | .source => 7 | .notReady => 8 | .label => 9 | .tapeEnd => 10 | .clock => 11
  | .supplyOff => 12 | .host => 13 | .override_ => 14 | .fault => 15 | .mainLost => 16 | .supplyLost => 17
  | .overrun => 18

/-- 11.6: wake causes. -/
def WakeCause.code : WakeCause → Nat
  | .none => 0 | .power => 1 | .eject => 2 | .cassette => 3 | .timer => 4

/-- R169: the result codes. -/
inductive Result where
  | done | accepted | busy | owned | noCassette | writeProtected | badArg | state | unknown | full | notFound | invalid
  deriving DecidableEq, Repr

/-- R169: the result codes' values. -/
def Result.code : Result → Nat
  | .done => 1 | .accepted => 2 | .busy => 3 | .owned => 4 | .noCassette => 5 | .writeProtected => 6 | .badArg => 7
  | .state => 8 | .unknown => 9 | .full => 10 | .notFound => 11 | .invalid => 12

/-- R169: a request's answer: the result and its detail. -/
structure Answer where
  result : Result
  detail : Nat
  deriving DecidableEq, Repr

/-- R186: the answer is one that a request is taken with. -/
def Answer.taken (a : Answer) : Bool := a.result == .done || a.result == .accepted

/-- An answer with detail 0. -/
def answer (r : Result) : Answer := ⟨r, 0⟩

/-- BAD_ARG with the number of the ARG cell (R169). -/
def badArg (cell : Nat) : Answer := ⟨.badArg, cell⟩

/-! ### Events of 9.5 -/

/-- R176: CASSETTE IN with the latched tab. -/
def evCassetteIn (tab : Bool) : Event := ⟨0x01, 0x01, if tab then 1 else 0, 0, 0⟩
/-- R176: CASSETTE OUT. -/
def evCassetteOut : Event := ⟨0x01, 0x02, 0, 0, 0⟩
/-- R176: TRANSPORT. -/
def evTransport (st : TransportState) (o : Origin) : Event :=
  ⟨0x02, Byte.of st.code, o.tag, Byte.of o.cause.code, 0⟩
/-- R176: TFAULT. -/
def evTfault (code : FaultCode) (detail : Nat) : Event := ⟨0x03, Byte.of code.code, Byte.of detail, 0, 0⟩
/-- R176: TAPE_LIMIT; `stall` tells the source. -/
def evTapeLimit (e : TapeEnd) (stall : Bool) : Event :=
  ⟨0x04, (match e with | .ending => 1 | .beginning => 2), if stall then 2 else 1, 0, 0⟩
/-- 11.6: SEARCH subjects FOUND 1, NOT_FOUND 2, STOPPED 3. -/
def evSearch (subject : Byte) (tag : Byte) (kind : SearchKind) : Event :=
  ⟨0x05, subject, tag, (match kind with | .goto => 1 | .index => 2), 0⟩
/-- R176: TUNE with result 1 LOCKED, 2 NO_SIGNAL, 3 DRIFT, 4 LOST. -/
def evTune (result : Byte) (tag : Byte) (preset : Option Nat) (offset : Int) : Event :=
  ⟨0x06, result, tag, Byte.of (preset.getD 0), signedByte offset⟩
/-- R176: SCAN FOUND. -/
def evScanFound (preset : Nat) (tag : Byte) (divider : Nat) : Event :=
  ⟨0x07, Byte.of preset, tag, Byte.of divider, Byte.of (divider / 256)⟩
/-- R176: SCAN with an end code. -/
def evScanEnd (code : Byte) (tag : Byte) : Event := ⟨0x07, code, tag, 0, 0⟩
/-- 11.6: SCAN end codes. -/
def scanDone : Byte := 0xF1
/-- 11.6: SCAN end codes. -/
def scanFull : Byte := 0xF2
/-- 11.6: SCAN end codes. -/
def scanStopped : Byte := 0xF3
/-- R177: CLOCK with its subject, source and step (R110: clamped). -/
def evClock (subject source : Byte) (step : Int) : Event :=
  let n := (BitVec.ofInt 16 (clampInt (-32768) 32767 step)).toNat
  ⟨0x08, subject, source, Byte.of n, Byte.of (n / 256)⟩
/-- R177: PROGRAMME. -/
def evProgramme (k : Fin 16) (st : EntryState) (o : EndOutcome) (r : Reason) : Event :=
  ⟨0x09, Byte.of k.val, Byte.of st.code, Byte.of o.code, Byte.of r.code⟩
/-- R177: LOGGED. -/
def evLogged (slot seq : Nat) (k : Fin 16) : Event :=
  ⟨0x0A, Byte.of slot, Byte.of seq, Byte.of (seq / 256), Byte.of k.val⟩
/-- R177: CLAIM EXPIRED. -/
def evClaimExpired (k : Fin 16) : Event := ⟨0x0B, Byte.of k.val, 0x01, 0, 0⟩
/-- 11.6: PROTECT reasons. -/
inductive ProtectReason where
  | owner | claim | inUse | range
  deriving DecidableEq, Repr
/-- 11.6: PROTECT reasons. -/
def ProtectReason.code : ProtectReason → Nat
  | .owner => 1 | .claim => 2 | .inUse => 3 | .range => 4
/-- R177: PROTECT. -/
def evProtect (r : ProtectReason) (off : Nat) (data : Byte) : Event :=
  ⟨0x0C, Byte.of r.code, Byte.of off, Byte.of (off / 256), data⟩
/-- R177: KEY PRESSED. -/
def evKey (n : Nat) : Event := ⟨0x0D, Byte.of n, 0x01, 0, 0⟩
/-- R177: POWER WAKE. -/
def evWake (c : WakeCause) : Event := ⟨0x0E, 0x01, Byte.of c.code, 0, 0⟩
/-- R177: POWER MAIN_LOST. -/
def evMainLost : Event := ⟨0x0E, 0x02, 0, 0, 0⟩
/-- R177: POWER CANCELLED. -/
def evCancelled : Event := ⟨0x0E, 0x03, 0, 0, 0⟩
/-- R172, R177: OVERFLOW with the kind of the first refused event. -/
def evOverflow (kind : Byte) : Event := ⟨0x0F, 0, kind, 0, 0⟩

/-! ### Argument cells (R168) -/

/-- ARG1–ARG2 as a 16-bit value. -/
def Rqu.arg12 (q : Rqu) : Nat := q.arg1.toNat + 256 * q.arg2.toNat

/-- R24, 11.2: the signed 24-bit target in ARG0–ARG2. -/
def Rqu.arg24 (q : Rqu) : Int :=
  (BitVec.ofNat 24 (q.arg0.toNat + 256 * q.arg1.toNat + 65536 * q.arg2.toNat)).toInt

/-! ### Settings fields (11.4, R194), clamped from the raw shadow -/

/-- The flags byte, raw. -/
def settingsFlags (m : Memory) : Byte := m.read 0
/-- The event interrupt enable. -/
def setIrqEnable (m : Memory) : Bool := (settingsFlags m).getLsbD 0
/-- The timer-on setting. -/
def setTimerOn (m : Memory) : Bool := (settingsFlags m).getLsbD 1
/-- The auto-rewind setting. -/
def setAutoRewind (m : Memory) : Bool := (settingsFlags m).getLsbD 2
/-- The broadcast correction setting. -/
def setBroadcast (m : Memory) : Bool := (settingsFlags m).getLsbD 3
/-- The auto-off setting. -/
def setAutoOff (m : Memory) : Bool := (settingsFlags m).getLsbD 4
/-- The default speed. -/
def setSpeed (m : Memory) : Speed := (speedOf (clampNat 1 3 (m.read 1).toNat)).getD .sp
/-- The IF units. -/
def setIf (m : Memory) : Nat := clampNat 600 1000 (m.read16 2)
/-- The pre-roll lead in s. -/
def setLead (m : Memory) : Nat := clampNat 20 120 (m.read 4).toNat
/-- The scan-start preset. -/
def setScanStart (m : Memory) : Nat := clampNat 1 99 (m.read 5).toNat
/-- R92: the line window, clamped. -/
def setWindow (m : Memory) : LineWindow :=
  { first := clampNat 6 22 (m.read 6).toNat, size := clampNat 1 16 (m.read 7).toNat,
    mask := BitVec.ofNat 16 (m.read16 8) }

/-! ### Profile records (11.5) -/

/-- The fields of profile p, 1..8. -/
structure Profile where
  inUse : Bool
  low : Nat
  high : Nat
  h : Nat
  nsp : Nat
  deriving DecidableEq, Repr

/-- R195: profile p as the shadow holds it. -/
def profileOf (m : Memory) (p : Nat) : Profile :=
  let a := 16 * (p - 1)
  { inUse := m.read a != 0, low := m.read16 (a + 2), high := m.read16 (a + 4), h := m.read16 (a + 6),
    nsp := m.read16 (a + 8) }

/-- R58: the usable test. -/
def Profile.usable (p : Profile) : Bool :=
  p.inUse && p.low ≤ p.high && p.h ≤ 16383 && 600 ≤ p.nsp && p.nsp ≤ 21845

/-- R59: the lowest-numbered usable profile of a list whose window contains U. -/
def matchProfile (m : Memory) (u : Nat) : List Nat → Option Nat
  | [] => none
  | p :: rest =>
    let r := profileOf m p
    if r.usable && r.low ≤ u && u ≤ r.high then some p else matchProfile m u rest

/-! ### Preset records (11.8) -/

/-- R198: preset n is occupied. -/
def presetOccupied (m : Memory) (n : Nat) : Bool := m.read (16 * n) != 0
/-- The divider of preset n. -/
def presetDivider (m : Memory) (n : Nat) : Nat := m.read16 (16 * n + 1)
/-- The offset byte of preset n. -/
def presetOffsetByte (m : Memory) (n : Nat) : Byte := m.read (16 * n + 3)
/-- The offset of preset n. -/
def presetOffset (m : Memory) (n : Nat) : Int := (presetOffsetByte m n).toInt
/-- The network code of preset n. -/
def presetNet (m : Memory) (n : Nat) : Nat := m.read16 (16 * n + 4)
/-- The name of preset n. -/
def presetName (m : Memory) (n : Nat) : List Byte := m.bytes (16 * n + 6) 5
/-- R81: the tuned divider: divider plus offset. -/
def presetTuned (m : Memory) (n : Nat) : Int := (presetDivider m n : Int) + presetOffset m n

/-- The preset numbers from `n` down the list of 1..99 (`fuel` of them). -/
def presetsFrom (n : Nat) : Nat → List Nat
  | 0 => []
  | fuel + 1 => n :: presetsFrom (n + 1) fuel

/-- R79, R83: the lowest unoccupied preset at or above a number. -/
def freePreset (m : Memory) (from_ : Nat) : Option Nat :=
  (presetsFrom from_ (100 - from_)).find? fun n => !presetOccupied m n

/-- An offset in the range −24..+24 of 0.10. -/
def offsetInRange (x : Int) : Bool := -24 ≤ x && x ≤ 24

/-- A working divider in its valid range (4.2). -/
def dividerInRange (x : Int) : Bool := (Config.dividerLow : Int) ≤ x && x ≤ (Config.dividerHigh : Int)

/-! ### Programme records (11.7): host fields of entry k as the shadow holds them -/

/-- Source kind: PRESET 1, DIRECT 2, LINE 3. -/
def progKind (m : Memory) (k : Fin 16) : Nat := (m.read (32 * k.val)).toNat
/-- Source value. -/
def progValue (m : Memory) (k : Fin 16) : Nat := m.read16 (32 * k.val + 1)
/-- Repeat mask. -/
def progMask (m : Memory) (k : Fin 16) : Byte := m.read (32 * k.val + 3)
/-- Date: year offset, month, day. -/
def progYear (m : Memory) (k : Fin 16) : Nat := (m.read (32 * k.val + 4)).toNat
/-- Date: month. -/
def progMonth (m : Memory) (k : Fin 16) : Nat := (m.read (32 * k.val + 5)).toNat
/-- Date: day. -/
def progDay (m : Memory) (k : Fin 16) : Nat := (m.read (32 * k.val + 6)).toNat
/-- Start: hour. -/
def progStartH (m : Memory) (k : Fin 16) : Nat := (m.read (32 * k.val + 7)).toNat
/-- Start: minute. -/
def progStartM (m : Memory) (k : Fin 16) : Nat := (m.read (32 * k.val + 8)).toNat
/-- Stop: hour. -/
def progStopH (m : Memory) (k : Fin 16) : Nat := (m.read (32 * k.val + 9)).toNat
/-- Stop: minute. -/
def progStopM (m : Memory) (k : Fin 16) : Nat := (m.read (32 * k.val + 10)).toNat
/-- Speed field: SP 1, LP 2, EP 3, AUTO 4. -/
def progSpeed (m : Memory) (k : Fin 16) : Nat := (m.read (32 * k.val + 11)).toNat
/-- Flags byte. -/
def progFlags (m : Memory) (k : Fin 16) : Byte := m.read (32 * k.val + 12)
/-- Label follow. -/
def progFollow (m : Memory) (k : Fin 16) : Bool := (progFlags m k).getLsbD 0
/-- Write index mark. -/
def progMark (m : Memory) (k : Fin 16) : Bool := (progFlags m k).getLsbD 1
/-- Label: month, day, hour, minute. -/
def progLabel (m : Memory) (k : Fin 16) : List Byte := m.bytes (32 * k.val + 13) 4

/-- R126: start of the occurrence on a day, in seconds. Hours and minutes that COMMIT would refuse count as the numbers they
are (log entry 59). -/
def occStart (m : Memory) (k : Fin 16) (day : Nat) : Nat :=
  day * 86400 + progStartH m k * 3600 + progStartM m k * 60

/-- R126: stop of the occurrence on a day, in seconds: the next day when the stop is earlier than the start. -/
def occStop (m : Memory) (k : Fin 16) (day : Nat) : Nat :=
  let start := progStartH m k * 60 + progStartM m k
  let stop := progStopH m k * 60 + progStopM m k
  (if stop < start then day + 1 else day) * 86400 + stop * 60

/-- The 16 entry indices in order. -/
def allEntries : List (Fin 16) := [0, 1, 2, 3, 4, 5, 6, 7, 8, 9, 10, 11, 12, 13, 14, 15]

/-- An entry index from a byte. -/
def entryOf (n : Nat) : Option (Fin 16) := if h : n < 16 then some ⟨n, h⟩ else none

/-! ### Layout of the deck region (0.6, 11.2) -/

/-- The offset of COMMAND. -/
def offCommand : Nat := 0x017
/-- The offset of RESULT. -/
def offResult : Nat := 0x018
/-- The offset of EVENT_ACK. -/
def offAck : Nat := 0x01B
/-- The offset of the settings block. -/
def offSettings : Nat := 0x060
/-- The offset of the profile table. -/
def offProfiles : Nat := 0x080
/-- The offset of the event ring. -/
def offRing : Nat := 0x100
/-- The offset of the programme table. -/
def offProgrammes : Nat := 0x200
/-- The offset of preset slot 0. -/
def offPresets : Nat := 0x400
/-- The offset of preset 1. -/
def offPreset1 : Nat := 0x410
/-- The offset of the recording log. -/
def offLog : Nat := 0xC00

/-- R191: the layout signature, "JD-460 DECK MAP" and version 0x01. -/
def signature : List Byte :=
  [0x4A, 0x44, 0x2D, 0x34, 0x36, 0x30, 0x20, 0x44, 0x45, 0x43, 0x4B, 0x20, 0x4D, 0x41, 0x50, 0x01]

end Sys2Proof.Machine
end

