-- ==== Sys2Proof/Machine/Ops.lean ====
section
/-! DEFINITION. Machine/Ops.lean: the named operations every block uses: the RAM, the posted-write queue (chapter 8),
and the result cells and event queue (chapter 9). -/

namespace Sys2Proof.Machine

/-! ### The part's time -/

/-- The part's time is at least `t` (log entry 1). -/
def reachTime (t : Nat) (s : State) : State := s.setNow (max s.now t)

/-- Whether a timer stands running; `reachLimit` takes the event of its end. -/
def timerRuns (t : Option Nat) : Bool := t.isSome

/-- The event in which a timer that started at `since` reaches its limit (log entry 2). -/
def reachLimit (since limit : Nat) (s : State) : State := reachTime (since + limit) s

/-- Whether the logic of the part is powered: in BACKUP nothing but the backup domain runs (10.2). -/
def powered (s : State) : Bool := s.pwr.power != .backup

/-! ### The deck region in the RAM -/

/-- R151: the window base. -/
def windowBase (s : State) : Nat := 4096 * s.straps.base.toNat

/-- A RAM byte of the deck region. -/
def regionByte (s : State) (off : Nat) : Byte := s.mem.read (windowBase s + off)

/-- A byte written into the RAM of the deck region. -/
def writeRegion (off : Nat) (v : Byte) (s : State) : State := s.setMem (s.mem.write (windowBase s + off) v)

/-! ### Write groups and the posted-write queue (R162, R163, R164) -/

/-- R162: a group as it is handed, every byte pending. -/
def mkGroup (start : Nat) (bytes : List Byte) : WriteGroup := ⟨start, bytes.map fun b => ⟨b, true⟩⟩

/-- R162: the queue holds fewer than 4 groups. -/
def queueHasRoom (s : State) : Bool := s.mpath.queue.length < 4

/-- R162: a group joins the queue as the newest. -/
def enqueue (g : WriteGroup) (s : State) : State :=
  s.setMpath { s.mpath with queue := s.mpath.queue ++ [g] }

/-- R162: a block asks for a slot. Two that ask in one event are placed in the order in which the model's operations ask (log
entry 70). -/
def askSlot (b : Block) (s : State) : State :=
  s.setMpath { s.mpath with grants := s.mpath.grants ++ [b] }

/-- R162: a held group leaves its holder unhanded, and the holder's latest place in the grant list leaves with it. -/
def dropAsk (b : Block) (s : State) : State :=
  s.setMpath { s.mpath with grants := (s.mpath.grants.reverse.erase b).reverse }

/-- A group has a pending byte. -/
def WriteGroup.anyPending (g : WriteGroup) : Bool := g.bytes.any fun b => b.pending

/-- R164: the pending byte of a group at an offset, if there is one. -/
def WriteGroup.pendingAt (g : WriteGroup) (off : Nat) : Option Byte :=
  if off < g.start then none
  else match g.bytes[off - g.start]? with
    | some b => if b.pending then some b.value else none
    | none => none

/-- The byte in place `i` of a list of group bytes, no longer pending. -/
def passByte : List GroupByte → Nat → List GroupByte
  | [], _ => []
  | b :: rest, 0 => { b with pending := false } :: rest
  | b :: rest, i + 1 => b :: passByte rest i

/-- R164: a group with the byte at an offset no longer pending. -/
def WriteGroup.pass (g : WriteGroup) (off : Nat) : WriteGroup :=
  if off < g.start then g else { g with bytes := passByte g.bytes (off - g.start) }

/-- R164: the value a host read of a pending byte is forwarded, from the newest group in which it is pending. -/
def forwarded (queue : List WriteGroup) (off : Nat) : Option Byte :=
  queue.reverse.findSome? fun g => g.pendingAt off

/-- R182: a group that leaves the queue; with the signature group (offset 0x000) the region becomes ready. -/
def groupLeft (g : WriteGroup) (s : State) : State :=
  if g.start = 0 then s.setPwr { s.pwr with regionReady := true } else s

/-- Each of several groups leaves the queue. -/
def groupsLeft : List WriteGroup → State → State
  | [], s => s
  | g :: rest, s => groupsLeft rest (groupLeft g s)

/-- R164: a host write that passes clears the byte's pending mark in every group; emptied groups leave. -/
def clearPending (off : Nat) (s : State) : State :=
  let passed := s.mpath.queue.map fun g => g.pass off
  groupsLeft (passed.filter fun g => !g.anyPending)
    (s.setMpath { s.mpath with queue := passed.filter fun g => g.anyPending })

/-- The place and value of the lowest pending byte. -/
def firstPending : List GroupByte → Option (Nat × Byte)
  | [] => none
  | b :: rest => if b.pending then some (0, b.value) else (firstPending rest).map fun (i, v) => (i + 1, v)

/-- R163: one byte of the oldest group is written to the RAM; a group with no pending byte left leaves the queue. -/
def drainByte (s : State) : State :=
  match s.mpath.queue with
  | [] => s
  | g :: rest =>
    match firstPending g.bytes with
    | none => groupLeft g (s.setMpath { s.mpath with queue := rest })
    | some (i, v) =>
      let g' := g.pass (g.start + i)
      let s' := writeRegion (g.start + i) v s
      if g'.anyPending then s'.setMpath { s.mpath with queue := g' :: rest }
      else groupLeft g' (s'.setMpath { s.mpath with queue := rest })

/-! ### The event queue (R171, R172, R173) -/

/-- RQU hands a group, or holds it (R171). -/
def offerRqu (g : WriteGroup) (s : State) : State :=
  if queueHasRoom s then enqueue g s
  else askSlot .rqu (s.setRqu { s.rqu with held := s.rqu.held ++ [g] })

/-- 9.3: the ring slot of the tail. -/
def tailSlot (q : Rqu) : Nat := (q.head + q.count) % 32

/-- 9.3: the sequence number of the tail. -/
def tailSeq (q : Rqu) : Nat := (q.headSeq + q.count) % 256

/-- R171: an entry's bytes (11.6), with the minute and second of the clock. -/
def entryBytes (seq : Nat) (e : Event) (t : DateTime) : List Byte :=
  [Byte.of seq, e.kind, e.subject, e.d0, e.d1, e.d2, Byte.of t.minute, Byte.of t.second]

/-- R171: an event appended at the tail. -/
def appendEvent (e : Event) (s : State) : State :=
  let g := mkGroup (offRing + 8 * tailSlot s.rqu) (entryBytes (tailSeq s.rqu) e s.clk.time)
  offerRqu g (s.setRqu { s.rqu with count := s.rqu.count + 1, newest := e })

/-- R171, R172: a block posts an event. -/
def post (e : Event) (s : State) : State :=
  match s.rqu.overflow with
  | some _ => s.setRqu { s.rqu with refused := min 255 (s.rqu.refused + 1) }
  | none =>
    if s.rqu.count ≤ 30 then appendEvent e s
    else
      let slot := tailSlot s.rqu
      let s := appendEvent (evOverflow e.kind) s
      s.setRqu { s.rqu with overflow := some slot, refused := 1 }

/-- R173: a write to EVENT_ACK. -/
def acknowledge (seq : Byte) (s : State) : State :=
  let q := s.rqu
  if 1 ≤ q.count && seq.toNat == q.headSeq then
    let cleared := q.overflow == some q.head
    s.setRqu { q with
      head := (q.head + 1) % 32, headSeq := (q.headSeq + 1) % 256, count := q.count - 1,
      overflow := if cleared then none else q.overflow, refused := if cleared then 0 else q.refused }
  else s

/-- R169: the newer result group in place of a held one. -/
def replaceResult (g : WriteGroup) : List WriteGroup → List WriteGroup
  | [] => []
  | h :: rest => if h.start = offResult then g :: rest else h :: replaceResult g rest

/-- R169: the result group of a request. -/
def makeResult (a : Answer) (tag : Byte) (s : State) : State :=
  let g := mkGroup offResult [Byte.of a.result.code, tag, Byte.of a.detail]
  if queueHasRoom s then enqueue g s
  else if s.rqu.held.any fun h => h.start == offResult then
    s.setRqu { s.rqu with held := replaceResult g s.rqu.held }
  else offerRqu g s

/-! ### Notices to SCH (log entry 9) -/

/-- A block tells SCH something in the event under way. -/
def notify (n : Notice) (s : State) : State := s.setNotices (s.notices ++ [n])

end Sys2Proof.Machine
end

