-- ==== Sys2Proof/Machine/Clock.lean ====
section
/-! DEFINITION. Machine/Clock.lean: the Clock Calendar (chapter 6): the second's advance, steps, SET_TIME, broadcast
samples and the deferred step. -/

namespace Sys2Proof.Machine

/-- R105, R107: the sub-second count wraps: the time advances, or holds at the limit. -/
def Clk.second (c : Clk) : Clk :=
  if c.time = limitTime then { c with sub := 0, limit := true } else { c with sub := 0, time := c.time.tick }

/-- R112: the age of the held sample rises by 1, up to 91. -/
def Clk.ageSample (c : Clk) : Clk :=
  { c with sample := c.sample.map fun x => { x with age := min 91 (x.age + 1) } }

/-! ### Steps -/

/-- 11.6: the CLOCK subjects and sources. -/
def clockStepped : Byte := 0x01
/-- 11.6. -/
def clockInvalid : Byte := 0x02
/-- 11.6. -/
def clockDeferred : Byte := 0x03
/-- 11.6. -/
def clockApplied : Byte := 0x04
/-- 11.6. -/
def sourceHost : Byte := 0x01
/-- 11.6. -/
def sourceBroadcast : Byte := 0x02

/-- R110: a step to a new time is applied, posted, and handed to SCH as a notice with the old and the new time (R115). -/
def applyStep (subject source : Byte) (new : DateTime) (limit : Bool) (s : State) : State :=
  let c := s.clk
  let d : Int := (new.secs : Int) - c.time.secs
  let s := s.setClk { c with time := new, limit, valid := true, sample := none }
  notify (.step ⟨c.time, new, weekdayOf new.days, c.valid⟩) (post (evClock subject source d) s)

/-- R110: a step of `d` seconds from the broadcaster; beyond the upper limit the time is set there. -/
def broadcastStep (subject : Byte) (d : Int) (s : State) : State :=
  let sum := ((s.clk.time.secs : Int) + d).toNat
  if limitTime.secs < sum then applyStep subject sourceBroadcast limitTime true s
  else applyStep subject sourceBroadcast (dateTimeOf sum) false s

/-- R109: the first failing argument of SET_TIME. -/
def setTimeBadArg (q : Rqu) : Option Nat :=
  let y := q.arg0.toNat
  let m := q.arg1.toNat
  let d := q.arg2.toNat
  if 99 < y then some 0
  else if !(1 ≤ m && m ≤ 12) then some 1
  else if !(1 ≤ d && d ≤ lastDay y m) then some 2
  else if 23 < q.arg3.toNat then some 3
  else if 59 < q.arg4.toNat then some 4
  else if 59 < q.arg5.toNat then some 5
  else none

/-- R109: the SET_TIME request. -/
def requestSetTime (s : State) : State × Answer :=
  match setTimeBadArg s.rqu with
  | some cell => (s, badArg cell)
  | none =>
    if s.clk.running then (s, answer .state)
    else
      let q := s.rqu
      let new : DateTime := ⟨q.arg0.toNat, q.arg1.toNat, q.arg2.toNat, q.arg3.toNat, q.arg4.toNat, q.arg5.toNat⟩
      (applyStep clockStepped sourceHost new false (s.setClk { s.clk with sub := 0 }), answer .done)

/-! ### Broadcast correction -/

/-- R114: a confirmed step is deferred. -/
def deferStep (d : Int) (s : State) : State :=
  if s.clk.deferred = some d then s
  else post (evClock clockDeferred sourceBroadcast d) (s.setClk { s.clk with deferred := some d })

/-- R113: a confirmation. -/
def confirm (d code : Int) (s : State) : State :=
  let s := s.setClk { s.clk with code := some code, sample := none }
  if !s.clk.valid then broadcastStep clockStepped d s
  else if d.natAbs < 2 then s.setClk { s.clk with deferred := none }
  else if s.clk.running then deferStep d s
  else broadcastStep clockStepped d s

/-- R112: a sample meets the held sample. -/
def meetSample (d code : Int) (s : State) : State :=
  match s.clk.sample with
  | none => s.setClk { s.clk with sample := some ⟨d, code, 0⟩ }
  | some h =>
    if h.age ≤ 90 && h.code == code && (d - h.d).natAbs ≤ 1 then confirm d code s
    else s.setClk { s.clk with sample := some ⟨d, code, 0⟩ }

/-- R111: CLK acts on a TIME packet. -/
def timePacket (year month day hour minute second code : Byte) (s : State) : State :=
  if !setBroadcast s.mpath.settings then s.setClk { s.clk with sample := none }
  else
    let t : DateTime := ⟨year.toNat, month.toNat, day.toNat, hour.toNat, minute.toNat, second.toNat⟩
    let o := code.toInt
    if t.wf && (-26 ≤ o && o ≤ 28) then meetSample ((t.secs : Int) - s.clk.time.secs) o s else s

/-! ### The running report and the retained record -/

/-- R114: SCH reports running. -/
def reportRunning (s : State) : State := s.setClk { s.clk with running := true }

/-- R114: SCH reports not running; a deferred step that waits is applied. -/
def reportNotRunning (s : State) : State :=
  if s.clk.running then
    let s := s.setClk { s.clk with running := false }
    match s.clk.deferred with
    | none => s
    | some d => broadcastStep clockApplied d (s.setClk { s.clk with deferred := none })
  else s

/-- R116: SCH writes the retained record. -/
def retain (r : Retained) (s : State) : State := s.setClk { s.clk with retained := { r with valid := true } }

/-- R116: SCH clears the retained record; its other fields stay. -/
def clearRetained (s : State) : State :=
  s.setClk { s.clk with retained := { s.clk.retained with valid := false } }

/-- R108: CLOCK INVALID at a standby start. -/
def postInvalid (s : State) : State := if s.clk.valid then s else post (evClock clockInvalid 0 0) s

end Sys2Proof.Machine
end

