-- ==== Sys2Proof/Machine/Servo.lean ====
section
/-! DEFINITION. Machine/Servo.lean: the Servo Unit (chapter 2): drive modes, duty updates, locks, drum phase, frame
runs, speed detection and reel timing. -/

namespace Sys2Proof.Machine

/-! ### The rows of R29 -/

/-- R29: the drum runs. -/
def Row.drumRuns : Row → Bool
  | .allOff => false
  | _ => true

/-- R29: the drum reference is the frame reference of R34. -/
def Row.frameRef : Row → Bool
  | .rest | .backSpace | .catchUp | .record => true
  | _ => false

/-- R29: the capstan's mode: at 5 × m or not, and its direction. In RECORD it runs once TRC has started it. -/
def Row.capstan (r : Row) (on : Bool) : Option (Bool × Dir) :=
  match r with
  | .backSpace => some (false, .backward)
  | .catchUp => some (false, .forward)
  | .record => if on then some (false, .forward) else none
  | .play => some (false, .forward)
  | .cue => some (true, .forward)
  | .review => some (true, .backward)
  | .seekSlow d => some (true, d)
  | _ => none

/-- R42: the drives of the reel motor. -/
inductive ReelDrive where
  | off | tension | wind
  deriving DecidableEq, Repr

/-- R29: the reel drive. Tension stands in the RECORD row from its entry. -/
def Row.reel : Row → ReelDrive
  | .backSpace | .catchUp | .record | .play | .cue | .review | .seekSlow _ => .tension
  | .ff | .rew | .seekWind _ => .wind
  | _ => .off

/-- R29: the direction output a row sets; none leaves it unchanged. -/
def Row.dir : Row → Option Dir
  | .backSpace | .review | .rew => some .backward
  | .catchUp | .record | .play | .cue | .ff => some .forward
  | .seekWind d | .seekSlow d => some d
  | _ => none

/-- R40: the row moves tape; RECORD does once the capstan starts. -/
def Row.moves (r : Row) (on : Bool) : Bool :=
  match r with
  | .backSpace | .catchUp | .play | .cue | .review | .ff | .rew | .seekWind _ | .seekSlow _ => true
  | .record => on
  | _ => false

/-- R29, R36: the row is marked tracking. -/
def Row.tracking : Row → Bool
  | .play | .catchUp => true
  | _ => false

/-- The tape moves in the row that stands. -/
def Srv.moves (v : Srv) : Bool := v.row.moves v.capOn

/-- R32: the capstan target. -/
def capstanTarget (fr30 : Bool) (m : Speed) (fast : Bool) : Nat :=
  if fast then Config.capstanPeriod fr30 * m.m / 5 else Config.capstanPeriod fr30 * m.m

/-! ### Duty and lock -/

/-- R31, R32, R35, R36, R42: duty + floor(e × gain / 4096), clamped to 0..1023. -/
def addDuty (duty : Nat) (e : Int) (gain : Nat) : Nat :=
  (clampInt 0 1023 ((duty : Int) + e * (gain : Int) / 4096)).toNat

/-- R33: what a lock state did in an event. -/
inductive LockReport where
  | same | gained | lost
  deriving DecidableEq, Repr

/-- R33: the lock test of one measurement. -/
structure LockTest where
  locked : Bool
  inWindow : Nat
  outWindow : Nat
  report : LockReport
  deriving DecidableEq, Repr

/-- R33: the table of the speed lock test. -/
def lockTest (locked : Bool) (inW outW : Nat) (e : Int) (target : Nat) : LockTest :=
  let inside : Bool := e.natAbs ≤ target / 256
  let beyond : Bool := target / 64 < e.natAbs
  if locked then
    if inside then ⟨true, inW, 0, .same⟩
    else if beyond then (if outW + 1 = 4 then ⟨false, inW, 0, .lost⟩ else ⟨true, inW, outW + 1, .same⟩)
    else ⟨true, inW, outW, .same⟩
  else if inside then (if inW + 1 = 8 then ⟨true, 0, outW, .gained⟩ else ⟨false, inW + 1, outW, .same⟩)
  else ⟨false, 0, outW, .same⟩

/-- R31, R33: a drum measurement. A loss from SPEED_LOCK clears the phase counts too (log entry 52). -/
def Srv.drumMeasure (fr30 : Bool) (meas : Nat) (v : Srv) : Srv × LockReport :=
  let target := Config.framePeriod fr30
  let e : Int := (meas : Int) - target
  let t := lockTest (v.drumLock != .unlocked) v.drumIn v.drumOut e target
  let lock := if t.report == .gained then .speed else if t.locked then v.drumLock else .unlocked
  ({ v with drumDuty := addDuty v.drumDuty e 64, drumLock := lock, drumIn := t.inWindow, drumOut := t.outWindow,
            phaseIn := if t.report == .lost then 0 else v.phaseIn,
            phaseOut := if t.report == .lost then 0 else v.phaseOut }, t.report)

/-- R32, R33: a capstan measurement against the target of the row that stands. -/
def Srv.capMeasure (fr30 : Bool) (meas : Nat) (v : Srv) : Srv × LockReport :=
  match v.row.capstan v.capOn with
  | none => (v, .same)
  | some (fast, _) =>
    let target := capstanTarget fr30 v.speed fast
    let e : Int := (meas : Int) - target
    let t := lockTest v.capLock v.capIn v.capOut e target
    ({ v with capDuty := addDuty v.capDuty e 32, capLock := t.locked, capIn := t.inWindow, capOut := t.outWindow },
      t.report)

/-- R31: a drum FG pulse at a time, of a drum that runs. -/
def Srv.drumFgPulse (fr30 : Bool) (at_ : Nat) (v : Srv) : Srv × LockReport :=
  let v' := { v with drumFg := some at_, drumGap := at_ }
  match v.drumFg with
  | none => (v', .same)
  | some last => v'.drumMeasure fr30 (6 * min Config.fgLimit (at_ - last))

/-- R31: 65,535 µs pass with no drum FG pulse. -/
def Srv.drumFgGap (fr30 : Bool) (v : Srv) : Srv × LockReport :=
  { v with drumGap := v.drumGap + Config.fgLimit }.drumMeasure fr30 (6 * Config.fgLimit)

/-- R32: a capstan FG pulse at a time, of a capstan that runs. -/
def Srv.capFgPulse (fr30 : Bool) (at_ : Nat) (v : Srv) : Srv × LockReport :=
  let v' := { v with capFg := some at_, capGap := at_ }
  match v.capFg with
  | none => (v', .same)
  | some last => v'.capMeasure fr30 (min Config.fgLimit (at_ - last))

/-- R32: 65,535 µs pass with no capstan FG pulse. -/
def Srv.capFgGap (fr30 : Bool) (v : Srv) : Srv × LockReport :=
  { v with capGap := v.capGap + Config.fgLimit }.capMeasure fr30 Config.fgLimit

/-- R37: a capstan FG pulse counts toward a frame run; true when it completes the run, which then ends. -/
def Srv.countRun (v : Srv) : Srv × Bool :=
  match v.run with
  | none => (v, false)
  | some r => if r.goal ≤ r.done + 1 then ({ v with run := none }, true)
              else ({ v with run := some { r with done := r.done + 1 } }, false)

/-- R37: the FG pulses of a number of frames at the speed in use: 12 / m each. -/
def framePulses (m : Speed) (frames : Nat) : Nat := Config.fgPerFrame / m.m * frames

/-! ### Drum phase and tracking -/

/-- R35, R36: the signed distance from `t` to the nearest pulse of a train of period `target` through `base`, within
−target/2..+target/2. `tie` decides a distance of exactly half a period (log entry 17). -/
def nearest (t base target : Nat) (tie : Bool) : Int :=
  let r : Nat := (((t : Int) - base) % target).toNat
  if 2 * r = target then (if tie then (r : Int) else -(r : Int))
  else if 2 * r < target then r else (r : Int) - target

/-- R36: of two pulses seen, the one nearer to `t`; of two as near, `tie` takes the older one `q` (log entry 17). -/
def nearer (t : Nat) (tie : Bool) (p q : Nat) : Nat :=
  let a := ((t : Int) - p).natAbs
  let b := ((t : Int) - q).natAbs
  if b < a || (b == a && tie) then q else p

/-- R36: of the pulse `p` and the older ones, the one nearest to `t`. -/
def nearestSeen (t : Nat) (tie : Bool) (p : Nat) (older : List Nat) : Nat := older.foldl (nearer t tie) p

/-- R36: the pulses, newest first, that a CTL pulse rising after `since` may be nearest to: those after it, and the last
one not after it. -/
def pulsesFrom (since : Nat) : List Nat → List Nat
  | [] => []
  | p :: older => if p ≤ since then [p] else p :: pulsesFrom since older

/-- R36: the pulses kept beside a new PG pulse. The next CTL pulse rises after the last one read; with none read since the
motion started, every pulse since the drum's start is kept. -/
def Srv.keptPulses (lastCtl : Option Nat) (v : Srv) : List Nat :=
  let seen := v.pg.toList ++ v.pgBefore
  match lastCtl with
  | some since => pulsesFrom since seen
  | none => seen

/-- R34: the pulse train of the reference source that stands. -/
def Srv.reference (v : Srv) : Nat :=
  match v.source, v.frameStart with
  | .external, some t => t
  | _, _ => v.refLast

/-- R35: a drum PG pulse at a time; R36: it is kept, with those before it that a CTL pulse may be nearest to. `lastCtl` is
the rise of the last CTL pulse read. -/
def Srv.pgPulse (fr30 : Bool) (at_ : Nat) (tie : Bool) (lastCtl : Option Nat) (v : Srv) : Srv × LockReport :=
  let target := Config.framePeriod fr30
  let v' := { v with pg := some at_, pgBefore := v.keptPulses lastCtl }
  match v.drumLock with
  | .unlocked => (v', .same)
  | lock =>
    let p := nearest at_ v.reference target tie
    let inside : Bool := p.natAbs ≤ target / 32
    let v' := { v' with drumDuty := addDuty v.drumDuty p 16 }
    if lock == .speed then
      if inside then
        if v.phaseIn + 1 = 4 then ({ v' with drumLock := .phase, phaseIn := 0 }, .gained)
        else ({ v' with phaseIn := v.phaseIn + 1 }, .same)
      else ({ v' with phaseIn := 0 }, .same)
    else if inside then ({ v' with phaseOut := 0 }, .same)
    else if v.phaseOut + 1 = 4 then ({ v' with drumLock := .speed, phaseOut := 0 }, .lost)
    else ({ v' with phaseOut := v.phaseOut + 1 }, .same)

/-- R36: a CTL pulse at a time adds the tracking term while the capstan is in SPEED_LOCK. It is taken at its falling edge, so
the nearest PG pulse may have come before or after its rise. Before any PG pulse the nearest one does not exist and d is the
free value `open_` (log entry 18). The nearest one may be one still to come, which is predicted from the last (log entry 17). -/
def Srv.track (fr30 : Bool) (at_ : Nat) (tie : Bool) (open_ : Nat) (v : Srv) : Srv :=
  if v.row.tracking && v.capLock then
    let target := Config.framePeriod fr30
    let d := match v.pg with
      | some pg => nearest at_ (nearestSeen at_ tie pg v.pgBefore) target tie
      | none => nearest open_ 0 target tie
    { v with capDuty := addDuty v.capDuty d 8 }
  else v

/-- R34: a frame start at a time is accepted unless it comes less than half a target period after the last. -/
def Srv.acceptsFrameStart (fr30 : Bool) (at_ : Nat) (v : Srv) : Bool :=
  match v.frameStart with
  | none => true
  | some last => !decide (2 * (at_ - last) < Config.framePeriod fr30)

/-- R34: an accepted frame start; two of them one target period apart return the source to EXTERNAL. -/
def Srv.takeFrameStart (fr30 : Bool) (at_ : Nat) (v : Srv) : Srv :=
  let target := Config.framePeriod fr30
  let apart : Bool := match v.frameStart with
    | none => false
    | some last => (((at_ : Int) - last) - target).natAbs ≤ target / 32
  { v with frameStart := some at_,
           source := if v.row.frameRef && v.source == .internal && apart then .external else v.source }

/-- R34: no frame start within 2 target periods: INTERNAL, its pulses running on from the last accepted frame start. -/
def Srv.frameTimeout (fr30 : Bool) (v : Srv) : Srv :=
  { v with source := .internal, refLast := (v.frameStart.getD v.refLast) + Config.framePeriod fr30 }

/-- R34: frame starts arrive at the time a frame-reference row is entered (log entry 16). -/
def Srv.framesArrive (fr30 : Bool) (now : Nat) (v : Srv) : Bool :=
  match v.frameStart with
  | none => false
  | some last => now ≤ last + 2 * Config.framePeriod fr30

/-! ### Reel timing -/

/-- R40, R41: a segment start of one reel, at a time in ms. -/
def Reel.segment (ms : Nat) : Reel := { Reel.start with stall := some (ms + 10000) }

/-- R40: reel timing stops, and the period is invalid. -/
def Reel.stop (r : Reel) : Reel := { r with period := none, stall := none }

/-- R40, R41: a mark of a reel whose timing runs, at a time in ms. -/
def Reel.mark (ms : Nat) (r : Reel) : Reel :=
  let interval := r.times.head?.map fun last => ms - last
  let period := match r.times[3]? with
    | some t => some (clampNat 1 65535 (ms - t))
    | none => none
  { marks := min 5 (r.marks + 1), times := (ms :: r.times).take 4, interval, period,
    stall := some (ms + match interval with | none => 10000 | some i => clampNat 400 30000 (2 * i)) }

/-- One of the two reels. -/
def Srv.reel (v : Srv) : ReelName → Reel
  | .supply => v.supply
  | .takeup => v.takeup

/-- One of the two reels replaced. -/
def Srv.setReel (v : Srv) (n : ReelName) (r : Reel) : Srv :=
  match n with
  | .supply => { v with supply := r }
  | .takeup => { v with takeup := r }

/-- R42: the reel the wind drive drives: the take-up reel forward, the supply reel backward. -/
def drivenReel : Dir → ReelName
  | .forward => .takeup
  | .backward => .supply

/-- R42: the wind loop's correction at a mark of the driven reel after its first. -/
def Srv.windCorrect (r : Reel) (v : Srv) : Srv :=
  match r.interval with
  | none => v
  | some i =>
    let meas := match r.period with
      | some p => p
      | none => min 65535 (4 * i)
    { v with reelDuty := addDuty v.reelDuty ((meas : Int) - 500) 512 }

/-- R43: the wind-settled test on a new period of the driven reel. -/
def Srv.settleTest (before after : Reel) (v : Srv) : Srv :=
  match after.period, before.period with
  | some new, some old => { v with windSettled := ((new : Int) - old).natAbs * 16 < old }
  | _, _ => v

/-- R40, R42, R43: a reel mark at a time in ms; true when it gives a new period. -/
def Srv.reelMark (n : ReelName) (ms : Nat) (v : Srv) : Srv × Bool :=
  let before := v.reel n
  match before.stall with
  | none => (v, false)
  | some _ =>
    let after := before.mark ms
    let v' := v.setReel n after
    let v' := if v.row.reel == .wind && drivenReel v.dir == n then (v'.windCorrect after).settleTest before after
              else v'
    (v', after.period.isSome)

/-- R41: the stall of a reel: its period is invalid and its timing stops for the rest of the segment. -/
def Srv.stallReel (n : ReelName) (v : Srv) : Srv := v.setReel n (v.reel n).stop

/-! ### Drives -/

/-- R29: "off" for the drum. -/
def Srv.drumOff (v : Srv) : Srv :=
  { v with drumDuty := 0, drumLock := .unlocked, drumIn := 0, drumOut := 0, phaseIn := 0, phaseOut := 0,
           drumFg := none, pg := none, pgBefore := [] }

/-- R29: the drum starts at its start duty. -/
def Srv.drumStart (now : Nat) (v : Srv) : Srv := { v.drumOff with drumDuty := 512, drumGap := now }

/-- R29: "off" for the capstan. -/
def Srv.capOff (v : Srv) : Srv :=
  { v with capDuty := 0, capLock := false, capIn := 0, capOut := 0, capFg := none }

/-- R29: the capstan starts at its start duty. -/
def Srv.capStart (now : Nat) (v : Srv) : Srv := { v.capOff with capDuty := 384, capGap := now }

/-- R33: a change of the capstan target or direction while it runs. -/
def Srv.capRetarget (v : Srv) : Srv := { v with capLock := false, capIn := 0, capOut := 0 }

/-- R40: a new segment for both reels, from the whole ms in which it begins (log entry 67). -/
def Srv.segment (now : Nat) (v : Srv) : Srv :=
  { v with supply := Reel.segment (now / 1000), takeup := Reel.segment (now / 1000), windSettled := false }

/-- R40: reel timing stops. -/
def Srv.reelsStop (v : Srv) : Srv :=
  { v with supply := v.supply.stop, takeup := v.takeup.stop, windSettled := false }

/-- R44: the duties are 0, the locks UNLOCKED, a run ended, reel timing stopped. -/
def Srv.powerDown (v : Srv) : Srv :=
  { v.drumOff.capOff.reelsStop with reelDuty := 0, run := none }

/-- R44: the drives of the row that stands start when MAIN_GOOD arrives. -/
def Srv.powerUp (now : Nat) (v : Srv) : Srv :=
  let v := if v.row.drumRuns then v.drumStart now else v
  let v := if (v.row.capstan v.capOn).isSome then v.capStart now else v
  let v := { v with reelDuty := match v.row.reel with | .off => 0 | .tension => 192 | .wind => 600 }
  if v.moves then v.segment now else v

/-- R38: a capstan start in PLAY, CUE, REVIEW or SEEK takes the default speed while the origin is DEFAULT. -/
def Srv.takeDefault (dflt : Speed) (row : Row) (on : Bool) (v : Srv) : Srv :=
  let starts := (v.row.capstan v.capOn).isNone && (row.capstan on).isSome
  let named := match row with | .play | .cue | .review | .seekSlow _ => true | _ => false
  if starts && named && v.origin == .default then { v with speed := dflt } else v

/-- R29: the drum's part of a change of row. -/
def Srv.changeDrum (now : Nat) (row : Row) (v : Srv) : Srv :=
  if !row.drumRuns then v.drumOff else if v.row.drumRuns then v else v.drumStart now

/-- R29, R33: the capstan's part of a change of row. -/
def Srv.changeCapstan (now : Nat) (row : Row) (on : Bool) (v : Srv) : Srv :=
  match v.row.capstan v.capOn, row.capstan on with
  | _, none => v.capOff
  | none, some _ => v.capStart now
  | some a, some b => if a = b then v else v.capRetarget

/-- R29, R42: the reel motor's part of a change of row; the wind starts at 600 from any other drive (log entry 15). -/
def Srv.changeReel (row : Row) (v : Srv) : Srv :=
  match row.reel with
  | .off => { v with reelDuty := 0 }
  | .tension => { v with reelDuty := 192 }
  | .wind => if v.row.reel == .wind then v else { v with reelDuty := 600 }

/-- R29, R34: the frame reference source of the new row. In a row whose drum reference is none the source is INTERNAL,
as in the rows marked internal (log entry 42). -/
def Srv.changeSource (fr30 : Bool) (now : Nat) (row : Row) (v : Srv) : Srv :=
  if !row.frameRef then { v with source := .internal }
  else if v.row.frameRef then v
  else { v with source := if v.framesArrive fr30 now then .external else .internal }

/-- R30: a PWM period starts: the outputs take the duties that stand. -/
def Srv.loadPwm (v : Srv) : Srv := { v with drumPwm := v.drumDuty, capPwm := v.capDuty, reelPwm := v.reelDuty }

/-- R39: the detector returns to none. -/
def Srv.detectorNone (v : Srv) : Srv := { v with candidate := none, detCount := 0 }

/-- R29: TRC hands SRV a row, and whether the capstan of RECORD is started. `main` is MAIN_GOOD, `dflt` the settings'
default speed. A row that already stands changes nothing; a row of SEEK in the other direction is another row (log entry
66). -/
def Srv.drive (main fr30 : Bool) (now : Nat) (dflt : Speed) (row : Row) (on : Bool) (v : Srv) : Srv :=
  if v.row = row && v.capOn == on then v
  else
    let v := v.takeDefault dflt row on
    let v := if v.row == .play && row != .play then v.detectorNone else v
    let v := v.changeSource fr30 now row
    let v := if main then ((v.changeDrum now row).changeCapstan now row on).changeReel row else v.powerDown
    let v := { v with row := row, capOn := on, dir := row.dir.getD v.dir, run := none }
    if main && row.moves on then v.segment now else v.reelsStop

/-- R38: a speed is set with its origin; a running capstan's target changes by it (R33), and the segment with it (R40). -/
def Srv.setSpeed (now : Nat) (m : Speed) (o : SpeedOrigin) (v : Srv) : Srv :=
  let v' := { v with speed := m, origin := o }
  if v.speed = m then v'
  else if (v.row.capstan v.capOn).isSome then v'.capRetarget.segment now
  else v'

/-- R37: TRC asks for a run of a number of FG pulses. -/
def Srv.startRun (goal : Nat) (v : Srv) : Srv := { v with run := some ⟨0, goal⟩ }

/-! ### Speed detection (R39) -/

/-- R39: the expected CTL interval of tape recorded at k, played at m. -/
def expectedInterval (fr30 : Bool) (m k : Speed) : Nat := Config.framePeriod fr30 * m.m / k.m

/-- R39: the speed an interval matches. -/
def matchSpeed (fr30 : Bool) (m : Speed) (interval : Nat) : Option Speed :=
  [Speed.sp, .lp, .ep].find? fun k =>
    ((interval : Int) - expectedInterval fr30 m k).natAbs ≤ expectedInterval fr30 m k / 8

/-- R39: a CTL interval in PLAY with the capstan in SPEED_LOCK; the detected speed when the count reaches 8. -/
def Srv.detect (fr30 : Bool) (interval : Nat) (v : Srv) : Srv × Option Speed :=
  match matchSpeed fr30 v.speed interval with
  | none => ({ v with detCount := 0 }, none)
  | some k =>
    if k = v.speed then ({ v with detCount := 0 }, none)
    else if v.candidate = some k then
      if 8 ≤ v.detCount + 1 then (v.detectorNone, some k) else ({ v with detCount := v.detCount + 1 }, none)
    else ({ v with candidate := some k, detCount := 1 }, none)

end Sys2Proof.Machine
end

