-- ==== Sys2Proof/Machine/Position.lean ====
section
/-! DEFINITION. Machine/Position.lean: the Position Unit (chapter 3): counter, blank sections, index marks, cassette
profiles and remaining tape. -/

namespace Sys2Proof.Machine

/-! ### Motions -/

/-- The motion of a row, if it moves tape; the phases of SEEK in one direction are one motion. -/
def motionOf (row : Row) (on : Bool) : Option Row :=
  if row.moves on then
    some (match row with
      | .seekSlow d => .seekWind d
      | r => r)
  else none

/-- The direction of a row that moves tape. -/
def Row.motionDir (r : Row) : Dir := r.dir.getD .forward

/-- R50: the rows of CUE, REVIEW, FF, REW and SEEK. -/
def Row.blankSets : Row → Bool
  | .cue | .review | .ff | .rew | .seekWind _ | .seekSlow _ => true
  | _ => false

/-- R50: two rows of one transport state (the phases of SEEK). -/
def Row.sameState (a b : Row) : Bool :=
  match a, b with
  | .seekWind _, .seekWind _ | .seekWind _, .seekSlow _ | .seekSlow _, .seekWind _ | .seekSlow _, .seekSlow _ => true
  | _, _ => a == b

/-- R47, R55, R56: what a change of motion does to the run-down, the mark window and the pending mark. A written recording
that ends in a row that moves no tape has its run-down too (log entry 71). -/
def Pos.changeMotion (now : Nat) (old new : Option Row) (p : Pos) : Pos :=
  if old = new then p
  else match new, old with
    | some _, _ => { p with runDown := none, window := [], pendingMark := none, lastPulse := none }
    | none, some r => { p with runDown := some ⟨r.motionDir, now⟩, pendingMark := none }
    | none, none => p

/-- R49, R50: the blank timer and the extrapolation at a change of row. A search taken in SEEK changes rows of one state
and does not restart the blank timer (log entry 43). -/
def Pos.changeBlank (now : Nat) (old new : Row) (p : Pos) : Pos :=
  if old = new then p
  else
    let p := { p with extrap := .off }
    if new.blankSets then (if old.sameState new then p else { p with blank := .running now })
    else { p with blank := .stopped }

/-- POS at a change of SRV row. -/
def Pos.changeRow (now : Nat) (old : Row) (oldOn : Bool) (new : Row) (newOn : Bool) (p : Pos) : Pos :=
  (p.changeMotion now (motionOf old oldOn) (motionOf new newOn)).changeBlank now old new

/-- R49: the capstan reaches SPEED_LOCK in PLAY. -/
def Pos.capGained (now : Nat) (p : Pos) : Pos :=
  { p with
    blank := match p.blank with
      | .stopped => (match p.extrap with | .off => .running now | _ => .stopped)
      | .running s => .running s
      | .held e => .running (now - e)
    extrap := match p.extrap with
      | .paused => .running now
      | x => x }

/-- R49: the capstan leaves SPEED_LOCK in PLAY. -/
def Pos.capLost (now : Nat) (p : Pos) : Pos :=
  { p with
    blank := match p.blank with
      | .running s => .held (now - s)
      | b => b
    extrap := match p.extrap with
      | .running _ => .paused
      | x => x }

/-! ### The counter -/

/-- R51: the counter moved by `d` frames, saturating at its limits. -/
def Pos.count (limit : Int) (d : Int) (p : Pos) : Pos :=
  let c := p.counter + d
  if limit < c then { p with counter := limit, overrange := true }
  else if c < -limit then { p with counter := -limit, overrange := true }
  else { p with counter := c }

/-- R52: COUNTER_RESET, at a time. A blank timer that runs restarts, and the elapsed time of one that is held becomes 0 (log
entry 53). -/
def Pos.reset (now : Nat) (p : Pos) : Pos :=
  { p with
    counter := 0, capSource := false, overrange := false, unsure := false, lastMark := none, pendingMark := none,
    blank := match p.blank with
      | .stopped => .stopped
      | .running _ => .running now
      | .held _ => .held 0 }

/-- R46: a new cassette. -/
def Pos.newCassette (p : Pos) : Pos :=
  { p with
    counter := 0, capSource := false, overrange := false, unsure := false, blank := .stopped, extrap := .off,
    runDown := none, window := [], pendingMark := none, lastMark := none, profile := none, noMatch := false,
    candidate := none, noMatchCount := 0, r := none, remaining := 0xFFFF }

/-- R46: a cassette removal; R49: the extrapolation is off. A run-down goes on (log entry 54). -/
def Pos.cassetteOut (p : Pos) : Pos :=
  { p with extrap := .off, profile := none, noMatch := false, candidate := none, noMatchCount := 0, r := none,
           remaining := 0xFFFF }

/-- R53: the display form: hours, minutes, seconds, frames of |c|. -/
def displayOf (fps : Nat) (c : Int) : Nat × Nat × Nat × Nat :=
  let a := c.natAbs
  (a / (3600 * fps), a / (60 * fps) % 60, a / fps % 60, a % fps)

/-! ### Read pulses and index marks -/

/-- R55, R56: the lowest frame number among the long pulses of a window. -/
def lowestLong : List ReadPulse → Option Int
  | [] => none
  | p :: rest =>
    match lowestLong rest with
    | none => if p.long then some p.frame else none
    | some m => if p.long then some (min p.frame m) else some m

/-- R55: the window holds 60 pulses and at least 48 of them are long. -/
def windowFull (w : List ReadPulse) : Bool := w.length == 60 && 48 ≤ (w.filter fun p => p.long).length

/-- R55: a forward pulse in the window; the mark it completes, if any. -/
def Pos.forwardMark (p : Pos) : Pos × Option Int :=
  if windowFull p.window then
    match lowestLong p.window with
    | some m => ({ p with lastMark := some m, window := [] }, some m)
    | none => (p, none)
  else (p, none)

/-- R56: a backward pulse in the window; the mark it ends, if any. In a run-down the motion has ended, and no mark becomes
pending (log entry 34). -/
def Pos.backwardMark (pulse : ReadPulse) (p : Pos) : Pos × Option Int :=
  match p.pendingMark with
  | some k =>
    if pulse.long then ({ p with pendingMark := some ⟨min k.lowest pulse.frame, 0⟩ }, none)
    else if k.shorts + 1 = 8 then
      ({ p with pendingMark := none, window := [], lastMark := some k.lowest }, some k.lowest)
    else ({ p with pendingMark := some { k with shorts := k.shorts + 1 } }, none)
  | none =>
    if p.runDown.isNone && windowFull p.window then ({ p with pendingMark := (lowestLong p.window).map fun m => ⟨m, 0⟩ }, none)
    else (p, none)

/-- R47, R49, R50: the blank timer restarts at a read pulse: in PLAY it runs while the capstan is locked. -/
def Pos.pulseBlank (at_ : Nat) (row : Row) (capLock : Bool) (p : Pos) : Pos :=
  if row == .play then { p with blank := (if capLock then .running at_ else .held 0), extrap := .off }
  else if row.blankSets then { p with blank := .running at_ }
  else p

/-- R47, R55: a read pulse counted in a direction; also the interval since the previous pulse of the motion, and a mark
it completes. -/
def Pos.readPulse (limit : Int) (dir : Dir) (rise high : Nat) (row : Row) (capLock : Bool) (p : Pos) :
    Pos × Option Nat × Option Int :=
  let interval := p.lastPulse.map fun last => rise - last
  let long : Bool := match interval with
    | some i => decide (i ≤ 2 * high)
    | none => false
  let counted := p.count limit (match dir with | .forward => 1 | .backward => -1)
  let frame := match dir with
    | .forward => counted.counter
    | .backward => p.counter
  let pulse : ReadPulse := ⟨frame, long⟩
  let p' := { counted.pulseBlank rise row capLock with
    capSource := false, unsure := false, lastPulse := some rise, window := (pulse :: p.window).take 60 }
  let (p'', mark) := match dir with
    | .forward => p'.forwardMark
    | .backward => p'.backwardMark pulse
  (p'', interval, mark)

/-- R55: writing begins. R54: with a mark due, an index mark begins at the next frame written. -/
def Pos.beginWriting (limit : Int) (markDue : Bool) (p : Pos) : Pos :=
  { p with window := [],
           markWrite := if markDue then some ⟨(p.count limit 1).counter, 0⟩ else p.markWrite }

/-- R48, R54: one frame is written; the high time of its pulse, and a mark it completes. -/
def Pos.writeFrame (limit : Int) (fr30 : Bool) (p : Pos) : Pos × Nat × Option MarkWrite :=
  let f := Config.framePeriod fr30
  let p' := { p.count limit 1 with capSource := false }
  match p.markWrite with
  | none => (p', f / 4, none)
  | some m =>
    let m' := { m with frames := m.frames + 1 }
    if 60 ≤ m'.frames then ({ p' with markWrite := none }, 3 * f / 4, some m')
    else ({ p' with markWrite := some m' }, 3 * f / 4, none)

/-! ### Cassette profiles and remaining tape -/

/-- R59: U of two periods at a speed. -/
def cassetteU (m : Speed) (ts tt : Nat) : Nat := (ts * ts + tt * tt) / (m.m * m.m) / 65536

/-- R60: one evaluation. -/
def Pos.evaluate (m : Speed) (ts tt : Nat) (p : Pos) : Pos :=
  let u := cassetteU m ts tt
  let hit := if 65535 < u then none else matchProfile p.profiles u [1, 2, 3, 4, 5, 6, 7, 8]
  match hit with
  | some n =>
    if p.candidate = some n then
      { p with profile := some n, candidate := none, noMatchCount := 0, noMatch := false }
    else { p with candidate := some n, noMatchCount := 0 }
  | none =>
    if 2 ≤ p.noMatchCount + 1 then { p with candidate := none, noMatch := true, noMatchCount := 0 }
    else { p with candidate := none, noMatchCount := p.noMatchCount + 1 }

/-- R62: R from the two periods and h. -/
def tapeShare (ts tt h : Nat) : Nat :=
  let fs := min 65535 (ts * ts * 65536 / (ts * ts + tt * tt))
  if fs ≤ h then 0 else min 65536 ((fs - h) * 65536 / (65536 - 2 * h))

/-- R63, stage 4: the remaining seconds of R at a speed; 65535 is 65534 where it is shown, and in a quote too (log entry
45). -/
def remainingOf (r nsp : Nat) (m : Speed) : Nat := min 65534 (r * nsp * m.m / 65536)

/-- R65: the quote at a speed; 0xFFFF while R is unknown. -/
def Pos.quote (m : Speed) (p : Pos) : Nat :=
  match p.r, p.profile with
  | some r, some n => remainingOf r (profileOf p.profiles n).nsp m
  | _, _ => 0xFFFF

/-- R63: stage 4 on its own from the held R, the result shown. -/
def Pos.requote (m : Speed) (p : Pos) : Pos := { p with remaining := p.quote m }

/-- R61, R62, R63: a remaining computation. -/
def Pos.compute (m : Speed) (ts tt : Nat) (p : Pos) : Pos :=
  match p.profile with
  | none => p
  | some n =>
    let q := profileOf p.profiles n
    let r := tapeShare ts tt q.h
    { p with r := some r, remaining := remainingOf r q.nsp m }

/-- R61: the tape runs steady. -/
def steady (st : TransportState) (phase : Option SearchPhase) (capLock windSettled : Bool) : Bool :=
  match st with
  | .play | .record | .cue | .review => capLock
  | .ff | .rew => windSettled
  | .seek => (match phase with
    | some .wind => windSettled
    | some _ => capLock
    | none => false)
  | _ => false

/-- R59, R60, R61: POS takes a new period of a reel. -/
def Pos.takePeriod (n : ReelName) (st : TransportState) (phase : Option SearchPhase) (m : Speed)
    (capLock windSettled : Bool) (supply takeup : Option Nat) (p : Pos) : Pos :=
  match supply, takeup with
  | some ts, some tt =>
    let eval := p.profile.isNone && n == .supply && (st == .play || st == .record) && capLock
    let p := if eval then p.evaluate m ts tt else p
    if steady st phase capLock windSettled then p.compute m ts tt else p
  | _, _ => p

/-- R58: the effect on an identified profile of a write that changes the profile shadow. -/
def Pos.profileWritten (m : Speed) (before : Memory) (p : Pos) : Pos :=
  match p.profile with
  | none => p
  | some n =>
    let q := profileOf p.profiles n
    if !q.usable then
      { p with profile := none, candidate := none, noMatchCount := 0, r := none, remaining := 0xFFFF }
    else if q.nsp != (profileOf before n).nsp && p.r.isSome then p.requote m
    else p

end Sys2Proof.Machine
end

