-- ==== Sys2Proof/Machine/Flags.lean ====
section
/-! DEFINITION. Machine/Flags.lean: what the part shows of its state: the live block (R160, R161, R193), the level of
DECK_IRQ (R175) and the urgent flag (R165). -/

namespace Sys2Proof.Machine

/-! ### The bytes of each group (11.3), lowest first -/

/-- 11.3: the deferred step as two bytes; 0 is none. Beyond 16 bits the bytes are a free value (log entry 28). -/
def deferredBytes (d : Option Int) : List Byte :=
  match d with
  | none => [0, 0]
  | some x => if -32768 ≤ x && x ≤ 32767 then signed16 x else le16 (Config.wideStep x)

/-- 11.3: the CLOCK group. -/
def liveClock (c : Clk) : List Byte :=
  [Byte.of c.time.year, Byte.of c.time.month, Byte.of c.time.day, Byte.of (weekdayOf c.time.days),
   Byte.of c.time.hour, Byte.of c.time.minute, Byte.of c.time.second,
   match c.code with | none => 0x80 | some x => signedByte x]
  ++ deferredBytes c.deferred
  ++ [Byte.of (bitAt c.valid 0 + bitAt c.limit 1 + bitAt c.retained.valid 2 + 16 * c.retained.entry.val)]

/-- 11.3: the COUNTER group. -/
def liveCounter (fps : Nat) (p : Pos) : List Byte :=
  let (h, m, sec, f) := displayOf fps p.counter
  signed24 p.counter
  ++ [Byte.of (h + bitAt p.capSource 4 + bitAt p.overrange 5 + bitAt p.unsure 6 + bitAt (p.counter < 0) 7),
      Byte.of m, Byte.of sec, Byte.of f]
  ++ (match p.lastMark with | none => [0x00, 0x00, 0x80] | some k => signed24 k)

/-- 11.3: the REMAIN group. -/
def liveRemain (p : Pos) (m : Speed) : List Byte :=
  le16 p.remaining ++ [Byte.of (p.profile.getD 0 + 16 * m.m + bitAt p.noMatch 7)]

/-- 11.3: the phase of REC_PAUSE. -/
def RecPhase.code : RecPhase → Nat
  | .atRest => 0 | .backSpace => 1 | .catchUp => 2

/-- 11.3: the origin of the speed in use. -/
def SpeedOrigin.code : SpeedOrigin → Nat
  | .recorded => 1 | .detected => 2 | .default => 3

/-- 11.3: the TRANSPORT group. -/
def liveTransport (t : Trc) (v : Srv) : List Byte :=
  let phase := if t.st == .recPause then t.phase.code else 0
  let back := match t.search with | some k => k.dir == .backward && t.st == .seek | none => false
  [Byte.of (t.st.code + 16 * phase + bitAt back 6 + bitAt (t.owner == .schedule) 7),
   Byte.of (bitAt t.cassette 0 + bitAt t.tab 1 + 4 * v.speed.m + 16 * v.origin.code),
   match t.pending with | none => 0 | some p => Byte.of p.req.code,
   match t.fault with | none => 0 | some f => Byte.of (f.code.code + 16 * f.detail)]

/-- 11.3: the drum lock. -/
def DrumLock.code : DrumLock → Nat
  | .unlocked => 0 | .speed => 1 | .phase => 2

/-- 11.3: the SERVO group. -/
def liveServo (v : Srv) : List Byte :=
  [Byte.of (v.drumLock.code + bitAt v.capLock 2 + bitAt (v.source == .external) 3 + bitAt v.windSettled 4),
   Byte.of v.drumDuty, Byte.of v.capDuty, Byte.of v.reelDuty,
   Byte.of (v.drumDuty / 256 + 4 * (v.capDuty / 256) + 16 * (v.reelDuty / 256))]
  ++ le16 (v.supply.period.getD 0) ++ le16 (v.takeup.period.getD 0)

/-- 11.3: the scan phase. -/
def ScanPhase.code : ScanPhase → Nat
  | .step => 1 | .acquire => 2 | .dwell => 3 | .store => 4

/-- R193: the base divider shown: the scan's own during a scan. -/
def Tun.shownBase (t : Tun) : Nat :=
  match t.scan with
  | some k => k.base
  | none => t.base

/-- 4.1: the working divider: the base divider plus the working offset; 0 while there is no base divider. -/
def Tun.working (t : Tun) : Nat :=
  if t.shownBase = 0 then 0 else ((t.shownBase : Int) + t.offset).toNat

/-- 11.3: the TUNER group. -/
def liveTuner (t : Tun) : List Byte :=
  [Byte.of (t.st.code + 16 * (match t.scan with | some k => k.phase.code | none => 0)),
   Byte.of (t.kind.code + bitAt (t.owner == .schedule) 3 + bitAt t.hold 4 + 32 * t.band.code),
   Byte.of (t.preset.getD 0)]
  ++ le16 t.shownBase ++ [signedByte t.offset] ++ le16 t.working

/-- R117: the run context's state, that of its entry. -/
def Sch.runState (c : Sch) : Option EntryState := c.run.map fun r => (c.entries.get r.entry).state

/-- 11.3: the SCHEDULE group. -/
def liveSchedule (c : Sch) (timerOn : Bool) : List Byte :=
  let head := c.queue.head?
  [match c.claim with | none => 0xFF | some (k, _) => Byte.of k.val,
   match c.run with
   | none => 0
   | some r => Byte.of (r.entry.val + 16 * (c.entries.get r.entry).state.code + bitAt r.label 7),
   match c.run with
   | none => Byte.of (bitAt timerOn 7)
   | some r => Byte.of (bitAt r.late 0 + bitAt r.short 1 + bitAt r.unknownTape 2 + bitAt r.fallback 3
                        + bitAt r.markWritten 4 + bitAt timerOn 7),
   match head with | none => 0xFF | some k => Byte.of k.val,
   Byte.of c.queue.length]
  ++ (match head.bind fun k => (c.entries.get k).next with
      | none => [0, 0, 0, 0]
      | some t =>
        let d := dateTimeOf t
        [Byte.of d.month, Byte.of d.day, Byte.of d.hour, Byte.of d.minute])

/-- 11.3: the EVENTS group. -/
def liveEvents (q : Rqu) (m : Mpath) : List Byte :=
  [Byte.of (q.head + 32 * m.queue.length), Byte.of (q.count + bitAt q.irq 6 + bitAt m.urgent 7),
   Byte.of q.headSeq, Byte.of q.refused]

/-- 11.3: the power state. -/
def PowerState.code : PowerState → Nat
  | .backup => 0 | .standby => 1 | .on => 2

/-- 11.3: the ON phase. -/
def OnPhase.code : OnPhase → Nat
  | .rising => 0 | .resetHold => 1 | .running => 2 | .stopping => 3

/-- 11.3: the power-off. -/
def PowerOff.code : PowerOff → Nat
  | .none => 0 | .host _ => 1 | .auto => 2

/-- 11.3: the POWER group; the ON phase reads 0 outside ON (R193). -/
def livePower (w : Pwr) (mainGood : Bool) (straps : Straps) : List Byte :=
  [Byte.of (w.power.code + (if w.power == .on then 4 * w.phase.code else 0) + 16 * w.cause.code + bitAt w.keySince 7),
   Byte.of (bitAt w.key0.latch 0 + bitAt w.key1.latch 1 + bitAt w.key2.latch 2 + bitAt w.key3.latch 3
            + bitAt mainGood 4 + bitAt w.mainEn 5 + bitAt w.regionReady 6 + bitAt straps.fr30 7),
   Byte.of (w.off.code + 16 * straps.base.toNat)]

/-- 11.3: the LOG group. -/
def liveLog (c : Sch) : List Byte := [Byte.of c.logSlot] ++ le16 c.logSeq

/-- R160, R193: a fresh copy of a group, from the values that stand. -/
def liveBytes (g : LiveGroup) (s : State) : List Byte :=
  match g with
  | .clock => liveClock s.clk
  | .counter => liveCounter (Config.fps s.straps.fr30) s.pos
  | .remain => liveRemain s.pos s.srv.speed
  | .transport => liveTransport s.trc s.srv
  | .servo => liveServo s.srv
  | .tuner => liveTuner s.tun
  | .schedule => liveSchedule s.sch (setTimerOn s.mpath.settings)
  | .events => liveEvents s.rqu s.mpath
  | .power => livePower s.pwr s.pins.mainGood s.straps
  | .log => liveLog s.sch

/-! ### The snapshot latch -/

/-- 11.3: the lowest and the highest offset of a group. -/
def LiveGroup.range : LiveGroup → Nat × Nat
  | .clock => (0x020, 0x02A) | .counter => (0x02B, 0x034) | .remain => (0x035, 0x037) | .transport => (0x038, 0x03B)
  | .servo => (0x03C, 0x044) | .tuner => (0x045, 0x04C) | .schedule => (0x04D, 0x055) | .events => (0x056, 0x059)
  | .power => (0x05A, 0x05C) | .log => (0x05D, 0x05F)

/-- The ten groups. -/
def allGroups : List LiveGroup :=
  [.clock, .counter, .remain, .transport, .servo, .tuner, .schedule, .events, .power, .log]

/-- R161: the group of a live offset. -/
def groupAt (off : Nat) : Option LiveGroup := allGroups.find? fun g => g.range.1 ≤ off && off ≤ g.range.2

/-- R161: a host read of a live byte: the answer, and the latch after it. -/
def latchRead (off : Nat) (s : State) : Byte × Option (LiveGroup × List Byte) :=
  match groupAt off with
  | none => (0, s.mpath.latch)
  | some g =>
    let (low, high) := g.range
    let fresh := liveBytes g s
    if off = low then (fresh.headD 0, some (g, fresh))
    else match s.mpath.latch with
      | some (h, copy) =>
        if h = g then (copy[off - low]?.getD 0, if off = high then none else some (h, copy))
        else (fresh[off - low]?.getD 0, s.mpath.latch)
      | none => (fresh[off - low]?.getD 0, none)

/-! ### DECK_IRQ and urgency -/

/-- The host runs: HRST# is released (10.1; log entry 5). -/
def hostRuns (s : State) : Bool :=
  s.pwr.power == .on && (s.pwr.phase == .running || s.pwr.phase == .stopping)

/-- R175: the level of DECK_IRQ. -/
def irqLevel (s : State) : Bool :=
  hostRuns s && 1 ≤ s.rqu.count
  && setIrqEnable s.mpath.settings

/-- R165: the queue holds 4 groups and the power state is ON. -/
def urgentLevel (s : State) : Bool := s.pwr.power == .on && s.mpath.queue.length == 4

/-- R165: a host cycle that comes after an event may be the one that was in progress when HWAIT was asserted (log
entry 6). `ran` says that the host ran as the event came: a host that the event itself releases has no cycle in progress. -/
def openLevel (ran : Bool) (s : State) : Bool :=
  urgentLevel s && (s.mpath.cycleOpen || (!s.mpath.hwait && ran && hostRuns s))

/-- R165, R175: the lines that follow from the state that an event leaves; `ran` as for `openLevel`. -/
def setLines (ran : Bool) (s : State) : State :=
  let s := s.setRqu { s.rqu with irq := irqLevel s }
  s.setMpath { s.mpath with urgent := urgentLevel s, hwait := urgentLevel s, cycleOpen := openLevel ran s }

end Sys2Proof.Machine
end

