-- ==== Sys2Proof/Machine/LineData.lean ====
section
/-! DEFINITION. Machine/LineData.lean: the Line Data Slicer (chapter 5): the line window, the assembler, the packet
checks and the packet FIFO. -/

namespace Sys2Proof.Machine

/-! ### When the slicer runs -/

/-- R103: the FIFO is emptied; the takes that are due stay due, and will find nothing. -/
def Lds.empty (l : Lds) : Lds :=
  { l with fifo := [], clkVoid := l.clkTakes, schVoid := l.schTakes, tunVoid := l.tunTakes }

/-- R93, R94: the line under assembly ends. -/
def Lds.endLine (l : Lds) : Lds := { l with asm := .idle, bytes := [], searched := false }

/-- R90: the tuner state becomes LOCKED. -/
def Lds.locked (l : Lds) : Lds := { l with st := .waitField }

/-- R90: the tuner state leaves LOCKED. -/
def Lds.unlocked (l : Lds) : Lds := { l.endLine.empty with st := .off, line := 0 }

/-- R91: a field start: the slicer runs, the line count returns to 0 and the field window is taken. -/
def Lds.fieldStart (l : Lds) : Lds :=
  match l.st with
  | .off => l
  | _ => { l.endLine with st := .run, line := 0, field := l.window }

/-- R92: a line of the field window whose mask bit is set. -/
def LineWindow.examines (w : LineWindow) (line : Nat) : Bool :=
  w.first ≤ line && line < w.first + w.size && w.mask.getLsbD (line - w.first)

/-- R91, R93: a line start in RUN: the line count rises, and an examined line begins its search. -/
def Lds.lineStart (l : Lds) : Lds :=
  match l.st with
  | .run =>
    let line := min 255 (l.line + 1)
    { l.endLine with line, asm := if l.field.examines line then .runIn else .idle }
  | _ => l

/-! ### Framing -/

/-- Bits that alternate, beginning with `first`: the first `n` of them. -/
def alternates (first : Bool) : Nat → List Bool → Bool
  | 0, _ => true
  | _ + 1, [] => false
  | n + 1, b :: rest => b == first && alternates (!first) n rest

/-- R93: the bits that follow the first run-in of 16 alternating bits that begins with a 1. -/
def afterRunIn : List Bool → Option (List Bool)
  | [] => none
  | b :: rest => if alternates true 16 (b :: rest) then some (rest.drop 15) else afterRunIn rest

/-- A number from its bits, the least significant first. -/
def bitsValue : List Bool → Nat
  | [] => 0
  | b :: rest => b.toNat + 2 * bitsValue rest

/-- R93: the line's bits meet the assembler in RUN_IN. -/
def Lds.frame (bits : List Bool) (l : Lds) : Lds :=
  match l.asm with
  | .runIn =>
    if l.searched then l
    else match afterRunIn bits with
      | none => l
      | some rest =>
        if rest.length < 8 then l
        else if bitsValue (rest.take 8) = 0x9B then { l with asm := .framed, bytes := [] }
        else { l with searched := true }
  | _ => l

/-! ### Packets -/

/-- R94: the number of ones among the bits of a nine-bit byte. -/
def ones9 (b : BitVec 9) : Nat := ((List.range 9).filter fun i => b.getLsbD i).length

/-- R95: the parity of one byte. -/
def parityGood (b : BitVec 9) : Bool := ones9 b % 2 == 1

/-- The data value of a nine-bit byte. -/
def data9 (b : BitVec 9) : Byte := b.setWidth 8

/-- R95: the sum of data values, modulo 256. -/
def checkSum : List Byte → Byte
  | [] => 0
  | b :: rest => b + checkSum rest

/-- R95, R96, R97, R98, R99: the packet of sixteen bytes, if every check passes. -/
def packetOf (bytes : List (BitVec 9)) : Option Packet :=
  if bytes.length != 16 || !bytes.all parityGood then none
  else
    let d := bytes.map data9
    if d.getLastD 0 != checkSum (d.take 15) then none
    else match d with
      | t :: a :: b :: c :: e :: f :: g :: h :: _ =>
        let net := a.toNat + 256 * b.toNat
        if t == 0x17 then some (.time a b c e f g h)
        else if t == 0x27 then (if h.toNat ≤ 3 then some (.label net c e f g h.toNat) else none)
        else if t == 0x37 then
          (if [c, e, f, g, h].all fun x => 0x20 ≤ x.toNat && x.toNat ≤ 0x7E then some (.name net [c, e, f, g, h])
           else none)
        else none
      | _ => none

/-- The packet is a NAME. -/
def Packet.isName : Packet → Bool
  | .name _ _ => true
  | _ => false

/-- The packet is a LABEL. -/
def Packet.isLabel : Packet → Bool
  | .label _ _ _ _ _ _ => true
  | _ => false

/-- The packet is a TIME. -/
def Packet.isTime : Packet → Bool
  | .time _ _ _ _ _ _ _ => true
  | _ => false

/-- R100: two packets of one type and, for LABEL and NAME, one network. -/
def Packet.alike : Packet → Packet → Bool
  | .time _ _ _ _ _ _ _, .time _ _ _ _ _ _ _ => true
  | .label m _ _ _ _ _, .label n _ _ _ _ _ => m == n
  | .name m _, .name n _ => m == n
  | _, _ => false

/-! ### The FIFO -/

/-- R100, R101: the NAME entries that wait are removed unused, unless a scan is in DWELL. -/
def Lds.dropNames (dwell : Bool) (l : Lds) : Lds :=
  if dwell then l else { l with fifo := l.fifo.filter fun p => !p.isName }

/-- R100: the take that an appended packet makes due. -/
def Lds.due (dwell : Bool) (p : Packet) (l : Lds) : Lds :=
  match p with
  | .time _ _ _ _ _ _ _ => { l with clkTakes := l.clkTakes + 1 }
  | .label _ _ _ _ _ _ => { l with schTakes := l.schTakes + 1 }
  | .name _ _ => if dwell then { l with tunTakes := l.tunTakes + 1 } else l

/-- R100: a packet joins the FIFO: it replaces a like entry, is appended, or is dropped. -/
def Lds.join (dwell : Bool) (p : Packet) (l : Lds) : Lds :=
  if l.fifo.any fun q => q.alike p then { l with fifo := l.fifo.map fun q => if q.alike p then p else q }
  else if l.fifo.length < 8 then { l with fifo := l.fifo ++ [p] }.due dwell p
  else l.dropNames dwell

/-- R94, R95, R100: nine-bit bytes complete on the framed line; the sixteenth ends the packet. -/
def Lds.collect (dwell : Bool) (bytes : List (BitVec 9)) (l : Lds) : Lds :=
  match l.asm with
  | .framed =>
    let all := (l.bytes ++ bytes).take 16
    if all.length < 16 then { l with bytes := all }
    else
      let l := { l with asm := .done, bytes := all }
      match packetOf all with
      | none => l
      | some p => l.join dwell p
  | _ => l

/-- The oldest packet of a type, and the FIFO without it. -/
def takeOldest (is : Packet → Bool) : List Packet → Option Packet × List Packet
  | [] => (none, [])
  | p :: rest =>
    if is p then (some p, rest)
    else
      let (found, left) := takeOldest is rest
      (found, p :: left)

/-- R101, R103: a take by a consumer: `void` tells that an emptying has left it with nothing to find. -/
def Lds.takeEntry (is : Packet → Bool) (dwell void : Bool) (l : Lds) : Lds × Option Packet :=
  if void then (l, none)
  else
    let (p, rest) := takeOldest is l.fifo
    match p with
    | none => (l, none)
    | some p => ({ l with fifo := rest }.dropNames dwell, some p)

/-- R101: CLK's take of the oldest TIME entry. The takes that an emptying left come first. -/
def Lds.takeTime (dwell : Bool) (l : Lds) : Lds × Option Packet :=
  { l with clkTakes := l.clkTakes - 1, clkVoid := l.clkVoid - 1 }.takeEntry Packet.isTime dwell (l.clkVoid != 0)

/-- R101: SCH's take of the oldest LABEL entry. The takes that an emptying left come first. -/
def Lds.takeLabel (dwell : Bool) (l : Lds) : Lds × Option Packet :=
  { l with schTakes := l.schTakes - 1, schVoid := l.schVoid - 1 }.takeEntry Packet.isLabel dwell (l.schVoid != 0)

/-- R102: TUN's take of the oldest NAME entry; it leaves the other NAME entries. The takes that an emptying left come
first. -/
def Lds.takeName (l : Lds) : Lds × Option Packet :=
  { l with tunTakes := l.tunTakes - 1, tunVoid := l.tunVoid - 1 }.takeEntry Packet.isName true (l.tunVoid != 0)

end Sys2Proof.Machine
end

