-- ==== Sys2Proof/Machine/Tuner.lean ====
section
/-! DEFINITION. Machine/Tuner.lean: Tuner Control (chapter 4): words, tunes, AFC, the station scan, and the preset writes. -/

namespace Sys2Proof.Machine

/-! ### Words and the tuner state -/

/-- R67: the band of a working divider. -/
def bandOf (ifUnits n : Nat) : Band :=
  let rf : Int := (n : Int) - ifUnits
  if rf < 3400 then .low else if rf < 9400 then .mid else .high

/-- R67, R68: the word of the working divider falls due. While a word is being sent it waits, in place of any other, with
the band it was made with (log entry 57). -/
def sendWord (s : State) : State :=
  if !s.pins.mainGood then s
  else
    let t := s.tun
    let w : SynthWord := ⟨t.working, bandOf (setIf s.mpath.settings) t.working⟩
    match t.sending with
    | none => s.setTun { t with band := w.band, sending := some w }
    | some _ => s.setTun { t with band := w.band, waiting := some w }

/-- R68: the link neither sends a word nor holds one. -/
def Tun.linkIdle (t : Tun) : Bool := t.sending.isNone && t.waiting.isNone

/-- The tuner state changes; LDS follows LOCKED (R90). -/
def tunEnter (st : TunerState) (s : State) : State :=
  let s' := s.setTun { s.tun with st }
  if s.tun.st == .locked && st != .locked then s'.setLds s.lds.unlocked
  else if s.tun.st != .locked && st == .locked then s'.setLds s.lds.locked
  else s'

/-- R70, R74, R88: the AFC counts are cleared. -/
def Tun.clearCounts (t : Tun) : Tun := { t with samples := 0, centre := 0, offCentre := 0, syncLoss := 0 }

/-- R70, R79, R88: with MAIN_GOOD the word of the working divider is sent and SETTLING entered, without it HOLD. -/
def settleOrHold (s : State) : State :=
  if s.pins.mainGood then sendWord (tunEnter .settling s) else tunEnter .hold s

/-! ### A tuning taken -/

/-- R70: a DIRECT tuning of a divider. -/
def tuneDirect (n : Nat) (tag : Byte) (s : State) : State :=
  settleOrHold (s.setTun { s.tun.clearCounts with
    kind := .direct, preset := none, base := n, offset := 0, net := 0, hold := false, quiet := false, tag, scan := none })

/-- R70: a PRESET tuning. -/
def tunePreset (n : Nat) (tag : Byte) (s : State) : State :=
  let m := s.tun.presets
  settleOrHold (s.setTun { s.tun.clearCounts with
    kind := .preset, preset := some n, base := presetDivider m n, offset := presetOffset m n, net := presetNet m n,
    hold := false, quiet := false, tag, scan := none })

/-- R70, R76: the LINE tuning; tracking hold clears at it as at every tune. -/
def tuneLine (s : State) : State :=
  tunEnter .line (s.setTun { s.tun with
    kind := .line, preset := none, net := 0, hold := false, quiet := false, scan := none })

/-! ### The end of a scan -/

/-- The held write is the scan's station. -/
def TunHeld.isStation : TunHeld → Bool
  | .station _ => true
  | _ => false

/-- R84: a station in STORE when the scan ends is dropped unhanded. -/
def dropStation (s : State) : State :=
  if s.tun.held.any TunHeld.isStation then
    dropAsk .tun (s.setTun { s.tun with held := s.tun.held.filter fun h => !h.isStation })
  else s

/-- R84: a scan, if one is in progress, ends with an event; the base divider keeps the scan's (log entry 24).
What stands when no tune follows is log entry 48's. -/
def closeScan (code : Byte) (s : State) : State :=
  match s.tun.scan with
  | none => s
  | some k => post (evScanEnd code k.tag) (dropStation (s.setTun { s.tun with scan := none, base := k.base }))

/-- R84: a scan ends by DONE, FULL or SCAN_STOP, and a DIRECT tune of the working divider follows. -/
def endScan (code : Byte) (s : State) : State :=
  let n := s.tun.working
  tuneDirect n 0 (closeScan code s)

/-- R84, R88, R170: a scan ends by the main rail: DIRECT at the working divider with tag 0, HOLD. -/
def railScan (s : State) : State :=
  let n := s.tun.working
  let s := closeScan scanStopped s
  tunEnter .hold (s.setTun { s.tun with kind := .direct, preset := none, base := n, offset := 0, net := 0, tag := 0 })

/-- R80, R81: the scan's base divider becomes `n`, and STEP begins; outside the range the scan ends. -/
def scanTo (n : Int) (s : State) : State :=
  match s.tun.scan with
  | none => s
  | some k =>
    if dividerInRange n then
      sendWord (tunEnter .settling (s.setTun { s.tun with
        offset := 0, scan := some { k with base := n.toNat, phase := .step, station := none } }))
    else endScan scanDone s

/-- The signed step of a scan. -/
def ScanDir.by (d : ScanDir) (n : Int) : Int :=
  match d with
  | .up => n
  | .down => -n

/-- R80: the next step of a scan. -/
def scanNext (s : State) : State :=
  match s.tun.scan with
  | none => s
  | some k => scanTo ((k.base : Int) + k.dir.by 4) s

/-- R81: a scan resumes after a station at divider `l`. -/
def scanResume (l : Int) (s : State) : State :=
  match s.tun.scan with
  | none => s
  | some k => scanTo (l + k.dir.by 16) s

/-! ### Held writes (R77) -/

/-- R198: the sixteen bytes of a preset record. -/
def presetRecord (divider : Nat) (offset : Int) (net : Nat) (name : List Byte) : List Byte :=
  [0x01] ++ le16 divider ++ [signedByte offset] ++ le16 net ++ name ++ [0, 0, 0, 0, 0]

/-- R77, R83, R85: TUN hands a group; the shadow takes it in the same event. -/
def handTun (h : TunHeld) (s : State) : State :=
  match h with
  | .offset n v =>
    (enqueue (mkGroup (offPresets + 16 * n + 3) [v]) s).setTun
      { s.tun with presets := s.tun.presets.write (16 * n + 3) v }
  | .record n bytes =>
    (enqueue (mkGroup (offPresets + 16 * n) bytes) s).setTun
      { s.tun with presets := s.tun.presets.writeAll (16 * n) bytes }
  | .station k =>
    match s.tun.scan, freePreset s.tun.presets (setScanStart s.mpath.settings) with
    | none, _ => s
    | some _, none => endScan scanFull s
    | some c, some n =>
      let bytes := presetRecord k.divider k.offset k.net k.name
      let tuned : Int := (k.divider : Int) + k.offset
      let s := (enqueue (mkGroup (offPresets + 16 * n) bytes) s).setTun
        { s.tun with presets := s.tun.presets.writeAll (16 * n) bytes }
      scanResume tuned (post (evScanFound n c.tag tuned.toNat) s)

/-- R77: TUN hands a group at once when the queue has room, and otherwise holds it. -/
def offerTun (h : TunHeld) (s : State) : State :=
  if queueHasRoom s then handTun h s
  else askSlot .tun (s.setTun { s.tun with held := s.tun.held ++ [h] })

/-- The held write is an offset write of a preset. -/
def TunHeld.isOffset (n : Nat) : TunHeld → Bool
  | .offset m _ => m == n
  | _ => false

/-- R77: an offset write for a preset; a held one is replaced in its place. -/
def offerOffset (n : Nat) (v : Byte) (s : State) : State :=
  if s.tun.held.any (TunHeld.isOffset n) then
    s.setTun { s.tun with held := s.tun.held.map fun h => if h.isOffset n then .offset n v else h }
  else offerTun (.offset n v) s

/-- R73, R76, R77: the working offset is written to the tuned preset's offset byte, where it differs there. -/
def writeOffset (s : State) : State :=
  match s.tun.kind, s.tun.preset with
  | .preset, some n =>
    if presetOccupied s.tun.presets n && presetOffset s.tun.presets n != s.tun.offset then
      offerOffset n (signedByte s.tun.offset) s
    else s
  | _, _ => s

/-- R77: a host write to the offset byte of a preset removes a held offset write for it. -/
def dropHeldOffset (n : Nat) (s : State) : State :=
  if s.tun.held.any (TunHeld.isOffset n) then
    dropAsk .tun (s.setTun { s.tun with held := s.tun.held.filter fun h => !h.isOffset n })
  else s

/-! ### Acquisition -/

/-- R82: the station's record is made, and handed or held. -/
def makeStation (net : Nat) (name : List Byte) (s : State) : State :=
  match s.tun.scan with
  | none => s
  | some k =>
    let st : Station := ⟨k.base, s.tun.offset, net, name⟩
    offerTun (.station st) (s.setTun { s.tun with scan := some { k with phase := .store, station := some st } })

/-- R82: the name of a station without a NAME packet. -/
def noName : List Byte := [0x20, 0x20, 0x20, 0x20, 0x20]

/-- R81: a locked divider lies within 8 of an occupied preset's tuned divider. -/
def duplicate (m : Memory) (l : Int) : Bool :=
  (presetsFrom 1 99).any fun n => presetOccupied m n && (l - 8 ≤ presetTuned m n && presetTuned m n ≤ l + 8)

/-- R72, R75, R81: an acquisition fails. -/
def acquireFail (sync : Bool) (s : State) : State :=
  match s.tun.scan with
  | some _ => scanNext s
  | none =>
    let silent := s.tun.quiet && !sync
    let s := tunEnter (if sync then .drift else .noSignal) (s.setTun { s.tun with quiet := false })
    if silent then s else post (evTune (if sync then 3 else 2) s.tun.tag s.tun.preset s.tun.offset) s

/-- R73, R81: an acquisition locks. -/
def acquireLock (s : State) : State :=
  match s.tun.scan with
  | some k =>
    let l : Int := s.tun.working
    if duplicate s.tun.presets l then scanResume l s
    else
      tunEnter .locked (s.setTun { s.tun with
        offCentre := 0, syncLoss := 0, scan := some { k with phase := .dwell } })
  | none =>
    let s := writeOffset (tunEnter .locked (s.setTun { s.tun with offCentre := 0, syncLoss := 0, quiet := false }))
    post (evTune 1 s.tun.tag s.tun.preset s.tun.offset) s

/-- R71, R74: the working offset may move by `d`. -/
def stepAllowed (t : Tun) (d : Int) : Bool :=
  offsetInRange (t.offset + d) && dividerInRange ((t.shownBase : Int) + t.offset + d)

/-- R71: a reading steps the offset: up for AFT_HI alone, down for AFT_LO alone. -/
def readingStep (r : Reading) : Option Int :=
  if r.hi && !r.lo then some 1 else if r.lo && !r.hi then some (-1) else none

/-- R71: the 40th sample fails the acquisition. -/
def lastSample (r : Reading) (s : State) : State := if 40 ≤ s.tun.samples then acquireFail r.sync s else s

/-- R71: one sample of an acquisition. -/
def afcSample (r : Reading) (s : State) : State :=
  let t := { s.tun with samples := s.tun.samples + 1 }
  match readingStep r with
  | some d =>
    if stepAllowed t d then lastSample r (sendWord (s.setTun { t with offset := t.offset + d, centre := 0 }))
    else acquireFail r.sync (s.setTun { t with centre := 0 })
  | none =>
    if !r.hi && !r.lo && r.sync then
      let s := s.setTun { t with centre := t.centre + 1 }
      if 2 ≤ s.tun.centre then acquireLock s else lastSample r s
    else lastSample r (s.setTun { t with centre := 0 })

/-- R71, R74, R75, R80: an acquisition starts, this reading being its first sample. -/
def startAcquire (r : Reading) (s : State) : State :=
  afcSample r (tunEnter .acquire (s.setTun s.tun.clearCounts))

/-! ### Tracking -/

/-- R74, R82: the signal is lost, and TUNE LOST is posted with tag 0; so is the tune tag then 0 (log entry 46). A scan runs
no re-acquisition (log entry 24). -/
def signalLost (r : Reading) (s : State) : State :=
  match s.tun.scan with
  | some k =>
    let s := post (evTune 4 0 s.tun.preset s.tun.offset) s
    let s := tunEnter .locked (tunEnter .acquire (s.setTun { s.tun.clearCounts with tag := 0 }))
    if k.phase == .dwell then makeStation 0 noName s else s
  | none =>
    let s := post (evTune 4 0 s.tun.preset s.tun.offset) s
    startAcquire r (s.setTun { s.tun with tag := 0, quiet := false })

/-- R74: a tracking step of the working offset toward centre. -/
def trackStep (r : Reading) (s : State) : State :=
  match readingStep r with
  | none => s
  | some d =>
    if stepAllowed s.tun d then writeOffset (sendWord (s.setTun { s.tun with offset := s.tun.offset + d })) else s

/-- R74: one tracking sample. -/
def trackSample (r : Reading) (s : State) : State :=
  let t := s.tun
  if !r.sync then
    if 2 ≤ t.syncLoss + 1 then signalLost r (s.setTun { t with syncLoss := t.syncLoss + 1 })
    else s.setTun { t with syncLoss := t.syncLoss + 1 }
  else if !r.hi && !r.lo then s.setTun { t with syncLoss := 0, offCentre := 0 }
  else if t.hold then s.setTun { t with syncLoss := 0 }
  else if 3 ≤ t.offCentre + 1 then trackStep r (s.setTun { t with syncLoss := 0, offCentre := 0 })
  else s.setTun { t with syncLoss := 0, offCentre := t.offCentre + 1 }

/-! ### Requests -/

/-- 4.3: the kinds of a TUNE. -/
inductive TuneKind where
  | preset | direct | line
  deriving DecidableEq, Repr

/-- 11.2: the kind of a TUNE argument byte. -/
def tuneKindOf (b : Byte) : Option TuneKind :=
  match b.toNat with
  | 1 => some .preset | 2 => some .direct | 3 => some .line | _ => none

/-- R69, steps 2 to 5: why a tune is refused, if it is; `owned` tells that step 3 refuses it. -/
def tuneRefused (k : TuneKind) (value : Nat) (owned : Bool) (s : State) : Option Answer :=
  match k with
  | .preset =>
    if !(1 ≤ value && value ≤ 99) then some (badArg 1)
    else if owned then some (answer .owned)
    else if !presetOccupied s.tun.presets value then some (answer .notFound)
    else if !dividerInRange (presetTuned s.tun.presets value) then some (badArg 1)
    else none
  | .direct =>
    if !dividerInRange value then some (badArg 1) else if owned then some (answer .owned) else none
  | .line => if owned then some (answer .owned) else none

/-- R70: a tune is taken; a scan in progress ends first. -/
def takeTune (k : TuneKind) (value : Nat) (tag : Byte) (s : State) : State :=
  let s := closeScan scanStopped s
  match k with
  | .preset => tunePreset value tag s
  | .direct => tuneDirect value tag s
  | .line => tuneLine s

/-- R69: the TUNE request. -/
def requestTune (s : State) : State × Answer :=
  match tuneKindOf s.rqu.arg0 with
  | none => (s, badArg 0)
  | some k =>
    match tuneRefused k s.rqu.arg12 (s.tun.owner == .schedule) s with
    | some a => (s, a)
    | none => (takeTune k s.rqu.arg12 s.rqu.tag s, answer (if k == .line then .done else .accepted))

/-- R79: the scan is taken. The tune tag is the SCAN's (R66); tracking hold stands (log entry 47). -/
def takeScan (dir : ScanDir) (base : Nat) (s : State) : State :=
  let s := s.setTun { s.tun with
    kind := .scan, preset := none, net := 0, offset := 0, quiet := false, tag := s.rqu.tag,
    scan := some { dir, tag := s.rqu.tag, base, phase := .step, station := none } }
  if s.pins.mainGood then sendWord (tunEnter .settling s) else railScan s

/-- R79: the SCAN request. -/
def requestScan (s : State) : State × Answer :=
  let dir : Option ScanDir := match s.rqu.arg0.toNat with
    | 0 => some .up | 1 => some .down | _ => none
  let start := s.rqu.arg12
  let base := start + setIf s.mpath.settings
  match dir with
  | none => (s, badArg 0)
  | some d =>
    if start != 0 && !dividerInRange base then (s, badArg 1)
    else if s.tun.owner == .schedule then (s, answer .owned)
    else if s.tun.scan.isSome then (s, answer .busy)
    else if (freePreset s.tun.presets (setScanStart s.mpath.settings)).isNone then (s, answer .full)
    else
      let from_ := if start != 0 then base else (match d with | .up => Config.dividerLow | .down => Config.dividerHigh)
      (takeScan d from_ s, answer .accepted)

/-- R84: the SCAN_STOP request. -/
def requestScanStop (s : State) : State × Answer :=
  if s.tun.scan.isSome then (endScan scanStopped s, answer .done) else (s, answer .state)

/-- R85: the record a STORE makes. -/
def storeRecord (t : Tun) : List Byte :=
  match t.kind, t.preset with
  | .preset, some n => presetRecord t.base t.offset (presetNet t.presets n) (presetName t.presets n)
  | _, _ => presetRecord t.base t.offset 0 noName

/-- R85: the STORE request. -/
def requestStore (s : State) : State × Answer :=
  let n := s.rqu.arg0.toNat
  if !(1 ≤ n && n ≤ 99) then (s, badArg 0)
  else if s.tun.owner == .schedule then (s, answer .owned)
  else if s.tun.scan.isSome then (s, answer .busy)
  else if s.tun.kind == .none || s.tun.kind == .line || s.tun.kind == .scan || s.tun.st == .idle then
    (s, answer .state)
  else
    let s' := offerTun (.record n (storeRecord s.tun)) s
    (s'.setTun { s'.tun with kind := .preset, preset := some n }, answer .done)

/-- R76: FINE moves the working offset by `d`, or leaves it at its limit, and sets tracking hold. -/
def takeFine (d : Int) (s : State) : State :=
  let s := s.setTun { s.tun with hold := true }
  if stepAllowed s.tun d then writeOffset (sendWord (s.setTun { s.tun with offset := s.tun.offset + d })) else s

/-- R76: the FINE request. -/
def requestFine (s : State) : State × Answer :=
  let d : Option Int := match s.rqu.arg0.toNat with
    | 0x01 => some 1 | 0xFF => some (-1) | _ => none
  match d with
  | none => (s, badArg 0)
  | some d =>
    if s.tun.owner == .schedule then (s, answer .owned)
    else
      let wrong := s.tun.scan.isSome || s.tun.kind != .preset
        || !(s.tun.st == .locked || s.tun.st == .noSignal || s.tun.st == .drift)
      if wrong then (s, answer .state)
      else if !presetOccupied s.tun.presets (s.tun.preset.getD 0) then (s, answer .notFound)
      else (takeFine d s, answer .done)

/-! ### The owner and the main rail -/

/-- R78: SCH takes the tuner. -/
def takeTuner (s : State) : State :=
  closeScan scanStopped (s.setTun { s.tun with owner := .schedule })

/-- R78: SCH returns the tuner. -/
def returnTuner (s : State) : State := s.setTun { s.tun with owner := .panel }

/-- R88: MAIN_GOOD is lost or released. -/
def tunerRailLost (s : State) : State :=
  let s := s.setTun { s.tun with sending := none, waiting := none, quiet := false }
  if s.tun.scan.isSome then railScan s
  else match s.tun.kind with
    | .scan => railScan s
    | .preset | .direct => tunEnter .hold s
    | .none | .line => s

/-- R88: MAIN_GOOD arrives: a tuning in HOLD sends its word and enters SETTLING. -/
def tunerRailGood (s : State) : State :=
  if s.tun.st == .hold then settleOrHold (s.setTun s.tun.clearCounts) else s

/-! ### Tuner events -/

/-- R68: the word being sent completes, and the waiting word is sent. -/
def wordEnd (s : State) : State :=
  match s.tun.sending with
  | none => s
  | some _ => s.setTun { s.tun with sending := s.tun.waiting, waiting := none }

/-- The tuning indicators as last read. -/
def sawReading (r : Reading) (s : State) : State :=
  s.setPins { s.pins with aftHi := r.hi, aftLo := r.lo, syncOk := r.sync }

/-- R71: the 30 ms settle of SETTLING ends. -/
def settleEnd (r : Reading) (s : State) : State :=
  if s.tun.st == .settling && s.tun.scan.isNone && s.tun.linkIdle then startAcquire r (sawReading r s) else s

/-- R71: a 20 ms sample of ACQUIRE. -/
def afcEvent (r : Reading) (s : State) : State :=
  if s.tun.st == .acquire && s.tun.linkIdle then afcSample r (sawReading r s) else s

/-- R74: a 1 s sample of LOCKED. -/
def trackEvent (r : Reading) (s : State) : State :=
  if s.tun.st == .locked then trackSample r (sawReading r s) else s

/-- R75: a 1 s watch of NO_SIGNAL. An acquisition that it starts makes the tune tag 0 (log entry 46). -/
def watchEvent (r : Reading) (s : State) : State :=
  if s.tun.st == .noSignal && (s.tun.kind == .preset || s.tun.kind == .direct) then
    let s := sawReading r s
    if r.sync then startAcquire r (s.setTun { s.tun with quiet := true, tag := 0 }) else s
  else s

/-- R80: 30 ms after a step word. -/
def stepTest (r : Reading) (s : State) : State :=
  match s.tun.scan with
  | none => s
  | some k =>
    if k.phase == .step && s.tun.linkIdle then
      let s := sawReading r s
      if r.sync then startAcquire r (s.setTun { s.tun with scan := some { k with phase := .acquire } }) else scanNext s
    else s

/-- The scan is in DWELL. -/
def inDwell (s : State) : Bool :=
  match s.tun.scan with
  | some k => k.phase == .dwell
  | none => false

/-- R82: the dwell ends without a NAME packet. -/
def dwellEnd (s : State) : State := if inDwell s then makeStation 0 noName s else s

/-- R102: TUN's take of the oldest NAME entry. -/
def nameTake (s : State) : State :=
  if s.lds.tunTakes = 0 then s
  else
    let (l, p) := s.lds.takeName
    let s := s.setLds l
    match p with
    | some (.name net chars) => if inDwell s then makeStation net chars s else s
    | _ => s

end Sys2Proof.Machine
end

