-- ==== Sys2Proof/Machine/Transport.lean ====
section
/-! DEFINITION. Machine/Transport.lean: the Transport Controller (chapter 1): state entries, limits, faults, searches,
requests, and the scheduler's operations. -/

namespace Sys2Proof.Machine

/-! ### States, rows and directions -/

/-- 1.1: the threaded states. -/
def TransportState.threaded : TransportState → Bool
  | .stop | .play | .still | .record | .recPause | .cue | .review | .ff | .rew | .seek => true
  | _ => false

/-- R29: the row of the state and phase. -/
def rowOf (t : Trc) : Row :=
  match t.st with
  | .stop | .still => .still
  | .recPause => (match t.phase with | .atRest => .rest | .backSpace => .backSpace | .catchUp => .catchUp)
  | .record => .record
  | .play => .play
  | .cue => .cue
  | .review => .review
  | .ff => .ff
  | .rew => .rew
  | .seek => (match t.search with
    | some k => (match k.phase with | .wind => .seekWind k.dir | _ => .seekSlow k.dir)
    | none => .still)
  | _ => .allOff

/-- 1.1: the direction of the motion, if the state is one. -/
def motionDir (t : Trc) : Option Dir :=
  match t.st with
  | .play | .record | .cue | .ff => some .forward
  | .review | .rew => some .backward
  | .seek => t.search.map fun k => k.dir
  | .recPause => (match t.phase with
    | .backSpace => some .backward | .catchUp => some .forward | .atRest => none)
  | _ => none

/-- R29: TRC hands SRV the row of its state and phase; `on` starts the capstan of RECORD. POS follows the motion. -/
def applyRow (on : Bool) (s : State) : State :=
  let row := rowOf s.trc
  let v := s.srv
  let v' := v.drive s.pins.mainGood s.straps.fr30 s.now (setSpeed s.mpath.settings) row on
  let p := s.pos.changeRow s.now v.row v.capOn row on
  (s.setSrv v').setPos (if v'.speed = v.speed then p else p.requote v'.speed)

/-- R38: a speed and its origin are set; POS quotes the remaining time at it (R63). -/
def useSpeed (m : Speed) (o : SpeedOrigin) (s : State) : State :=
  let s' := s.setSrv (s.srv.setSpeed s.now m o)
  if s.srv.speed = m then s' else s'.setPos (s.pos.requote m)

/-! ### Lock allowances (R17) -/

/-- R17: the drum lock a state requires. -/
def drumNeed : TransportState → Option DrumLock
  | .record | .recPause => some .phase
  | .play | .cue | .review | .still | .stop | .ff | .rew | .seek => some .speed
  | _ => none

/-- R17: the drum's allowance of these states begins once the main rail is good. -/
def waitsForRail : TransportState → Bool
  | .still | .stop | .ff | .rew | .seek => true
  | _ => false

/-- 2.4: a lock held by the drum meets a required one. -/
def drumMeets (need lock : DrumLock) : Bool :=
  match need with
  | .phase => lock == .phase
  | _ => lock != .unlocked

/-- R17: the drum's lock is required and not held. -/
def drumMissing (s : State) : Bool :=
  match drumNeed s.trc.st with
  | none => false
  | some n => !drumMeets n s.srv.drumLock && (s.pins.mainGood || !waitsForRail s.trc.st)

/-- R17: the capstan's SPEED_LOCK is required. -/
def capNeeded (s : State) : Bool :=
  match s.trc.st with
  | .play | .cue | .review => true
  | .record => s.srv.capOn
  | .recPause => s.trc.phase == .catchUp
  | _ => false

/-- R17: the drum's allowance restarts, or stops where its lock is held or not required. -/
def restartDrum (s : State) : State :=
  s.setTrc { s.trc with drumAllow := if drumMissing s then some s.now else none }

/-- R17: the capstan's allowance restarts, or stops where its lock is held or not required. -/
def restartCap (s : State) : State :=
  s.setTrc { s.trc with capAllow := if capNeeded s && !s.srv.capLock then some s.now else none }

/-! ### Entering a state -/

/-- R14, R15: whether the idle or the pause timer runs in a state. -/
def idleState (t : Trc) : Bool := t.st == .stop && t.owner == .panel && t.pending.isNone
/-- R15: the states of the pause timer. -/
def pauseState (t : Trc) : Bool := (t.st == .still || t.st == .recPause) && t.owner == .panel

/-- TRC enters a state: what leaving the old one ends, the timers, the brake, the drives (R29) and the allowances. -/
def enterCore (st : TransportState) (on : Bool) (s : State) : State :=
  let old := s.trc
  let t : Trc := { old with
    st := st, brake := st == .stop || st == .fault, rewindDue := false,
    search := if st == .seek then old.search else none,
    phase := if st == .recPause then old.phase else .atRest,
    heldResume := if st == .recPause then old.heldResume else none,
    pausePoint := if st == .recPause then old.pausePoint else none,
    loadMotor := (match st with | .threading => .forward | .unthreading | .ejecting => .reverse | _ => .off),
    loadTimer := (match st with | .threading | .unthreading | .ejecting => some s.now | _ => none) }
  let t : Trc := { t with
    idle := if idleState t then some s.now else none,
    pauseT := if pauseState t then some s.now else none }
  let s := restartDrum (applyRow on (s.setTrc t))
  if old.st == .recPause && st == .record then s else restartCap s

/-- R128, R132: TRC reports the state it has entered: to SCH as the owner's, or as a new state under PANEL. -/
def reportState (s : State) : State :=
  match s.trc.owner with
  | .schedule => notify (.transport s.trc.st) s
  | .panel => notify .check s

/-- R8: TRC enters a state and posts TRANSPORT. -/
def enterPosting (st : TransportState) (o : Origin) (on : Bool) (s : State) : State :=
  reportState (post (evTransport st o) (enterCore st on s))

/-- R8: TRC enters a state as the immediate effect of a request (`quiet`), or posts TRANSPORT. -/
def enter (st : TransportState) (o : Origin) (quiet on : Bool) (s : State) : State :=
  if quiet then reportState (enterCore st on s) else enterPosting st o on s

/-- R16, R18, R22: writing stops; R54: a mark being written is cut short. -/
def stopWriting (s : State) : State :=
  if s.trc.writing then
    (s.setTrc { s.trc with writing := false }).setPos { s.pos with markWrite := none }
  else s

/-- R16: writing begins; a mark due begins an index mark. -/
def beginWriting (s : State) : State :=
  let p := s.pos.beginWriting (Config.counterLimit s.straps.fr30) s.trc.markDue
  (s.setPos p).setTrc { s.trc with writing := true, markDue := false }

/-- R16: in RECORD, writing begins once the drum holds PHASE_LOCK and the capstan SPEED_LOCK. -/
def tryWriting (s : State) : State :=
  if s.trc.st == .record && s.srv.capOn && s.srv.drumLock == .phase && s.srv.capLock && !s.trc.writing then
    beginWriting s
  else s

/-! ### Faults (R22) -/

/-- R22: a fault is latched; in FAULT the first one stays. -/
def latchFault (code : FaultCode) (detail : Nat) (s : State) : State :=
  if s.trc.st == .fault then s
  else
    let s := stopWriting s
    let s := s.setTrc { s.trc with
      fault := some ⟨code, detail⟩, pending := none, markDue := false, search := none, reverseRun := false }
    let s := post (evTfault code detail) (enterCore .fault false s)
    match s.trc.owner with
    | .schedule => notify (.fault code) s
    | .panel => notify .check s

/-! ### Tape limits and the automatic rewind (R20) -/

/-- R20, R24, R25: TRC stops the tape at a limit and posts its events, SEARCH before TRANSPORT (log entry 62). A limit met in
SETTLE ends the search NOT_FOUND too (log entry 40). -/
def limitCore (e : TapeEnd) (stall : Bool) (s : State) : State :=
  let search := if s.trc.st == .seek then s.trc.search else none
  let due := e == .ending && setAutoRewind s.mpath.settings && search.isNone
  let s := post (evTapeLimit e stall) (enterCore .stop false (stopWriting s))
  let s := match search with
    | some k => post (evSearch 0x02 k.tag k.kind) s
    | none => s
  let s := reportState (post (evTransport .stop .auto) (s.setTrc { s.trc with rewindDue := due }))
  match s.trc.owner with
  | .schedule => notify .tapeLimit s
  | .panel => s

/-- The limit whose sensor is active in the direction of the motion that stands (R20). -/
def limitMet (s : State) : Option TapeEnd :=
  match motionDir s.trc with
  | some .forward => if s.pins.endSense then some .ending else none
  | some .backward => if s.pins.startSense then some .beginning else none
  | none => none

/-- R20: a due rewind is taken in STOP under PANEL. -/
def takeRewind (s : State) : State :=
  if s.trc.st == .stop && s.trc.owner == .panel && s.trc.rewindDue then
    let s := enterPosting .rew .auto false s
    if s.pins.startSense then limitCore .beginning false s else s
  else s

/-- R20: a tape limit. -/
def tapeLimit (e : TapeEnd) (stall : Bool) (s : State) : State := takeRewind (limitCore e stall s)

/-- R20: a motion started while its sensor is active meets its limit in the event of starting. -/
def meetLimit (s : State) : State :=
  match limitMet s with
  | some e => tapeLimit e false s
  | none => s

/-! ### Motions, pause and record -/

/-- R8: a motion is entered. -/
def enterMotion (st : TransportState) (o : Origin) (quiet : Bool) (s : State) : State :=
  meetLimit (enter st o quiet false s)

/-- R37: TRC asks SRV for a run. -/
def startRun (goal : Nat) (s : State) : State := s.setSrv (s.srv.startRun goal)

/-- R18: the pulses of a back-space or catch-up at the speed in use. -/
def pausePulses (s : State) : Nat := framePulses s.srv.speed Config.pauseFrames

/-- A phase of REC_PAUSE begins. -/
def enterPhase (p : RecPhase) (s : State) : State :=
  restartCap (applyRow false (s.setTrc { s.trc with phase := p }))

/-- R18: REC_PAUSE is entered, with back-space. -/
def beginPause (o : Origin) (quiet : Bool) (s : State) : State :=
  let s := stopWriting s
  let s := s.setTrc { s.trc with pausePoint := some s.pos.counter, phase := .backSpace, heldResume := none }
  let n := pausePulses s
  meetLimit (startRun n (enter .recPause o quiet false s))

/-- R19: catch-up begins by a RESUME. -/
def startCatchUp (o : Origin) (s : State) : State :=
  let s := enterPhase .catchUp (s.setTrc { s.trc with resumeBy := o, heldResume := none })
  meetLimit (startRun (pausePulses s) s)

/-- R18, R19: back-space is done: a held RESUME begins catch-up, or the tape comes to rest. -/
def backSpaceDone (s : State) : State :=
  match s.trc.heldResume with
  | some o => startCatchUp o s
  | none => enterPhase .atRest s

/-- R19, R37: a PAUSE in catch-up: the capstan backs the tape by what catch-up had moved. -/
def reverseCatchUp (s : State) : State :=
  let moved := match s.srv.run with
    | some r => r.done
    | none => 0
  let s := enterPhase .backSpace s
  if moved = 0 then meetLimit (backSpaceDone s) else meetLimit (startRun moved s)

/-- R19: catch-up is done: writing resumes and RECORD is entered. -/
def catchUpDone (s : State) : State :=
  let o := s.trc.resumeBy
  let s := beginWriting (enterCore .record true s)
  reportState (post (evTransport .record o) s)

/-- R37: a frame run completes. -/
def runDone (s : State) : State :=
  if s.trc.st == .recPause then
    match s.trc.phase with
    | .backSpace => backSpaceDone s
    | .catchUp => catchUpDone s
    | .atRest => s
  else s

/-- R16: RECORD, or REC_PAUSE when start paused is set, is entered from a still tape. The mark flag gives mark due its
value: a flag of 0 clears one left by an earlier REC_PAUSE (log entry 39). -/
def enterRecord (m : Speed) (mark paused : Bool) (o : Origin) (quiet : Bool) (s : State) : State :=
  let s := useSpeed m .recorded (s.setTrc { s.trc with markDue := mark })
  if paused then beginPause o quiet s
  else meetLimit (tryWriting (enter .record o quiet (s.srv.drumLock == .phase) s))

/-! ### Searches (1.9) -/

/-- R26, R27: a search in progress ends with SEARCH STOPPED. -/
def stopSearch (s : State) : State :=
  match s.trc.st, s.trc.search with
  | .seek, some k => post (evSearch 0x03 k.tag k.kind) s
  | _, _ => s

/-- R24: a GOTO starts. One to the counter itself, in STOP, enters nothing anew: the idle timer stays as it is (log entry
38). -/
def startGoto (target : Int) (o : Origin) (quiet : Bool) (s : State) : State :=
  let c := s.pos.counter
  if c = target then
    let s := if s.trc.st == .stop then s else reportState (enterCore .stop false s)
    let s := post (evSearch 0x01 o.tag .goto) s
    if quiet then s else post (evTransport .stop o) s
  else
    let k : Search :=
      { kind := .goto, tag := o.tag, dir := if c < target then .forward else .backward,
        phase := if (target - c).natAbs ≤ 250 then .approach else .wind,
        target, count := 0, counted := 0, start := c, since := s.now }
    meetLimit (enter .seek o quiet false (s.setTrc { s.trc with search := some k }))

/-- R25: an INDEX_SEARCH starts. -/
def startIndex (dir : Dir) (count : Nat) (o : Origin) (quiet : Bool) (s : State) : State :=
  let k : Search :=
    { kind := .index, tag := o.tag, dir, phase := .wind, target := 0, count, counted := 0,
      start := s.pos.counter, since := s.now }
  meetLimit (enter .seek o quiet false (s.setTrc { s.trc with search := some k }))

/-- R24: the counter has reached a target in a direction. -/
def reached (dir : Dir) (c target : Int) : Bool :=
  match dir with
  | .forward => target ≤ c
  | .backward => c ≤ target

/-- R24, R25: a search is found: STOP after a GOTO, PLAY after an index search. -/
def searchFound (k : Search) (s : State) : State :=
  let o : Origin := ⟨k.tag, .request⟩
  let st : TransportState := match k.kind with | .goto => .stop | .index => .play
  let s := post (evSearch 0x01 k.tag k.kind) (enterCore st false s)
  meetLimit (reportState (post (evTransport st o) s))

/-- R24, R25, R57: TRC is handed a changed counter. -/
def counterChanged (s : State) : State :=
  match s.trc.st, s.trc.search with
  | .seek, some k =>
    let k := { k with since := s.now }
    let c := s.pos.counter
    if (k.kind == .goto || k.phase == .settle) && reached k.dir c k.target then searchFound k s
    else if k.kind == .goto && k.phase == .wind && (k.target - c).natAbs ≤ 250 then
      applyRow false (s.setTrc { s.trc with search := some { k with phase := .approach } })
    else s.setTrc { s.trc with search := some k }
  | _, _ => s

/-- R25: a mark that a search does not count. -/
def passedOver (k : Search) (m : Int) : Bool :=
  match k.dir with
  | .forward => m < k.start
  | .backward => k.start - 150 < m && m ≤ k.start

/-- R25, R57: TRC is handed a mark; the n-th counted one begins SETTLE. -/
def markReported (m : Int) (s : State) : State :=
  match s.trc.st, s.trc.search with
  | .seek, some k =>
    if k.kind == .index && k.phase == .wind && !passedOver k m then
      let k := { k with counted := k.counted + 1 }
      if k.counted < k.count then s.setTrc { s.trc with search := some k }
      else
        let c := s.pos.counter
        let k := { k with phase := .settle, target := m, dir := if m < c then .backward else .forward }
        if c = m then searchFound k s
        else meetLimit (applyRow false (s.setTrc { s.trc with search := some k }))
    else s
  | _, _ => s

/-- R24: the counter has not changed for 4 s: SEARCH NOT_FOUND, and TRANSPORT after it (log entry 62). -/
def searchTimeout (s : State) : State :=
  match s.trc.st, s.trc.search with
  | .seek, some k =>
    if k.kind == .goto then
      let s := reachLimit k.since Config.searchLimit s
      let s := post (evSearch 0x02 k.tag k.kind) (enterCore .stop false s)
      reportState (post (evTransport .stop .auto) s)
    else s
  | _, _ => s

/-! ### Threading, unthreading and eject -/

/-- R9: threading begins with a pending target. -/
def beginThread (p : Target) (s : State) : State :=
  let s := s.setTrc { s.trc with pending := some p, attempt := 1, reverseRun := false }
  reportState (enterCore .threading false s)

/-- R12: unthreading begins, with a pending EJECT or with what its end posts. -/
def beginUnthread (pending : Option Target) (o : Origin) (s : State) : State :=
  let s := stopWriting s
  reportState (enterCore .unthreading false (s.setTrc { s.trc with pending, op := o }))

/-- R13: an eject begins. -/
def beginEject (o : Origin) (s : State) : State :=
  reportState (enterCore .ejecting false (s.setTrc { s.trc with pending := none, op := o, reverseRun := false }))

/-- R27: a target is held in STOP for the main rail. -/
def holdInStop (p : Target) (s : State) : State :=
  s.setTrc { s.trc with pending := some p, idle := none }

/-- R9: a pending target is served from a threaded, still tape. -/
def serveTarget (p : Target) (s : State) : State :=
  let s := s.setTrc { s.trc with pending := none }
  match p.req with
  | .play => enterMotion .play p.from_ false s
  | .cue => enterMotion .cue p.from_ false s
  | .review => enterMotion .review p.from_ false s
  | .ff => enterMotion .ff p.from_ false s
  | .rew => enterMotion .rew p.from_ false s
  | .stop => enter .stop p.from_ false false s
  | .eject => beginUnthread (some p) .auto s
  | .record m mark paused => enterRecord m mark paused p.from_ false s
  | .goto t => startGoto t p.from_ false s
  | .indexSearch d n => startIndex d n p.from_ false s

/-- R27: a target whose state needs the drum, capstan or reel motor. -/
def needsRail : TargetRequest → Bool
  | .stop | .eject => false
  | _ => true

/-- R9, R27: the THREADED switch closes in threading. The TRANSPORT STOP of a target that is held carries the target's tag and
cause (log entry 51). -/
def threadingDone (s : State) : State :=
  let s := s.setTrc { s.trc with loadMotor := .off, loadTimer := none }
  match s.trc.pending with
  | none => enter .stop .auto false false s
  | some p =>
    if needsRail p.req && !s.pins.mainGood then holdInStop p (enter .stop p.from_ false false s)
    else serveTarget p s

/-- R11: threading fails: the reverse run, or JAM. -/
def threadFailure (s : State) : State :=
  if s.trc.attempt = 1 && !s.trc.reverseRun then
    s.setTrc { s.trc with reverseRun := true, loadMotor := .reverse, loadTimer := some s.now }
  else latchFault .jam 0 s

/-- R12, R23: the resting state that CASS_SW gives. -/
def restState (s : State) : TransportState := if s.pins.cassSw then .unthreaded else .noCassette

/-- R11, R12: the UNTHREADED switch closes. -/
def unthreadedSwitch (s : State) : State :=
  match s.trc.st with
  | .unthreading =>
    (match s.trc.pending with
     | some p => beginEject p.from_ s
     | none => enter (restState s) s.trc.op false false s)
  | .threading =>
    if s.trc.reverseRun then
      match s.trc.pending with
      | some ⟨.eject, o⟩ => beginEject o s
      | _ => s.setTrc { s.trc with
          attempt := 2, reverseRun := false, loadMotor := .forward, loadTimer := some s.now }
    else s
  | _ => s

/-! ### Requests (1.4) -/

/-- R20: rewind due is cleared by any request taken. -/
def clearRewind (s : State) : State := s.setTrc { s.trc with rewindDue := false }

/-- R10, R27: a request becomes the pending target. -/
def replaceTarget (p : Target) (s : State) : State := s.setTrc { s.trc with pending := some p }

/-- R168: the origin of a host request. -/
def hostOrigin (s : State) : Origin := ⟨s.rqu.tag, .request⟩

/-- R7: what the state table says to a target request other than EJECT. -/
inductive TableAnswer where
  | refuse (r : Result)
  | thread
  | replace
  | act
  deriving DecidableEq, Repr

/-- R7, R27: the rows of PLAY, CUE, REVIEW, FF and REW, and of GOTO and INDEX_SEARCH. -/
def motionTable (t : Trc) : TableAnswer :=
  match t.st with
  | .noCassette => .refuse .noCassette
  | .unthreaded => .thread
  | .threading => .replace
  | .unthreading | .ejecting => .refuse .busy
  | .fault | .record | .recPause => .refuse .state
  | .stop => if t.pending.isSome then .replace else .act
  | _ => .act

/-- R4, step 2: the owner check of every host transport request but STOP with override. -/
def ownedByPanel (s : State) : Bool := s.trc.owner == .panel

/-- R7: a motion request. One for the state that stands answers DONE and enters nothing anew: no allowance and no timer
restarts (log entry 38). -/
def requestMotion (st : TransportState) (req : TargetRequest) (s : State) : State × Answer :=
  if !ownedByPanel s then (s, answer .owned)
  else match motionTable s.trc with
    | .refuse r => (s, answer r)
    | .thread => (beginThread ⟨req, hostOrigin s⟩ (clearRewind s), answer .accepted)
    | .replace => (replaceTarget ⟨req, hostOrigin s⟩ (clearRewind s), answer .accepted)
    | .act =>
      if s.trc.st == st then (clearRewind s, answer .done)
      else (enterMotion st (hostOrigin s) true (stopSearch (clearRewind s)), answer .done)

/-- R7, R24, R25: GOTO and INDEX_SEARCH after their arguments. -/
def requestSearch (req : TargetRequest) (start : State → State) (s : State) : State × Answer :=
  if !ownedByPanel s then (s, answer .owned)
  else match motionTable s.trc with
    | .refuse r => (s, answer r)
    | .thread => (beginThread ⟨req, hostOrigin s⟩ (clearRewind s), answer .accepted)
    | .replace => (replaceTarget ⟨req, hostOrigin s⟩ (clearRewind s), answer .accepted)
    | .act => (start (stopSearch (clearRewind s)), answer .accepted)

/-- R24: the GOTO request. -/
def requestGoto (s : State) : State × Answer :=
  let t := s.rqu.arg24
  let limit := Config.counterLimit s.straps.fr30
  if t < -limit || limit < t then (s, badArg 0)
  else requestSearch (.goto t) (startGoto t (hostOrigin s) true) s

/-- R25: the INDEX_SEARCH request. -/
def requestIndex (s : State) : State × Answer :=
  let dir : Option Dir := match s.rqu.arg0.toNat with
    | 0 => some .forward | 1 => some .backward | _ => none
  let n := s.rqu.arg1.toNat
  match dir with
  | none => (s, badArg 0)
  | some d =>
    if !(1 ≤ n && n ≤ 20) then (s, badArg 1)
    else requestSearch (.indexSearch d n) (startIndex d n (hostOrigin s) true) s

/-- 11.2: the source kinds of RECORD. -/
inductive RecordSource where
  | current
  | tuned (k : TuneKind)
  deriving DecidableEq, Repr

/-- 11.2: the source kind of a RECORD argument byte. -/
def recordSource (b : Byte) : Option RecordSource :=
  if b.toNat = 0 then some .current else (tuneKindOf b).map .tuned

/-- R6: RECORD hands its source to TUN; the tuner's refusal, if it refuses. -/
def recordTune (src : RecordSource) (s : State) : State × Option Answer :=
  match src with
  | .current => (s, none)
  | .tuned k =>
    match tuneRefused k s.rqu.arg12 (s.tun.owner == .schedule) s with
    | some a => (s, some a)
    | none => (takeTune k s.rqu.arg12 s.rqu.tag s, none)

/-- R4, R192: the first failing argument of RECORD. -/
def recordBadArg (q : Rqu) : Option Nat :=
  match recordSource q.arg0 with
  | none => some 0
  | some src =>
    if src == .tuned .preset && !(1 ≤ q.arg12 && q.arg12 ≤ 99) then some 1
    else if (speedOf q.arg3.toNat).isNone then some 3
    else if 2 ≤ q.arg4.toNat then some 4
    else if 2 ≤ q.arg5.toNat then some 5
    else none

/-- R7, R16, R27: a RECORD that has passed its checks, in UNTHREADED, THREADING or STOP. -/
def takeRecord (m : Speed) (mark paused : Bool) (o : Origin) (quiet : Bool) (s : State) : State × Answer :=
  let p : Target := ⟨.record m mark paused, o⟩
  match s.trc.st with
  | .unthreaded => (beginThread p s, answer .accepted)
  | .threading => (replaceTarget p s, answer .accepted)
  | _ =>
    if s.trc.pending.isSome || !s.pins.mainGood then (holdInStop p s, answer .accepted)
    else (enterRecord m mark paused o quiet s, answer .done)

/-- R7: the refusal of a RECORD by the state table, if it is refused. -/
def recordTable (t : Trc) : Option Result :=
  match t.st with
  | .noCassette => some .noCassette
  | .unthreaded | .threading | .stop => if t.tab then none else some .writeProtected
  | .unthreading | .ejecting => some .busy
  | _ => some .state

/-- R16: the RECORD request. -/
def requestRecord (s : State) : State × Answer :=
  match recordBadArg s.rqu with
  | some cell => (s, badArg cell)
  | none =>
    if !ownedByPanel s then (s, answer .owned)
    else match recordTable s.trc with
      | some r => (s, answer r)
      | none =>
        let o := hostOrigin s
        match recordTune ((recordSource s.rqu.arg0).getD .current) s with
        | (_, some a) => (s, a)
        | (s', none) =>
          takeRecord ((speedOf s.rqu.arg3.toNat).getD .sp) (s.rqu.arg4 != 0) (s.rqu.arg5 != 0) o true (clearRewind s')

/-- R27: a target held in STOP is dropped, and the idle timer runs again. -/
def dropHeld (s : State) : State :=
  if s.trc.st == .stop && s.trc.pending.isSome then
    let t := { s.trc with pending := none }
    s.setTrc { t with idle := if idleState t then some s.now else none }
  else s

/-- R8: TRC stops the tape of a threaded state at STOP. In STOP nothing is entered anew (log entry 38). -/
def stopTape (o : Origin) (quiet : Bool) (s : State) : State :=
  if s.trc.st == .stop then dropHeld s
  else enter .stop o quiet false (stopSearch (stopWriting s))

/-- R7: STOP under PANEL. -/
def stopByTable (s : State) : State × Answer :=
  match s.trc.st with
  | .noCassette | .unthreaded => (clearRewind s, answer .done)
  | .threading => (replaceTarget ⟨.stop, hostOrigin s⟩ (clearRewind s), answer .accepted)
  | .unthreading | .ejecting => (s, answer .busy)
  | .fault => (s, answer .state)
  | _ => (stopTape (hostOrigin s) true (clearRewind s), answer .done)

/-- R4, R14, R15, R20: the transport's owner becomes PANEL; the timers start, and a due rewind is taken. -/
def ownerToPanel (s : State) : State :=
  let t := { s.trc with owner := .panel }
  takeRewind (s.setTrc { t with idle := if idleState t then some s.now else none,
                                pauseT := if pauseState t then some s.now else none })

/-- R5: STOP with override under SCHEDULE. -/
def stopOverride (s : State) : State × Answer :=
  match s.trc.st with
  | .fault => (s, answer .state)
  | .threading =>
    (notify .override_ (ownerToPanel (replaceTarget ⟨.stop, hostOrigin s⟩ (clearRewind s))), answer .accepted)
  | .noCassette | .unthreaded | .unthreading | .ejecting =>
    (notify .override_ (ownerToPanel (clearRewind s)), answer .done)
  | _ => (notify .override_ (ownerToPanel (stopTape (hostOrigin s) true (clearRewind s))), answer .done)

/-- R5: the STOP request. -/
def requestStop (s : State) : State × Answer :=
  if 2 ≤ s.rqu.arg0.toNat then (s, badArg 0)
  else if ownedByPanel s then stopByTable s
  else if s.rqu.arg0 = 1 then stopOverride s
  else (s, answer .owned)

/-- R19: PAUSE in REC_PAUSE. -/
def pauseInPause (s : State) : State × Answer :=
  match s.trc.phase with
  | .atRest => (s, answer .state)
  | .backSpace =>
    if s.trc.heldResume.isSome then (clearRewind (s.setTrc { s.trc with heldResume := none }), answer .done)
    else (s, answer .state)
  | .catchUp => (reverseCatchUp (clearRewind s), answer .done)

/-- R18: the PAUSE request. -/
def requestPause (s : State) : State × Answer :=
  if !ownedByPanel s then (s, answer .owned)
  else match s.trc.st with
    | .unthreading | .ejecting => (s, answer .busy)
    | .play | .cue | .review => (enter .still (hostOrigin s) true false (clearRewind s), answer .done)
    | .record => (beginPause (hostOrigin s) true (clearRewind s), answer .done)
    | .recPause => pauseInPause s
    | _ => (s, answer .state)

/-- R19: RESUME in REC_PAUSE. -/
def resumeInPause (o : Origin) (s : State) : State × Answer :=
  match s.trc.phase with
  | .atRest => (startCatchUp o (clearRewind s), answer .accepted)
  | .backSpace => (clearRewind (s.setTrc { s.trc with heldResume := some o }), answer .accepted)
  | .catchUp => (s, answer .state)

/-- R19: the RESUME request. -/
def requestResume (s : State) : State × Answer :=
  if !ownedByPanel s then (s, answer .owned)
  else match s.trc.st with
    | .unthreading | .ejecting => (s, answer .busy)
    | .still => (enterMotion .play (hostOrigin s) true (clearRewind s), answer .done)
    | .recPause => resumeInPause (hostOrigin s) s
    | _ => (s, answer .state)

/-- R7, R12, R13: an EJECT of an origin, by the state table. -/
def ejectByTable (o : Origin) (s : State) : State × Answer :=
  match s.trc.st with
  | .noCassette => (s, answer .noCassette)
  | .unthreaded => (beginEject o (clearRewind s), answer .accepted)
  | .threading | .unthreading => (replaceTarget ⟨.eject, o⟩ (clearRewind s), answer .accepted)
  | .ejecting => (s, answer .busy)
  | .fault => (s, answer .state)
  | _ => (beginUnthread (some ⟨.eject, o⟩) .auto (stopSearch (clearRewind s)), answer .accepted)

/-- R12: the EJECT request. -/
def requestEject (s : State) : State × Answer :=
  if !ownedByPanel s then (s, answer .owned) else ejectByTable (hostOrigin s) s

/-- R52: the COUNTER_RESET request. -/
def requestReset (s : State) : State × Answer :=
  if !ownedByPanel s then (s, answer .owned)
  else match s.trc.st with
    | .unthreading | .ejecting => (s, answer .busy)
    | .seek => (s, answer .state)
    | _ => (clearRewind (s.setPos (s.pos.reset s.now)), answer .done)

/-- R23: the RECOVER request. -/
def requestRecover (s : State) : State × Answer :=
  if !ownedByPanel s then (s, answer .owned)
  else match s.trc.st with
    | .unthreading | .ejecting => (s, answer .busy)
    | .fault =>
      if s.pins.motorOc != 0 || s.pins.thermal then (s, answer .state)
      else
        let s := s.setTrc { s.trc with fault := none }
        if s.pins.unthreadedSw then (enter (restState s) (hostOrigin s) true false s, answer .done)
        else (beginUnthread none (hostOrigin s) s, answer .accepted)
    | _ => (s, answer .state)

/-! ### Cassette switches -/

/-- R38: the speed in use returns to the settings' default. -/
def defaultSpeed (s : State) : State := useSpeed (setSpeed s.mpath.settings) .default s

/-- R2: cassette present is set and the tab latched; POS begins a new cassette (R46). -/
def cassetteIn (tab : Bool) (s : State) : State :=
  defaultSpeed ((s.setTrc { s.trc with cassette := true, tab }).setPos s.pos.newCassette)

/-- R3: cassette present is cleared. -/
def cassetteGone (s : State) : State :=
  defaultSpeed ((s.setTrc { s.trc with cassette := false, tab := false }).setPos s.pos.cassetteOut)

/-- R2: a qualified closing of CASS_SW; whether it is a cassette insertion (R184). The order of the two events is log entry
12's. -/
def insertCassette (tab : Bool) (s : State) : State × Bool :=
  match s.trc.st with
  | .noCassette =>
    let s := post (evCassetteIn tab) (enterCore .unthreaded false (cassetteIn tab s))
    (reportState (post (evTransport .unthreaded .auto) s), true)
  | .unthreading => (post (evCassetteIn tab) (cassetteIn tab s), true)
  | .fault => (post (evCassetteIn tab) (cassetteIn tab s), false)
  | _ => (s, false)

/-- R3: a qualified opening of CASS_SW. -/
def removeCassette (s : State) : State :=
  match s.trc.st with
  | .noCassette => s
  | .ejecting =>
    let o := s.trc.op
    let s := post evCassetteOut (enterCore .noCassette false (cassetteGone s))
    reportState (post (evTransport .noCassette o) s)
  | .unthreaded =>
    let s := post evCassetteOut (enterCore .noCassette false (cassetteGone s))
    reportState (post (evTransport .noCassette .auto) s)
  | .fault => post evCassetteOut (cassetteGone s)
  | _ => post evCassetteOut (cassetteGone (latchFault .cassette 0 s))

/-! ### The scheduler's operations (1.3) -/

/-- R8, R170: the origin of the scheduler's operations. -/
def schOrigin : Origin := ⟨0, .schedule⟩

/-- R4: SCH takes the transport. -/
def takeTransport (s : State) : State :=
  s.setTrc { s.trc with owner := .schedule, idle := none, pauseT := none }

/-- R146: SCH returns the transport; a target of its own held for the rail goes with it (log entry 19). -/
def returnTransport (s : State) : State :=
  if s.trc.owner == .schedule then
    let drop := s.trc.st == .stop && s.trc.pending.isSome
    ownerToPanel (if drop then s.setTrc { s.trc with pending := none } else s)
  else s

/-- R132: SCH's RECORD with source CURRENT, mark flag 0 and start paused. -/
def schRecord (m : Speed) (s : State) : State :=
  match s.trc.st with
  | .unthreaded | .threading | .stop => (takeRecord m false true schOrigin false s).1
  | _ => s

/-- R19: SCH's RESUME; its mark flag sets mark due. -/
def schResume (mark : Bool) (s : State) : State :=
  if s.trc.st == .recPause then
    (resumeInPause schOrigin (s.setTrc { s.trc with markDue := s.trc.markDue || mark })).1
  else s

/-- R18, R136, R142: SCH's PAUSE. The entry into REC_PAUSE is posted by R8 with cause SCHEDULE, in a continuation too (log
entry 69). -/
def schPause (s : State) : State :=
  match s.trc.st with
  | .record => beginPause schOrigin false s
  | .recPause => (pauseInPause s).1
  | _ => s

/-- R146: SCH stops the tape, while it owns the transport. -/
def schStop (s : State) : State :=
  if s.trc.owner == .schedule then
    match s.trc.st with
    | .threading => replaceTarget ⟨.stop, schOrigin⟩ s
    | .stop => s
    | st => if st.threaded then stopTape schOrigin false s else s
  else s

/-- R185, R187: a power-off asks TRC to unthread a threaded tape. In THREADING, where an AUTO one may begin, it asks nothing
(log entry 64). -/
def unthreadForPowerOff (o : Origin) (s : State) : State :=
  if s.trc.st.threaded then beginUnthread none o (stopSearch s) else s

/-! ### The main rail (R27) -/

/-- R17: without the main rail the drum's allowance of the states that wait for it does not run. -/
def stopDrumAllowance (s : State) : State :=
  if waitsForRail s.trc.st then s.setTrc { s.trc with drumAllow := none } else s

/-- R27: the states that go on on the load motor when the main rail is lost; the brake stays off in them (log entry 25). -/
def onLoadMotor : TransportState → Bool
  | .threading | .unthreading | .ejecting => true
  | _ => false

/-- R27: MAIN_GOOD is lost in ON. A threaded state becomes STOP, and STOP that stands is posted too. A pending target that
becomes STOP keeps its tag and cause (log entry 50). SEARCH STOPPED comes before TRANSPORT (log entry 62). -/
def transportRailLost (s : State) : State :=
  let p := s.trc.pending.map fun p => if p.req == .eject then p else { p with req := .stop }
  if s.trc.st == .stop then
    let s := dropHeld s
    post (evTransport .stop .auto) (s.setTrc { s.trc with brake := true })
  else if s.trc.st.threaded then
    enterPosting .stop .auto false (stopSearch (stopWriting s))
  else s.setTrc { s.trc with pending := p, brake := s.trc.brake || !onLoadMotor s.trc.st }

/-- R27, R17: MAIN_GOOD arrives: a held target is served, and the drum's allowance begins. -/
def transportRailGood (s : State) : State :=
  let s := if waitsForRail s.trc.st then restartDrum s else s
  match s.trc.st, s.trc.pending with
  | .stop, some p => serveTarget p s
  | _, _ => s

/-! ### Locks reported by SRV (R33) -/

/-- R16: the drum holds PHASE_LOCK in RECORD: the capstan starts. -/
def startRecordCapstan (s : State) : State :=
  if s.trc.st == .record && !s.srv.capOn && s.srv.drumLock == .phase then restartCap (applyRow true s) else s

/-- R17, R16: SRV reports a change of the drum lock. -/
def drumReported (r : LockReport) (s : State) : State :=
  match r with
  | .same => s
  | .gained =>
    let s := if drumMissing s then s else s.setTrc { s.trc with drumAllow := none }
    tryWriting (startRecordCapstan s)
  | .lost => if drumMissing s && s.trc.drumAllow.isNone then restartDrum s else s

/-- R17, R49, R39: SRV reports a change of the capstan lock to TRC and POS. -/
def capReported (r : LockReport) (s : State) : State :=
  match r with
  | .same => s
  | .gained =>
    let s := if s.srv.row == .play then s.setPos (s.pos.capGained s.now) else s
    tryWriting (s.setTrc { s.trc with capAllow := none })
  | .lost =>
    let s := if s.srv.row == .play then (s.setPos (s.pos.capLost s.now)).setSrv s.srv.detectorNone else s
    restartCap s

end Sys2Proof.Machine
end

