-- ==== Sys2Proof/Machine/PowerOps.lean ====
section
/-! DEFINITION. Machine/PowerOps.lean: Power and Panel's operations that other blocks use (chapter 10): the wake, the
power-off and its cancellation, and PWR's write groups. -/

namespace Sys2Proof.Machine

/-- R184: a wake in STANDBY. In any other state it is none. -/
def wake (c : WakeCause) (s : State) : State :=
  if s.pwr.power == .standby then
    s.setPwr { s.pwr with power := .on, phase := .rising, mainEn := true, railTimer := some s.now, cause := c,
                          keySince := false, wakeDue := some c }
  else s

/-- R186: a power-off under way is cancelled. At a pre-roll and at a transport request, CANCELLED comes after what TRC and TUN
post (log entry 72). -/
def cancelOff (s : State) : State :=
  if s.pwr.power == .on && s.pwr.phase == .stopping then
    post evCancelled (s.setPwr { s.pwr with phase := .running, off := .none })
  else s

/-- R185, R187: a power-off begins, and asks TRC to unthread a threaded tape. -/
def beginOff (off : PowerOff) (o : Origin) (s : State) : State :=
  unthreadForPowerOff o (s.setPwr { s.pwr with off, phase := .stopping })

/-- R187: SCH asks for auto-off. -/
def autoOff (s : State) : State :=
  if s.pwr.power == .on && s.pwr.phase == .running && s.pwr.off == .none && s.pwr.cause == .timer && !s.pwr.keySince then
    beginOff .auto .auto s
  else s

/-- R186: a power-off ends: the deck goes to STANDBY. -/
def completeOff (s : State) : State :=
  if s.pwr.power == .on && s.pwr.phase == .stopping && s.mpath.queue.isEmpty
      && (s.trc.st == .noCassette || s.trc.st == .unthreaded || s.trc.st == .fault) then
    s.setPwr { s.pwr with power := .standby, phase := .rising, hrst := true, mainEn := false, cause := .none, off := .none }
  else s

/-- R184: HRST# is released when the hold has run and the region is ready. -/
def releaseHost (s : State) : State :=
  if s.pwr.power == .on && s.pwr.phase == .resetHold && s.pwr.holdTimer == .reached && s.pwr.regionReady then
    let due := s.pwr.wakeDue
    let s := s.setPwr { s.pwr with phase := .running, hrst := false, holdTimer := .stopped, wakeDue := none }
    match due with
    | some c => post (evWake c) s
    | none => s
  else s

/-- R188: a loss of the main rail; SCH is told. -/
def railLost (s : State) : State :=
  let s := s.setPwr { s.pwr with
    power := .standby, phase := .rising, hrst := true, mainEn := false, railTimer := none, holdTimer := .stopped,
    off := .none, cause := .none, wakeDue := none }
  notify .mainLost (post evMainLost s)

/-! ### PWR's write groups (R182, R190) -/

/-- The shadow of the settings takes a byte: MPATH's settings shadow, and LDS's window shadow (R92, R159); timer-on
becoming on runs the pre-roll check (R128). -/
def takeSetting (pos : Nat) (v : Byte) (s : State) : State :=
  let before := s.mpath.settings
  let after := before.write pos v
  let s := s.setMpath { s.mpath with settings := after }
  let s := if 6 ≤ pos && pos ≤ 9 then s.setLds { s.lds with window := setWindow after } else s
  if !setTimerOn before && setTimerOn after then notify .check s else s

/-- PWR hands a group. The shadow takes a toggle at the handing (R190); it holds an initialisation group already. -/
def handPwr (h : PwrHeld) (s : State) : State :=
  match h with
  | .init g => enqueue g s
  | .toggle flags => takeSetting 0 flags (enqueue (mkGroup offSettings [flags]) s)

/-- The held write is a toggle. -/
def PwrHeld.isToggle : PwrHeld → Bool
  | .toggle _ => true
  | _ => false

/-- R190: the flag's newest value: of the held toggle, or else of the settings shadow. -/
def newestTimerOn (s : State) : Bool :=
  match s.pwr.held.findSome? fun h => match h with | .toggle f => some f | .init _ => none with
  | some f => f.getLsbD 1
  | none => setTimerOn s.mpath.settings

/-- A byte with bit 1 set or clear. -/
def withTimerOn (flags : Byte) (on : Bool) : Byte := if on then flags ||| 0x02 else flags &&& 0xFD

/-- R190: the TIMER key toggles timer-on. -/
def toggleTimer (s : State) : State :=
  let h : PwrHeld := .toggle (withTimerOn (settingsFlags s.mpath.settings) (!newestTimerOn s))
  if queueHasRoom s then handPwr h s
  else if s.pwr.held.any PwrHeld.isToggle then
    s.setPwr { s.pwr with held := s.pwr.held.map fun x => if x.isToggle then h else x }
  else askSlot .pwr (s.setPwr { s.pwr with held := s.pwr.held ++ [h] })

/-- R190: a host write to the flags byte removes a held toggle. -/
def dropToggle (s : State) : State :=
  if s.pwr.held.any PwrHeld.isToggle then
    dropAsk .pwr (s.setPwr { s.pwr with held := s.pwr.held.filter fun h => !h.isToggle })
  else s

/-! ### Keys (R189, R190) -/

/-- R189: one sample of a key; whether it makes a press. -/
def Key.sample (pressed : Bool) (k : Key) : Key × Bool :=
  if pressed == k.latch then ({ k with count := 0 }, false)
  else
    let k := if pressed == k.candidate then { k with count := k.count + 1 }
             else { k with candidate := pressed, count := 1 }
    if 3 ≤ k.count then ({ k with latch := pressed, count := 0 }, pressed) else (k, false)

/-- R190: a press of key `n`. -/
def keyPressed (n : Nat) (s : State) : State :=
  match s.pwr.power with
  | .on =>
    let s := post (evKey n) (s.setPwr { s.pwr with keySince := true })
    if s.pwr.off == .auto then cancelOff s else s
  | .standby =>
    (match n with
     | 0 => wake .power s
     | 1 => if s.trc.cassette then (ejectByTable ⟨0, .request⟩ (wake .eject s)).1 else s
     | 3 => toggleTimer s
     | _ => s)
  | .backup => s

/-- A press, if the sample made one. -/
def pressIf (b : Bool) (n : Nat) (s : State) : State := if b then keyPressed n s else s

/-- R189: one sample of the four keys; the presses act in the order of the keys. -/
def keySample (k : BitVec 4) (s : State) : State :=
  let (k0, p0) := s.pwr.key0.sample (k.getLsbD 0)
  let (k1, p1) := s.pwr.key1.sample (k.getLsbD 1)
  let (k2, p2) := s.pwr.key2.sample (k.getLsbD 2)
  let (k3, p3) := s.pwr.key3.sample (k.getLsbD 3)
  let s := s.setPwr { s.pwr with key0 := k0, key1 := k1, key2 := k2, key3 := k3 }
  pressIf p3 3 (pressIf p2 2 (pressIf p1 1 (pressIf p0 0 s)))

/-! ### The POWER_OFF request (R185) -/

/-- R185: the POWER_OFF request. -/
def requestPowerOff (s : State) : State × Answer :=
  if s.trc.owner == .schedule then (s, answer .owned)
  else if s.pwr.phase == .stopping then (s, answer .accepted)
  else if s.trc.st == .threading then (s, answer .busy)
  else (beginOff (.host s.rqu.tag) (hostOrigin s) s, answer .accepted)

end Sys2Proof.Machine
end

