-- ==== Sys2Proof/Machine/Schedule.lean ====
section
/-! DEFINITION. Machine/Schedule.lean: the Programme Scheduler (chapter 7): entries and claims, occurrences and the timer
queue, pre-roll, the start, label following, ends, and the log. -/

namespace Sys2Proof.Machine

/-! ### Entries, status groups and the queue -/

/-- The status of an entry. -/
def entry (k : Fin 16) (s : State) : Entry := s.sch.entries.get k

/-- R127: the start of the next occurrence of an entry, for the order of the queue. -/
def nextStart (es : Vector Entry 16) (k : Fin 16) : Nat := (es.get k).next.getD 0

/-- R127: an entry joins a queue ordered by the start; after the entries with the same start. -/
def insertEntry (es : Vector Entry 16) (k : Fin 16) : List (Fin 16) → List (Fin 16)
  | [] => [k]
  | j :: rest => if nextStart es k < nextStart es j then k :: j :: rest else j :: insertEntry es k rest

/-- R127: the WAITING entries in the order of their next occurrence; equal starts by lower index. -/
def queueOf (es : Vector Entry 16) : List (Fin 16) :=
  allEntries.foldl (fun q k => if (es.get k).state == .waiting then insertEntry es k q else q) []

/-- An entry's status is replaced, and the queue follows. -/
def setEntry (k : Fin 16) (e : Entry) (s : State) : State :=
  let es := s.sch.entries.set k.val e k.isLt
  s.setSch { s.sch with entries := es, queue := queueOf es }

/-- A date as three bytes; 0xFF in each for none. -/
def dateBytes (d : Option Nat) : List Byte :=
  match d with
  | none => [0xFF, 0xFF, 0xFF]
  | some n =>
    let t := dateOfDays n 0 0 0
    [Byte.of t.year, Byte.of t.month, Byte.of t.day]

/-- An hour and a minute of a time in seconds; 0xFF in each for none. -/
def hmBytes (t : Option Nat) : List Byte :=
  match t with
  | none => [0xFF, 0xFF]
  | some n => [Byte.of (n % 86400 / 3600), Byte.of (n % 3600 / 60)]

/-- 11.7: the run flags byte. -/
def runFlags (e : Entry) : Byte :=
  Byte.of ((match e.speed with | none => 0 | some m => m.m) + bitAt e.late 2 + bitAt e.short 3 + bitAt e.unknownTape 4
    + bitAt e.fallback 5)

/-- R196: the eleven bytes of a status group. -/
def statusBytes (e : Entry) : List Byte :=
  [Byte.of e.state.code, Byte.of e.outcome.code] ++ dateBytes e.lastRun
  ++ dateBytes (e.next.map fun t => t / 86400) ++ hmBytes e.next ++ [runFlags e]

/-- R118, R148: SCH hands a group; LOGGED is posted with a log record. -/
def handSch (h : SchHeld) (s : State) : State :=
  match h with
  | .status k bytes => enqueue (mkGroup (offProgrammes + 32 * k.val + 20) bytes) s
  | .log slot seq k bytes => post (evLogged slot seq k) (enqueue (mkGroup (offLog + 32 * slot) bytes) s)

/-- The held write is a status group of an entry. -/
def SchHeld.isStatus (k : Fin 16) : SchHeld → Bool
  | .status j _ => j == k
  | .log _ _ _ _ => false

/-- R118: a new status group for an entry; a held one is replaced in its place. -/
def writeStatus (k : Fin 16) (s : State) : State :=
  let h : SchHeld := .status k (statusBytes (entry k s))
  if queueHasRoom s then handSch h s
  else if s.sch.held.any (SchHeld.isStatus k) then
    s.setSch { s.sch with held := s.sch.held.map fun x => if x.isStatus k then h else x }
  else askSlot .sch (s.setSch { s.sch with held := s.sch.held ++ [h] })

/-- R119: PROGRAMME for an entry in its new state. -/
def postProgramme (k : Fin 16) (o : EndOutcome) (r : Reason) (s : State) : State :=
  post (evProgramme k (entry k s).state o r) s

/-- The clock now, in seconds. -/
def clockNow (s : State) : Nat := s.clk.time.secs

/-! ### Occurrences (R126) -/

/-- R126: the occurrence on a day qualifies. -/
def qualifies (m : Memory) (k : Fin 16) (lastRun : Option Nat) (now day : Nat) : Bool :=
  now < occStop m k day && occStop m k day ≤ limitTime.secs
  && (match lastRun with | none => true | some l => decide (l < day))

/-- R126: the weekday of a day is set in the repeat mask. -/
def inMask (mask : Byte) (day : Nat) : Bool := mask.getLsbD (weekdayOf day)

/-- R126: consecutive days from `day`. -/
def daysFrom (day : Nat) : Nat → List Nat
  | 0 => []
  | n + 1 => day :: daysFrom (day + 1) n

/-- R126: a once entry: its repeat mask is 0. -/
def isOnce (m : Memory) (k : Fin 16) : Bool := progMask m k == 0

/-- R126: the day of a once entry's one occurrence; none of a date that COMMIT would refuse (log entry 59). -/
def onceDay (m : Memory) (k : Fin 16) : Option Nat :=
  if validDate (progYear m k) (progMonth m k) (progDay m k) then
    some (daysOf (progYear m k) (progMonth m k) (progDay m k))
  else none

/-- R126: the eight consecutive days from the later of yesterday and the day after the last-run date, less the one before
1990-01-01 when today is that day. Counting from the day after each keeps the numbers natural. -/
def searchDays (lastRun : Option Nat) (now : Nat) : List Nat :=
  let first := match lastRun with | none => now / 86400 | some l => max (now / 86400) (l + 2)
  ((daysFrom first 8).filter fun d => d != 0).map fun d => d - 1

/-- R126: the start of the next occurrence of an entry, in seconds. -/
def nextOccurrence (m : Memory) (k : Fin 16) (lastRun : Option Nat) (now : Nat) : Option Nat :=
  let days :=
    if isOnce m k then (onceDay m k).toList
    else (searchDays lastRun now).filter fun d => inMask (progMask m k) d
  (days.find? fun d => qualifies m k lastRun now d).map fun d => occStart m k d

/-- The stop of the occurrence that starts at a time. -/
def stopOf (m : Memory) (k : Fin 16) (start : Nat) : Nat := occStop m k (start / 86400)

/-- R146, step 3: an entry moves on after an end. A once entry's next occurrence is none from then on, also where its
occurrence is still open (log entry 68). -/
def movedOn (m : Memory) (k : Fin 16) (now : Nat) (e : Entry) : Entry :=
  if isOnce m k then { e with state := .ended, next := none, wait := .none }
  else match nextOccurrence m k e.lastRun now with
    | none => { e with state := .ended, next := none, wait := .none }
    | some t => { e with state := .waiting, next := some t, wait := .none }

/-- R126, R144: a WAITING entry's next occurrence is recomputed; with none the entry becomes ENDED. -/
def recompute (k : Fin 16) (s : State) : State :=
  let e := entry k s
  if e.state == .waiting then
    match nextOccurrence s.sch.prog k e.lastRun (clockNow s) with
    | some t =>
      if e.next = some t then s else writeStatus k (setEntry k { e with next := some t } s)
    | none =>
      writeStatus k (postProgramme k .none .none (setEntry k { e with state := .ended, next := none, wait := .none } s))
  else s

/-- Each of several entries is recomputed, in the order of the list (log entry 60). -/
def recomputeAll : List (Fin 16) → State → State
  | [], s => s
  | k :: rest, s => recomputeAll rest (recompute k s)

/-! ### Ends and the log (R146, R148) -/

/-- R148: what a log record says of its end. -/
structure LogFacts where
  /-- The occurrence date in days. -/
  date : Option Nat
  /-- The planned start in seconds. -/
  planned : Option Nat
  actualStart : Option DateTime
  actualStop : Option DateTime
  counter : Int
  remaining : Nat
  speed : Option Speed
  outcome : EndOutcome
  reason : Reason
  detail : Nat
  late : Bool
  short : Bool
  unknownTape : Bool
  fallback : Bool
  markWritten : Bool
  deriving DecidableEq, Repr

/-- 11.9: an actual start or stop: day, hour, minute, second; 0xFF in each for never. -/
def momentBytes (t : Option DateTime) : List Byte :=
  match t with
  | none => [0xFF, 0xFF, 0xFF, 0xFF]
  | some x => [Byte.of x.day, Byte.of x.hour, Byte.of x.minute, Byte.of x.second]

/-- 11.9: the flags of a log record. -/
def logFlags (f : LogFacts) : Byte :=
  Byte.of (bitAt f.late 0 + bitAt f.short 1 + bitAt f.unknownTape 2 + bitAt f.fallback 3 + bitAt f.markWritten 4)

/-- 11.9: the thirty-two bytes of a log record. -/
def logBytes (m : Memory) (k : Fin 16) (seq : Nat) (f : LogFacts) : List Byte :=
  le16 seq ++ [Byte.of k.val] ++ m.bytes (32 * k.val) 3 ++ dateBytes f.date
  ++ hmBytes f.planned ++ m.bytes (32 * k.val + 9) 2 ++ momentBytes f.actualStart ++ momentBytes f.actualStop ++ signed24 f.counter
  ++ le16 f.remaining
  ++ [match f.speed with | none => 0xFF | some x => Byte.of x.m, Byte.of f.outcome.code, Byte.of f.reason.code,
      Byte.of f.detail, logFlags f, 0x00]

/-- R148: a log record is made at the log writer's slot and sequence. -/
def makeLog (k : Fin 16) (f : LogFacts) (s : State) : State :=
  let slot := s.sch.logSlot
  let seq := s.sch.logSeq
  let h : SchHeld := .log slot seq k (logBytes s.sch.prog k seq f)
  let s := s.setSch { s.sch with logSlot := (slot + 1) % 16, logSeq := (seq + 1) % 65536 }
  if queueHasRoom s then handSch h s
  else askSlot .sch (s.setSch { s.sch with held := s.sch.held ++ [h] })

/-- R146, steps 1 to 3: the outcome is set and posted, the log record made, and the entry moves on to `e`. -/
def conclude (k : Fin 16) (e : Entry) (f : LogFacts) (s : State) : State :=
  let e := { e with outcome := f.outcome }
  let s := postProgramme k f.outcome f.reason (setEntry k e s)
  writeStatus k (makeLog k f s)

/-- R140, R143, R144, R150: the facts of an occurrence that ends before its pre-roll. -/
def waitingFacts (k : Fin 16) (day : Nat) (reason : Reason) (s : State) : LogFacts :=
  { date := some day, planned := some (occStart s.sch.prog k day), actualStart := none, actualStop := some s.clk.time, counter := 0, remaining := 0xFFFF,
    speed := none, outcome := .missed, reason, detail := 0, late := false, short := false, unknownTape := false,
    fallback := false, markWritten := false }

/-- R146: an occurrence of a WAITING entry ends MISSED. -/
def missDay (k : Fin 16) (day : Nat) (reason : Reason) (s : State) : State :=
  conclude k (movedOn s.sch.prog k (clockNow s) (entry k s)) (waitingFacts k day reason s) s

/-- R146: the next occurrence of a WAITING entry ends MISSED. -/
def missNext (k : Fin 16) (reason : Reason) (s : State) : State :=
  missDay k ((entry k s).next.getD 0 / 86400) reason s

/-- R148: the facts of a run that ends. -/
def runFacts (c : Run) (o : EndOutcome) (r : Reason) (detail : Nat) (s : State) : LogFacts :=
  { date := some c.date, planned := some c.start, actualStart := c.actualStart, actualStop := some s.clk.time,
    counter := if c.actualStart.isSome then c.counterAtStart else 0,
    remaining := if c.actualStart.isSome then c.remaining else 0xFFFF,
    speed := c.speed, outcome := o, reason := r, detail, late := c.late, short := c.short,
    unknownTape := c.unknownTape, fallback := c.fallback, markWritten := c.markWritten }

/-- R146, steps 1 to 3, of the run's occurrence. -/
def concludeRun (c : Run) (o : EndOutcome) (r : Reason) (detail : Nat) (s : State) : State :=
  conclude c.entry (movedOn s.sch.prog c.entry (clockNow s) (entry c.entry s)) (runFacts c o r detail s) s

/-- The entry is ACTIVE or PAUSED. -/
def started (st : EntryState) : Bool := st == .active || st == .paused

/-- R146, step 4: SCH stops the tape and returns what the run held. -/
def releaseRun (wasStarted : Bool) (s : State) : State :=
  let s := clearRetained (returnTuner (returnTransport (schStop s)))
  let s := s.setSch { s.sch with run := none }
  if wasStarted then reportNotRunning s else s

/-- R146: the occurrence of the run ends. -/
def endRun (o : EndOutcome) (r : Reason) (detail : Nat) (s : State) : State :=
  match s.sch.run with
  | none => s
  | some c =>
    let was := started (entry c.entry s).state
    notify .autoOff (notify .check (releaseRun was (concludeRun c o r detail s)))

/-- R134, R136, R138: a run that ends well. -/
def endWell (s : State) : State :=
  match s.sch.run with
  | none => s
  | some c => endRun (if c.short then .short else .complete) .none 0 s

/-! ### The start (R133) -/

/-- A change of the run context. -/
def setRun (c : Run) (s : State) : State := s.setSch { s.sch with run := some c }

/-- R133: the start effects of an entry that enters ACTIVE, with its counter at start. -/
def startEffects (c : Run) (counter : Int) (s : State) : State :=
  let t := s.clk.time
  let c := { c with
    actualStart := some t, counterAtStart := counter,
    remaining := match c.speed with | some m => s.pos.quote m | none => 0xFFFF }
  let e := { entry c.entry s with
    state := .active, lastRun := some c.date, speed := c.speed, late := c.late, short := c.short,
    unknownTape := c.unknownTape, fallback := c.fallback, wait := .none }
  let s := setEntry c.entry e (setRun c s)
  let s := retain ⟨true, c.entry, c.date, t, counter⟩ s
  writeStatus c.entry (postProgramme c.entry .none .none (reportRunning s))

/-- R133: start due and transport ready are both true for an entry in PREROLL. -/
def startReady (s : State) : Bool :=
  match s.sch.run with
  | none => false
  | some c => c.startDue && c.ready && (entry c.entry s).state == .preroll

/-- R133: the start of the occurrence. -/
def startRun_ (s : State) : State :=
  match s.sch.run with
  | none => s
  | some c =>
    if startReady s then
      let counter := s.trc.pausePoint.getD 0
      startEffects c counter (schResume (progMark s.sch.prog c.entry) s)
    else s

/-! ### Continuation (R141, R142) -/

/-- R135: an entry's mode would be LABEL with the tuning that stands. -/
def labelMode (k : Fin 16) (s : State) : Bool :=
  progFollow s.sch.prog k && progKind s.sch.prog k == 1 && s.tun.net != 0

/-- R141: the head of the queue continues the run's entry. -/
def continues (c : Run) (s : State) : Option (Fin 16) :=
  match s.sch.queue.head? with
  | none => none
  | some b =>
    let m := s.sch.prog
    if (entry b s).next == some c.stop && clockNow s < stopOf m b c.stop
        && progKind m b == progKind m c.entry && progValue m b == progValue m c.entry
        && progSpeed m b == progSpeed m c.entry && !labelMode b s && setTimerOn s.mpath.settings then some b
    else none

/-- R131: the quote is less than a duration. -/
def tooShort (s : State) (m : Speed) (duration : Nat) : Bool := s.pos.r.isSome && decide (s.pos.quote m < duration)

/-- R142: the pause point that SCH's PAUSE makes in RECORD, the counter (R18), or keeps in REC_PAUSE (R19). It is read before
the PAUSE: a back-space that starts on an active START_SENSE meets its limit and leaves REC_PAUSE in the same event (R20). -/
def pausePointToBe (s : State) : Int :=
  match s.trc.st with
  | .recPause => s.trc.pausePoint.getD s.pos.counter
  | _ => s.pos.counter

/-- R142: the continuation from the run to entry `b`. -/
def continueRun (c : Run) (b : Fin 16) (s : State) : State :=
  let start := c.stop
  let stop := stopOf s.sch.prog b start
  let s := concludeRun c (if c.short then .short else .complete) .none 0 s
  let d : Run := { c with
    entry := b, date := start / 86400, start, stop, label := false, net := 0, late := false,
    short := match c.speed with | some m => tooShort s m (stop - start) | none => false,
    unknownTape := s.pos.r.isNone, fallback := progFollow s.sch.prog b, markWritten := false,
    startDue := true, ready := true, runningSeen := false, watch := false, absence := 0, loss := 0, seen := false }
  notify .check (startEffects d (pausePointToBe s) (schResume true (schPause s)))

/-! ### The run's tests against the clock (R134, R135, R139) -/

/-- R137, R138: the run falls back to CLOCK mode, flagged LABEL_FALLBACK. -/
def fallBack (c : Run) (s : State) : State :=
  let s := setRun { c with label := false, fallback := true, watch := false } s
  let e := entry c.entry s
  if e.fallback then s else writeStatus c.entry (setEntry c.entry { e with fallback := true } s)

/-- R134: the tests of a run in CLOCK mode. -/
def clockTests (c : Run) (s : State) : State :=
  let now := clockNow s
  match (entry c.entry s).state with
  | .preroll =>
    if c.stop ≤ now then endRun .missed .notReady 0 s
    else if c.start ≤ now then setRun { c with startDue := true } s
    else s
  | .active =>
    if c.stop ≤ now then
      match continues c s with
      | some b => continueRun c b s
      | none => endWell s
    else s
  | _ => s

/-- R135, R139: the tests of a run in LABEL mode. -/
def labelTests (c : Run) (s : State) : State :=
  let now := clockNow s
  let late : Bool := c.stop + Config.overrunLimit ≤ now
  match (entry c.entry s).state with
  | .preroll =>
    if late then endRun .missed (if c.runningSeen then .notReady else .label) 0 s
    else if c.start ≤ now && !c.watch then
      setRun { c with watch := true, absence := 0, loss := 0, seen := false } s
    else s
  | .active | .paused => if late then endRun .truncated .overrun 0 s else s
  | _ => s

/-- R134, R135, R139: the run is tested at each seconds event, check and step notice. -/
def runTests (s : State) : State :=
  match s.sch.run with
  | none => s
  | some c => if c.label then labelTests c s else clockTests c s

/-! ### Pre-roll (R128 to R132) -/

/-- R140: the reason of an occurrence whose stop passed while its entry waited. -/
def WaitReason.reason : WaitReason → Reason
  | .timerOff => .timerOff
  | .overlap => .overlap
  | .transport => .transportBusy
  | .clock | .none => .step

/-- R144: a passed occurrence is passed over unlogged. -/
def passOver (k : Fin 16) (s : State) : State := recompute k s

/-- R128, R140, R144: the occurrence of a WAITING entry whose stop has passed ends, or is passed over. -/
def endPassed (k : Fin 16) (s : State) : State :=
  let e := entry k s
  match e.state, e.next with
  | .waiting, some t =>
    if stopOf s.sch.prog k t ≤ clockNow s then
      if !s.clk.valid || e.wait == .clock then passOver k s else missNext k e.wait.reason s
    else s
  | _, _ => s

/-- Each of several entries. -/
def endPassedAll : List (Fin 16) → State → State
  | [], s => s
  | k :: rest, s => endPassedAll rest (endPassed k s)

/-- R128: an entry of the queue is due. -/
def isDue (s : State) (k : Fin 16) : Bool :=
  match (entry k s).next with
  | none => false
  | some t => t ≤ clockNow s + setLead s.mpath.settings && clockNow s < stopOf s.sch.prog k t

/-- R128: the due entries in queue order. -/
def dueEntries (s : State) : List (Fin 16) := s.sch.queue.filter fun k => isDue s k

/-- R128: a wait reason is set on due entries. -/
def setWait (w : WaitReason) : List (Fin 16) → State → State
  | [], s => s
  | k :: rest, s => setWait w rest (setEntry k { entry k s with wait := w } s)

/-- R128: the transport is PANEL-owned and busy. -/
def transportBusy (s : State) : Bool :=
  s.trc.owner == .panel && !(s.trc.st == .noCassette || s.trc.st == .unthreaded || s.trc.st == .stop)

/-- R131: the tape budget: the speed used, SHORT and UNKNOWN_TAPE. A speed byte that is none of 1 to 3 is taken as AUTO (log
entry 59 for one that COMMIT would refuse). -/
def tapeBudget (k : Fin 16) (duration : Nat) (s : State) : Speed × Bool × Bool :=
  let fixed := speedOf (progSpeed s.sch.prog k)
  if s.pos.r.isNone then (fixed.getD (setSpeed s.mpath.settings), false, true)
  else match fixed with
    | some m => (m, tooShort s m duration, false)
    | none =>
      match [Speed.sp, .lp, .ep].find? fun m => !tooShort s m duration with
      | some m => (m, false, false)
      | none => (.ep, true, false)

/-- R130: the tune of an entry's source; a kind byte that is none of 1 to 3 is taken as LINE (log entry 59). -/
def sourceOf (m : Memory) (k : Fin 16) : TuneKind :=
  match progKind m k with
  | 1 => .preset | 2 => .direct | _ => .line

/-- R117, R130: the run context set up for an occurrence. -/
def freshRun (k : Fin 16) (start stop : Nat) (late : Bool) : Run :=
  { entry := k, date := start / 86400, start, stop, label := false, net := 0, speed := none, late, short := false,
    unknownTape := false, fallback := false, markWritten := false, startDue := false, ready := false,
    runningSeen := false, watch := false, absence := 0, loss := 0, seen := false, actualStart := none,
    counterAtStart := 0, remaining := 0xFFFF }

/-- R130, step 5, R131, R135: the mode and the speed are fixed, and RECORD is handed to TRC. -/
def handRecord (c : Run) (s : State) : State :=
  let k := c.entry
  let (m, short, unknown) := tapeBudget k (c.stop - c.start) s
  let label := labelMode k s
  let c := { c with
    label, net := if label then s.tun.net else 0, speed := some m, short, unknownTape := unknown,
    fallback := progFollow s.sch.prog k && !label }
  let e := { entry k s with speed := some m, late := c.late, short, unknownTape := unknown, fallback := c.fallback }
  schRecord m (writeStatus k (setEntry k e (setRun c s)))

/-- R130: pre-roll begins for an entry whose next occurrence starts at a time. Where the tune is refused, the tuning that
stands is what the taking of the tuner left (log entry 48); the run flags stay those of the occurrence before, and the log
record has LABEL_FALLBACK clear (log entry 58); and the end's status group is the only one (log entry 65). SCAN STOPPED comes
before POWER CANCELLED (log entry 72). -/
def beginPreroll (k : Fin 16) (start : Nat) (s : State) : State :=
  let stop := stopOf s.sch.prog k start
  let c := freshRun k start stop (start ≤ clockNow s)
  let s := setEntry k { entry k s with state := .preroll, wait := .none } (setRun c s)
  let s := postProgramme k .none .none s
  let s := wake .timer (cancelOff (takeTuner (takeTransport s)))
  let kind := sourceOf s.sch.prog k
  let value := progValue s.sch.prog k
  match tuneRefused kind value false s with
  | some _ => endRun .missed .source 0 s
  | none => runTests (handRecord c (takeTune kind value 0 s))

/-- R129: an entry is taken up by the check of this event (log entry 10). -/
def takeUp (k : Fin 16) (s : State) : State := s.setTaken (s.taken ++ [k])

/-- R129: the first due entry is taken; true when its occurrence ended and the check runs again. -/
def tryEntry (k : Fin 16) (busy : Bool) (s : State) : State × Bool :=
  let start := (entry k s).next.getD 0
  if busy then
    if start ≤ clockNow s then (missNext k .transportBusy (takeUp k s), true) else (s, false)
  else if !s.trc.cassette then (missNext k .noCassette (takeUp k s), true)
  else if !s.trc.tab then (missNext k .protected_ (takeUp k s), true)
  else (beginPreroll k start (takeUp k s), false)

/-- R128, R129: the check of the due entries. -/
def checkDue : Nat → State → State
  | 0, s => s
  | fuel + 1, s =>
    let due := dueEntries s
    if due.isEmpty then s
    else if !setTimerOn s.mpath.settings then setWait .timerOff due s
    else if !s.clk.valid then setWait .clock due s
    else if s.sch.run.isSome then setWait .overlap due s
    else
      let busy := transportBusy s
      let s := if busy then setWait .transport due s else s
      match due.find? fun k => !s.taken.contains k with
      | none => s
      | some k =>
        let (s, again) := tryEntry k busy s
        if again then checkDue fuel s else s

/-- The notice is a step notice. -/
def Notice.isStep : Notice → Bool
  | .step _ => true
  | _ => false

/-- R128: the pre-roll check, after the tests of the run (log entry 49). Where they end the run and a deferred step is
applied with it (R146, step 4), SCH takes the step notice first, and the check that the end asks for does the rest. -/
def prerollCheck (s : State) : State :=
  let s := runTests s
  if s.notices.any Notice.isStep then s else checkDue 17 (endPassedAll s.sch.queue s)

/-! ### Label following (R135 to R138) -/

/-- R136: a matching packet acts by its status: 0 NOT_RUNNING, 1 RUNNING, 2 PAUSE, 3 INTERRUPT. -/
def labelAction (c : Run) (status : Nat) (s : State) : State :=
  let e := entry c.entry s
  let becomes (st : EntryState) (s : State) : State :=
    writeStatus c.entry (postProgramme c.entry .none .none (setEntry c.entry { entry c.entry s with state := st } s))
  match e.state, status with
  | .preroll, 1 => setRun { c with startDue := true, runningSeen := true } s
  | .preroll, _ => setRun { c with startDue := false } s
  | .active, 0 | .paused, 0 => endWell s
  | .active, 2 | .active, 3 => becomes .paused (schPause s)
  | .paused, 1 => becomes .active (schResume false s)
  | _, _ => s

/-- R136: SCH acts on a LABEL packet. -/
def labelPacket (net : Nat) (label : List Byte) (status : Nat) (s : State) : State :=
  match s.sch.run with
  | none => s
  | some c =>
    if c.label && c.watch && net == c.net then
      let c := { c with loss := 0, seen := true }
      let s := setRun c s
      if label == progLabel s.sch.prog c.entry then labelAction c status s else s
    else s

/-- R137: 90 s without a packet of the network. -/
def absenceEnd (c : Run) (s : State) : State :=
  let s := fallBack c s
  if clockNow s < c.stop then
    match s.sch.run with
    | some d => setRun { d with startDue := true } s
    | none => s
  else endRun .missed .label 0 s

/-- R138: 60 s since the last packet of the network. -/
def lossEnd (c : Run) (s : State) : State :=
  let st := (entry c.entry s).state
  let s := fallBack c s
  if clockNow s < c.stop then
    match st, s.sch.run with
    | .preroll, some d => setRun { d with startDue := true } s
    | .paused, some _ =>
      let s := schResume false s
      writeStatus c.entry (postProgramme c.entry .none .none
        (setEntry c.entry { entry c.entry s with state := .active } s))
    | _, _ => s
  else if st == .preroll then endRun .missed .label 0 s
  else endWell s

/-- R137, R138: the label timers count a seconds event. -/
def labelTick (s : State) : State :=
  match s.sch.run with
  | none => s
  | some c =>
    if c.label && c.watch then
      if c.seen then
        let c := { c with loss := c.loss + 1 }
        if Config.lossLimit ≤ c.loss then lossEnd c (setRun c s) else setRun c s
      else
        let c := { c with absence := c.absence + 1 }
        if Config.absenceLimit ≤ c.absence then absenceEnd c (setRun c s) else setRun c s
    else s

/-! ### Claims and requests (7.3) -/

/-- An entry becomes EMPTY, and a claim of it ends. -/
def makeEmpty (k : Fin 16) (s : State) : State :=
  let s := match s.sch.claim with
    | some (j, _) => if j = k then s.setSch { s.sch with claim := none } else s
    | none => s
  setEntry k { entry k s with state := .empty, wait := .none } s

/-- R121: a claim expires. -/
def expireClaim (k : Fin 16) (s : State) : State := writeStatus k (post (evClaimExpired k) (makeEmpty k s))

/-- R121: the claim timer counts a seconds event. -/
def claimTick (s : State) : State :=
  match s.sch.claim with
  | none => s
  | some (k, t) =>
    if Config.claimLimit ≤ t + 1 then expireClaim k s
    else s.setSch { s.sch with claim := some (k, t + 1) }

/-- R120: the CLAIM request. -/
def requestClaim (s : State) : State × Answer :=
  match entryOf s.rqu.arg0.toNat with
  | none => (s, badArg 0)
  | some k =>
    match s.sch.claim with
    | some (j, _) =>
      if j = k then (s.setSch { s.sch with claim := some (k, 0) }, answer .done)
      else (s, answer .busy)
    | none =>
      match (entry k s).state with
      | .preroll | .active | .paused => (s, answer .state)
      | _ =>
        let s := setEntry k { entry k s with state := .draft, wait := .none } s
        (writeStatus k (s.setSch { s.sch with claim := some (k, 0) }), answer .done)

/-- R122: the source value passes. -/
def sourceGood (m : Memory) (k : Fin 16) (presets : Memory) : Bool :=
  let v := progValue m k
  match progKind m k with
  | 1 => 1 ≤ v && v ≤ 99 && presetOccupied presets v
  | 2 => Config.dividerLow ≤ v && v ≤ Config.dividerHigh
  | _ => true

/-- R122: the label's four bytes pass. -/
def labelGood (m : Memory) (k : Fin 16) : Bool :=
  match progLabel m k with
  | [mo, d, h, mi] =>
    let month := mo.toNat
    let last := if month == 2 then 29 else lastDay 0 month
    1 ≤ month && month ≤ 12 && 1 ≤ d.toNat && d.toNat ≤ last && validHm h.toNat mi.toNat
  | _ => false

/-- R122, R196: the position of the first failing field of a COMMIT. -/
def commitFails (m : Memory) (k : Fin 16) (presets : Memory) (now : Nat) : Option Nat :=
  let once := isOnce m k
  let stopTime := (onceDay m k).map fun d => occStop m k d
  if !(1 ≤ progKind m k && progKind m k ≤ 3) then some 0
  else if !sourceGood m k presets then some 1
  else if (progMask m k).getLsbD 7 then some 3
  else if once && (onceDay m k).isNone then some 4
  else if !validHm (progStartH m k) (progStartM m k) then some 7
  else if !validHm (progStopH m k) (progStopM m k)
      || (progStartH m k == progStopH m k && progStartM m k == progStopM m k) then some 9
  else if !(1 ≤ progSpeed m k && progSpeed m k ≤ 4) then some 11
  else if progFlags m k &&& 0xFC != 0 then some 12
  else if progFollow m k && !labelGood m k then some 13
  else if once && !(now < stopTime.getD 0 && stopTime.getD 0 ≤ limitTime.secs) then some 4
  else none

/-- R123: a COMMIT whose checks pass. -/
def takeCommit (k : Fin 16) (s : State) : State :=
  let next := nextOccurrence s.sch.prog k none (clockNow s)
  let e : Entry := { Entry.start with state := if next.isSome then .waiting else .ended, next }
  let s := s.setSch { s.sch with claim := none }
  notify .check (writeStatus k (setEntry k e s))

/-- The entry that the claim holds is `k`. -/
def claimed (k : Fin 16) (s : State) : Bool :=
  match s.sch.claim with
  | some (j, _) => j == k
  | none => false

/-- R122: the COMMIT request. -/
def requestCommit (s : State) : State × Answer :=
  match entryOf s.rqu.arg0.toNat with
  | none => (s, badArg 0)
  | some k =>
    if !claimed k s then (s, answer .state)
    else match commitFails s.sch.prog k s.tun.presets (clockNow s) with
      | some off => (s, ⟨.invalid, off⟩)
      | none => (takeCommit k s, answer .done)

/-- R124: the DISCARD request. -/
def requestDiscard (s : State) : State × Answer :=
  match entryOf s.rqu.arg0.toNat with
  | none => (s, badArg 0)
  | some k => if claimed k s then (writeStatus k (makeEmpty k s), answer .done) else (s, answer .state)

/-- R124: the DELETE request. -/
def requestDelete (s : State) : State × Answer :=
  match entryOf s.rqu.arg0.toNat with
  | none => (s, badArg 0)
  | some k =>
    match (entry k s).state with
    | .waiting | .ended => (writeStatus k (makeEmpty k s), answer .done)
    | .empty => (s, answer .done)
    | _ => (s, answer .state)

/-- R125: the ABORT request. -/
def requestAbort (s : State) : State × Answer :=
  match s.sch.run with
  | some _ => (endRun .aborted .host 0 s, answer .done)
  | none => (s, answer .state)

/-! ### Clock steps (R143, R144) -/

/-- R143: an occurrence whose stop the new time of a step has passed ends MISSED, STEP. -/
def stepOver (new : Nat) (k : Fin 16) (s : State) : State :=
  let e := entry k s
  match e.state, e.next with
  | .waiting, some t => if stopOf s.sch.prog k t ≤ new then missNext k .step s else s
  | _, _ => s

/-- R143, for several entries, in the order of the list, that of the timer queue (log entry 60). -/
def stepOverAll (new : Nat) : List (Fin 16) → State → State
  | [], s => s
  | k :: rest, s => stepOverAll new rest (stepOver new k s)

/-- R144: the day of the occurrence with the latest stop that has passed, later than the last-run date. -/
def latestPassed (m : Memory) (k : Fin 16) (lastRun : Option Nat) (now : Nat) : Option Nat :=
  let fits (d : Nat) : Bool :=
    occStop m k d ≤ now && (match lastRun with | none => true | some l => decide (l < d))
  if isOnce m k then (onceDay m k).filter fits
  else
    let today := now / 86400
    ((daysFrom (today - 8) 9).reverse.filter fun d => inMask (progMask m k) d).find? fits

/-- R144: one occurrence of a WAITING entry ends MISSED, CLOCK. -/
def clockMiss (new : Nat) (k : Fin 16) (s : State) : State :=
  let e := entry k s
  if e.state == .waiting then
    match latestPassed s.sch.prog k e.lastRun new with
    | some d => missDay k d .clock s
    | none => s
  else s

/-- R144, for several entries, in the order of the list, that of the timer queue (log entry 60). -/
def clockMissAll (new : Nat) : List (Fin 16) → State → State
  | [], s => s
  | k :: rest, s => clockMissAll new rest (clockMiss new k s)

/-- R143: a backward step to before the start of the occurrence in PREROLL. -/
def stepBack (new : Nat) (s : State) : State :=
  match s.sch.run with
  | none => s
  | some c =>
    if (entry c.entry s).state == .preroll && decide (new < c.start) then
      setRun { c with startDue := false, watch := false, absence := 0, loss := 0, seen := false } s
    else s

/-- R143, R144: the step notice. -/
def stepNotice (n : StepNotice) (s : State) : State :=
  let new := n.new.secs
  let s := if n.validBefore then stepOverAll new s.sch.queue s else clockMissAll new s.sch.queue s
  notify .check (stepBack new (recomputeAll s.sch.queue s))

/-! ### Notices -/

/-- R132: TRC reports a state while SCHEDULE owns the transport. -/
def transportReport (st : TransportState) (s : State) : State :=
  match s.sch.run with
  | none => s
  | some c =>
    match st with
    | .recPause => setRun { c with ready := true } s
    | .record => s
    | _ => setRun { c with ready := false } s

/-- R145: a tape limit during a run. -/
def limitReport (s : State) : State :=
  match s.sch.run with
  | none => s
  | some c =>
    if (entry c.entry s).state == .preroll then endRun .missed .tapeEnd 0 s else endRun .truncated .tapeEnd 0 s

/-- R149: the auto-off request is tested. -/
def testAutoOff (s : State) : State :=
  if setAutoOff s.mpath.settings && s.sch.run.isNone then autoOff s else s

/-- SCH takes one notice. -/
def takeNotice (n : Notice) (s : State) : State :=
  match n with
  | .transport st => transportReport st s
  | .fault code => endRun .aborted .fault code.code s
  | .tapeLimit => limitReport s
  | .override_ => endRun .aborted .override_ 0 s
  | .step n => stepNotice n s
  | .runTests => runTests s
  | .check => prerollCheck s
  | .autoOff => testAutoOff s
  | .mainLost => endRun .powerFail .mainLost 0 s

/-- The notice is a report or a step, and not a check or the auto-off test, which follow the reports of their event. -/
def Notice.isReport : Notice → Bool
  | .check | .autoOff => false
  | _ => true

/-- The notice that SCH takes next, and those left: the oldest report, or with no report left the oldest notice (log
entry 9). -/
def nextNotice (l : List Notice) : Option (Notice × List Notice) :=
  match l.find? Notice.isReport with
  | some n => some (n, l.erase n)
  | none =>
    match l with
    | [] => none
    | n :: rest => some (n, rest)

/-- The notices of an event are taken; with none left, a start that stands ready is made (log entry 9). -/
def settle : Nat → State → State
  | 0, s => s
  | fuel + 1, s =>
    match nextNotice s.notices with
    | some (n, rest) => settle fuel (takeNotice n (s.setNotices rest))
    | none => if startReady s then settle fuel (startRun_ s) else s

/-- R105: SCH takes a seconds event: the claim timer, then the label timers, then with the check the tests of the run (log
entry 56). -/
def secondsEvent (s : State) : State :=
  notify .check (labelTick (claimTick (s.setClk s.clk.ageSample)))

/-! ### Index marks of a run -/

/-- R133, R54: TRC passes the report of an index mark on to SCH; 60 frames set mark written. -/
def markDone (m : MarkWrite) (s : State) : State :=
  match s.trc.owner, s.sch.run with
  | .schedule, some c => if 60 ≤ m.frames then setRun { c with markWritten := true } s else s
  | _, _ => s

end Sys2Proof.Machine
end

