-- ==== Sys2Proof/Machine/MemoryPath.lean ====
section
/-! DEFINITION. Machine/MemoryPath.lean: events, slot grants and the drain of the posted-write queue, and host cycles by
owner class (chapters 8 and 9). -/

namespace Sys2Proof.Machine

/-! ### Events -/

/-- What follows from the state an event leaves: a power-off that ends (R186), the host's release (R184), the lines
(R165, R175). `ran` says that the host ran as the event came. -/
def finish (ran : Bool) (s : State) : State := setLines ran (releaseHost (completeOff ((s.setNotices []).setTaken [])))

/-- One event of the powered part: its own work, what it tells SCH (log entry 9), and what follows. In BACKUP nothing
happens (10.2). -/
def event (f : State → State) (s : State) : State :=
  if powered s then finish (hostRuns s) (settle Config.chainFuel (f s)) else s

/-- A command that is one event: it always answers a next state. -/
def command (f : State → State) (s : State) : Host.Outcome State Fault Refusal := .next (event f s)

/-! ### Grants (R162) -/

/-- R162: a block hands its oldest held group. -/
def handOldest (b : Block) (s : State) : State :=
  match b with
  | .rqu =>
    (match s.rqu.held with
     | [] => s
     | g :: rest => enqueue g (s.setRqu { s.rqu with held := rest }))
  | .sch =>
    (match s.sch.held with
     | [] => s
     | h :: rest => handSch h (s.setSch { s.sch with held := rest }))
  | .tun =>
    (match s.tun.held with
     | [] => s
     | h :: rest => handTun h (s.setTun { s.tun with held := rest }))
  | .pwr =>
    (match s.pwr.held with
     | [] => s
     | h :: rest => handPwr h (s.setPwr { s.pwr with held := rest }))

/-- R162: while the queue has room, the first block of the grant list is granted the slot. An event that a handing posts takes
a slot that is still free ahead of the list (log entry 61). -/
def grants : Nat → State → State
  | 0, s => s
  | fuel + 1, s =>
    match s.mpath.grants with
    | [] => s
    | b :: rest =>
      if queueHasRoom s then grants fuel (handOldest b (s.setMpath { s.mpath with grants := rest })) else s

/-- R162: the slots that are free are granted; each handing fills one of four, and one place of the list at most, that of
a scan's station, is given up unhanded. -/
def grantSlots (s : State) : State := grants 16 s

/-- R165: no host cycle was in progress since before HWAIT was asserted: a drain or a host cycle has come since. -/
def closeCycle (s : State) : State := s.setMpath { s.mpath with cycleOpen := false }

/-- R163: one byte of the oldest group drains, in a gap between host cycles; a slot it frees is granted. -/
def drain (s : State) : State := grantSlots (drainByte (closeCycle s))

/-! ### Host cycles (R152 to R158) -/

/-- A command that is one host cycle: an event after which no earlier cycle is in progress. -/
def hostCycle (f : State → State) (s : State) : Host.Outcome State Fault Refusal :=
  .next (if powered s then closeCycle (event f s) else s)

/-- R165: a host cycle that begins while HWAIT is asserted is held while the oldest groups drain; each drain is an event
of its own. -/
def holdCycle : Nat → State → State
  | 0, s => s
  | fuel + 1, s => if urgentLevel s then holdCycle fuel (event drain s) else s

/-- Fuel of a held cycle: more than the bytes of every group that waits (log entry 6). -/
def holdFuel : Nat := 65536

/-- R165: a host cycle is served at once when it was in progress as HWAIT was asserted, and is else held while HWAIT
stands (log entry 6). -/
def holdOrServe (s : State) : State :=
  if !urgentLevel s then s
  else if s.mpath.cycleOpen then
    let s' := s.setFree (s.free + 1)
    if Config.cycleInProgress s.free then s' else holdCycle holdFuel s'
  else holdCycle holdFuel s

/-- R152: the offset in the deck region of a host address in the window. -/
def windowOffset (s : State) (addr : Nat) : Option Nat :=
  if windowBase s ≤ addr && addr < windowBase s + 4096 then some (addr - windowBase s) else none

/-- R158: a blocked host write posts PROTECT, unless the newest entry is one with the same offset and reason. -/
def protect (r : ProtectReason) (off : Nat) (data : Byte) (s : State) : State :=
  let e := evProtect r off data
  let n := s.rqu.newest
  if s.rqu.count != 0 && n.kind == e.kind && n.subject == e.subject && n.d0 == e.d0 && n.d1 == e.d1 then s
  else post e s

/-- R161: the snapshot latch is released. -/
def releaseLatch (s : State) : State := s.setMpath { s.mpath with latch := none }

/-- R154, R164: a host write passes to the RAM, and clears the byte's pending marks. -/
def passWrite (off : Nat) (data : Byte) (s : State) : State :=
  grantSlots (clearPending off (writeRegion off data s))

/-- R168: a host write to TAG or an ARG cell goes to RQU's copy; `n` is 0 for TAG. -/
def takeCell (n : Nat) (v : Byte) (s : State) : State :=
  let q := s.rqu
  s.setRqu (match n with
    | 0 => { q with tag := v }
    | 1 => { q with arg0 := v }
    | 2 => { q with arg1 := v }
    | 3 => { q with arg2 := v }
    | 4 => { q with arg3 := v }
    | 5 => { q with arg4 := v }
    | _ => { q with arg5 := v })

/-- R168, R192: a request is handed to the command's owner; `none` when the code names no command. -/
def ownerActs (code : Byte) (s : State) : Option (State × Answer) :=
  match code.toNat with
  | 0x01 => some (requestMotion .play .play s)
  | 0x02 => some (requestRecord s)
  | 0x03 => some (requestStop s)
  | 0x04 => some (requestPause s)
  | 0x05 => some (requestResume s)
  | 0x06 => some (requestMotion .ff .ff s)
  | 0x07 => some (requestMotion .rew .rew s)
  | 0x08 => some (requestMotion .cue .cue s)
  | 0x09 => some (requestMotion .review .review s)
  | 0x0A => some (requestEject s)
  | 0x0B => some (requestIndex s)
  | 0x0C => some (requestGoto s)
  | 0x0D => some (requestReset s)
  | 0x0E => some (requestRecover s)
  | 0x21 => some (requestTune s)
  | 0x22 => some (requestScan s)
  | 0x23 => some (requestScanStop s)
  | 0x24 => some (requestStore s)
  | 0x25 => some (requestFine s)
  | 0x31 => some (requestSetTime s)
  | 0x41 => some (requestClaim s)
  | 0x42 => some (requestCommit s)
  | 0x43 => some (requestDiscard s)
  | 0x44 => some (requestDelete s)
  | 0x45 => some (requestAbort s)
  | 0x51 => some (requestPowerOff s)
  | _ => none

/-- R168: the codes of TRC's commands. -/
def isTransportCode (code : Byte) : Bool := 1 ≤ code.toNat && code.toNat ≤ 0x0E

/-- R168, R169, R186: a request: its owner answers, a taken transport request cancels a power-off after its own events (log
entry 72), what SCH posts of it follows, and the result group is made last. -/
def request (code : Byte) (s : State) : State :=
  let tag := s.rqu.tag
  match ownerActs code s with
  | none => makeResult (answer .unknown) tag s
  | some (t, a) =>
    let t := if isTransportCode code && a.taken then cancelOff t else t
    makeResult a tag (settle Config.chainFuel t)

/-- R156: a host write to a programme record. -/
def programmeCycle (off : Nat) (data : Byte) (s : State) : State :=
  let pos := off - offProgrammes
  let mine : Bool := match s.sch.claim with
    | some (k, _) => k.val == pos / 32
    | none => false
  if mine && pos % 32 ≤ 16 then
    passWrite off data (s.setSch { s.sch with prog := s.sch.prog.write pos data })
  else protect .claim off data s

/-- R87: an entry refers to preset `n`. -/
def refersTo (n : Nat) (s : State) (k : Fin 16) : Bool :=
  let st := (entry k s).state
  (st == .waiting || st == .preroll || st == .active || st == .paused)
  && progKind s.sch.prog k == 1 && progValue s.sch.prog k == n

/-- R157: a host write to a preset record of presets 1..99. -/
def presetCycle (off : Nat) (data : Byte) (s : State) : State :=
  let key := off - offPresets
  let n := key / 16
  let pos := key % 16
  if pos = 0 && data == 0 && allEntries.any (refersTo n s) then protect .inUse off data s
  else if pos = 3 && !offsetInRange data.toInt then protect .range off data s
  else
    let s := if pos = 3 then dropHeldOffset n s else s
    passWrite off data (s.setTun { s.tun with presets := s.tun.presets.write key data })

/-- R58, R195: a host write to the profile table. -/
def profileCycle (off : Nat) (data : Byte) (s : State) : State :=
  let before := s.pos.profiles
  let p := { s.pos with profiles := before.write (off - offProfiles) data }
  passWrite off data (s.setPos (p.profileWritten s.srv.speed before))

/-- R194: a host write to the settings block. -/
def settingsCycle (off : Nat) (data : Byte) (s : State) : State :=
  let s := if off = offSettings then dropToggle s else s
  passWrite off data (takeSetting (off - offSettings) data s)

/-- R153: a host write to an offset of the deck region, by its owner class. -/
def regionWrite (off : Nat) (data : Byte) (s : State) : State :=
  if off < 0x010 then protect .owner off data s
  else if off < 0x017 then passWrite off data (takeCell (off - 0x010) data s)
  else if off = offCommand then request data (passWrite off data s)
  else if off < 0x01B then protect .owner off data s
  else if off = offAck then acknowledge data (passWrite off data s)
  else if off < 0x020 then passWrite off data s
  else if off < 0x060 then protect .owner off data s
  else if off < 0x080 then settingsCycle off data s
  else if off < 0x100 then profileCycle off data s
  else if off < 0x200 then protect .owner off data s
  else if off < 0x400 then programmeCycle off data s
  else if off < 0x410 then passWrite off data s
  else if off < 0xA40 then presetCycle off data s
  else if off < 0xC00 then passWrite off data s
  else if off < 0xE00 then protect .owner off data s
  else passWrite off data s

/-- R152: a host write cycle at an address. -/
def hostWrite (addr : Nat) (data : Byte) (s : State) : State :=
  let s := if hostRuns s then holdOrServe s else s
  if !hostRuns s then s
  else
    if 0x8000 ≤ addr then s
    else
      let s := releaseLatch s
      match windowOffset s addr with
      | none => s.setMem (s.mem.write addr data)
      | some off => regionWrite off data s

/-- A host write at an offset from the window base. -/
def hostWriteAt (off : Nat) (data : Byte) (s : State) : State := hostWrite (windowBase s + off) data s

/-- R152, R154, R160, R164: a host read cycle at an address. -/
def hostRead (addr : Nat) (s : State) : State :=
  let s := if hostRuns s then holdOrServe s else s
  if !hostRuns s then s
  else
    if 0x8000 ≤ addr then s.setHd none
    else match windowOffset s addr with
      | none => s.setHd (some (s.mem.read addr))
      | some off =>
        if 0x020 ≤ off && off < 0x060 then
          let (v, latch) := latchRead off s
          (s.setMpath { s.mpath with latch }).setHd (some v)
        else match forwarded s.mpath.queue off with
          | some v => s.setHd (some v)
          | none => s.setHd (some (s.mem.read addr))

end Sys2Proof.Machine
end

