-- ==== Sys2Proof/Machine/Standby.lean ====
section
/-! DEFINITION. Machine/Standby.lean: the standby start: start values, region validation and initialisation, and the
resolution and rebuild of the schedule (R1, R148, R150, R180 to R183, R191, R197, R200); the loss of the standby supply
and the backup reset (R104, R179). -/

namespace Sys2Proof.Machine

/-! ### Start values (R180, stages 1 to 3) -/

/-- The pins at a standby start; MAIN_EN has been undriven, so the main rail is down (R179). -/
def pinsAt (l : PinLevels) : Pins :=
  { cassSw := l.cassSw, tabSw := l.tabSw, unthreadedSw := l.unthreadedSw, threadedSw := l.threadedSw,
    startSense := l.startSense, endSense := l.endSense, motorOc := l.motorOc, thermal := l.thermal,
    mainGood := false, stbyGood := true, wb := l.wb, fr30 := l.fr30, aftHi := false, aftLo := false,
    syncOk := false, fieldFirst := l.fieldFirst }

/-- R1: TRC's state from the switch levels at a standby start. -/
def trcAt (now : Nat) (l : PinLevels) : Trc :=
  let t := { Trc.start with cassette := l.cassSw, tab := l.cassSw && l.tabSw }
  if l.unthreadedSw then { t with st := if l.cassSw then .unthreaded else .noCassette }
  else { t with st := .unthreading, loadMotor := .reverse, loadTimer := some now }

/-- R180, stages 1 to 3: every block at its standby-start values; the RAM and the backup domain are kept. -/
def startValues (l : PinLevels) (s : State) : State :=
  { State.reset with
    pending := s.pending, now := s.now, free := s.free, mem := s.mem, clk := s.clk.logicStart,
    pins := pinsAt l, straps := ⟨l.wb, l.fr30⟩, trc := trcAt s.now l, srv := .start s.now, pwr := .start }

/-! ### Region validation on a match (R181) -/

/-- R191: the sixteen bytes at the window base are the layout signature. -/
def signatureMatches (s : State) : Bool := s.mem.bytes (windowBase s) 16 == signature

/-- R181: RQU's copies are loaded. -/
def loadCells (s : State) : State :=
  s.setRqu { s.rqu with
    tag := regionByte s 0x010, arg0 := regionByte s 0x011, arg1 := regionByte s 0x012, arg2 := regionByte s 0x013,
    arg3 := regionByte s 0x014, arg4 := regionByte s 0x015, arg5 := regionByte s 0x016 }

/-- R181, R92, R28: the settings shadow, the line windows, and the speed in use at the default. -/
def loadSettings (m : Memory) (s : State) : State :=
  let w := setWindow m
  (((s.setMpath { s.mpath with settings := m }).setLds { s.lds with window := w, field := w }).setSrv
    { s.srv with speed := setSpeed m, origin := .default })

/-- R86: the offset byte of a preset is outside −24..+24. -/
def badOffset (m : Memory) (n : Nat) : Bool := !offsetInRange (presetOffset m n)

/-- R86: a bad offset byte is loaded as 0, and corrected by a 1-byte write. -/
def correctOffsets : List Nat → State → State
  | [], s => s
  | n :: rest, s =>
    if badOffset s.tun.presets n then
      correctOffsets rest (offerTun (.offset n 0)
        (s.setTun { s.tun with presets := s.tun.presets.write (16 * n + 3) 0 }))
    else correctOffsets rest s

/-- R181, R86: the preset shadow, presets 1..99, is loaded and corrected. -/
def loadPresets (s : State) : State :=
  let m := (s.mem.slice (windowBase s + offPresets) 1600).filter fun c => 16 ≤ c.1
  correctOffsets (presetsFrom 1 99) (s.setTun { s.tun with presets := m })

/-- R197: a stored date as days, none when it is no valid date. -/
def loadDate (y m d : Byte) : Option Nat :=
  if validDate y.toNat m.toNat d.toNat then some (daysOf y.toNat m.toNat d.toNat) else none

/-- R197: a stored next occurrence in seconds, none when it is no valid date-time. -/
def loadNext (m : Memory) (a : Nat) : Option Nat :=
  match loadDate (m.read a) (m.read (a + 1)) (m.read (a + 2)) with
  | none => none
  | some d =>
    let h := (m.read (a + 3)).toNat
    let mi := (m.read (a + 4)).toNat
    if validHm h mi then some (d * 86400 + h * 3600 + mi * 60) else none

/-- R197: an entry's status from its part fields at address `a`. -/
def loadEntry (m : Memory) (a : Nat) : Entry :=
  let f := m.read (a + 10)
  { state := entryStateOf (m.read a).toNat, outcome := outcomeOf (m.read (a + 1)).toNat,
    lastRun := loadDate (m.read (a + 2)) (m.read (a + 3)) (m.read (a + 4)), next := loadNext m (a + 5),
    speed := speedOf (f.toNat % 4), late := f.getLsbD 2, short := f.getLsbD 3, unknownTape := f.getLsbD 4,
    fallback := f.getLsbD 5, wait := .none }

/-- R197: one entry is loaded; a state byte above 6 is written back as EMPTY. -/
def loadOne (k : Fin 16) (s : State) : State :=
  let a := windowBase s + offProgrammes + 32 * k.val + 20
  if 6 < (s.mem.read a).toNat then writeStatus k (postProgramme k .none .none (setEntry k .start s))
  else setEntry k (loadEntry s.mem a) s

/-- R197, for several entries. -/
def loadEntries : List (Fin 16) → State → State
  | [], s => s
  | k :: rest, s => loadEntries rest (loadOne k s)

/-- R148: the log area as SCH looks at it: whether slot `i` is empty, and its sequence. -/
def logSlotAt (s : State) (i : Nat) : Bool × Nat :=
  let a := windowBase s + offLog + 32 * (i % 16)
  (s.mem.read (a + 27) == 0, s.mem.read16 a)

/-- R148: a non-empty slot whose following slot is empty or does not follow it in sequence. -/
def newestSlot (s : State) (i : Nat) : Bool :=
  let (empty, seq) := logSlotAt s i
  let (empty', seq') := logSlotAt s (i + 1)
  !empty && (empty' || seq' != (seq + 1) % 65536)

/-- R148: the log writer's next slot and sequence. -/
def recoverLog (s : State) : Nat × Nat :=
  match (List.range 16).find? (newestSlot s) with
  | some i => ((i + 1) % 16, ((logSlotAt s i).2 + 1) % 65536)
  | none => (0, 1)

/-- R181: SCH loads its programme shadow, its log writer and each entry's status. -/
def loadSchedule (s : State) : State :=
  let prog := (s.mem.slice (windowBase s + offProgrammes) 512).filter fun c => c.1 % 32 ≤ 16
  let (slot, seq) := recoverLog s
  loadEntries allEntries (s.setSch { s.sch with prog, logSlot := slot, logSeq := seq })

/-- R181: a signature match. -/
def validate (s : State) : State :=
  let s := loadSettings (s.mem.slice (windowBase s + offSettings) 32) (loadCells s)
  let s := s.setPos { s.pos with profiles := s.mem.slice (windowBase s + offProfiles) 128 }
  let s := loadSchedule (loadPresets s)
  s.setPwr { s.pwr with regionReady := true }

/-! ### Region initialisation on a mismatch (R182, R200) -/

/-- R200: the bytes of a profile in use. -/
def profileBytes (low high h nsp : Nat) : List Byte :=
  [0x01, 0x00] ++ le16 low ++ le16 high ++ le16 h ++ le16 nsp ++ List.replicate 6 0x00

/-- R200: the 128 bytes of the profile table. -/
def defaultProfiles : List Byte :=
  profileBytes 1310 1440 8869 7200 ++ profileBytes 1700 1870 6822 10800 ++ profileBytes 2100 2290 5543 14400
  ++ List.replicate 80 0x00

/-- R200: the 32 bytes of the settings block. -/
def settingsBytes : List Byte := Memory.bytes defaultSettings 0 32

/-- R200: the 32 bytes of an EMPTY programme entry. -/
def emptyEntryBytes : List Byte := List.replicate 22 0x00 ++ List.replicate 8 0xFF ++ [0x00, 0x00]

/-- Groups of one size and content, one after another. -/
def repeatGroups (start size : Nat) (bytes : List Byte) : Nat → List WriteGroup
  | 0 => []
  | n + 1 => mkGroup start bytes :: repeatGroups (start + size) size bytes n

/-- R182: the 138 groups of initialisation, in order. -/
def initGroups : List WriteGroup :=
  [mkGroup 0x010 (List.replicate 12 0x00), mkGroup offSettings settingsBytes,
   mkGroup 0x080 (defaultProfiles.take 32), mkGroup 0x0A0 ((defaultProfiles.drop 32).take 32),
   mkGroup 0x0C0 ((defaultProfiles.drop 64).take 32), mkGroup 0x0E0 (defaultProfiles.drop 96)]
  ++ repeatGroups offProgrammes 32 emptyEntryBytes 16
  ++ repeatGroups offPreset1 16 (List.replicate 16 0x00) 99
  ++ repeatGroups offLog 32 (List.replicate 32 0x00) 16
  ++ [mkGroup 0x000 signature]

/-- R182, R162: PWR hands its groups in order, and holds those for which the queue has no room. -/
def offerInit : List WriteGroup → State → State
  | [], s => s
  | g :: rest, s =>
    if queueHasRoom s then offerInit rest (enqueue g s)
    else offerInit rest (askSlot .pwr (s.setPwr { s.pwr with held := s.pwr.held ++ [.init g] }))

/-- R182: a signature mismatch: the shadows are set, the groups made, and a valid retained record is cleared. -/
def initialise (s : State) : State :=
  let s := loadSettings defaultSettings s
  let s := s.setPos { s.pos with profiles := Memory.writeAll [] 0 defaultProfiles }
  clearRetained (offerInit initGroups s)

/-! ### Resolution and rebuild (R183, R150) -/

/-- R183, step 1: an entry found in DRAFT becomes EMPTY. -/
def dropDrafts : List (Fin 16) → State → State
  | [], s => s
  | k :: rest, s =>
    if (entry k s).state == .draft then
      dropDrafts rest (writeStatus k (postProgramme k .none .none (setEntry k { entry k s with state := .empty } s)))
    else dropDrafts rest s

/-- R183: the facts of an entry that a standby-supply loss cut short. -/
def cutFacts (e : Entry) (date planned : Option Nat) (start : Option DateTime) (counter : Int) : LogFacts :=
  { date, planned, actualStart := start, actualStop := none, counter, remaining := 0xFFFF, speed := e.speed,
    outcome := .powerFail, reason := .supplyLost, detail := 0, late := e.late, short := e.short,
    unknownTape := e.unknownTape, fallback := e.fallback, markWritten := false }

/-- R183, step 2: the entry of a valid retained record ends POWER_FAIL. -/
def resolveRetained (s : State) : State :=
  let r := s.clk.retained
  if r.valid then
    let e := { entry r.entry s with lastRun := some r.date }
    let facts := cutFacts e (some r.date) (some (occStart s.sch.prog r.entry r.date)) (some r.start) r.counter
    clearRetained (conclude r.entry (movedOn s.sch.prog r.entry (clockNow s) e) facts s)
  else s

/-- R183, step 3: an entry found in PREROLL, ACTIVE or PAUSED ends POWER_FAIL. One found ACTIVE or PAUSED whose next occurrence
is no valid date-time keeps its last-run date (log entry 63). -/
def resolveOne (k : Fin 16) (s : State) : State :=
  let e := entry k s
  let date := e.next.map fun t => t / 86400
  let cut (e : Entry) : State :=
    conclude k (movedOn s.sch.prog k (clockNow s) e) (cutFacts e date e.next none 0) s
  match e.state with
  | .preroll => cut e
  | .active | .paused => cut { e with lastRun := if date.isSome then date else e.lastRun }
  | _ => s

/-- R183, step 3, for several entries. -/
def resolveAll : List (Fin 16) → State → State
  | [], s => s
  | k :: rest, s => resolveAll rest (resolveOne k s)

/-- R150: a WAITING entry's stored occurrence whose stop passed while the supply was absent ends MISSED. -/
def supplyOff (k : Fin 16) (s : State) : State :=
  let e := entry k s
  match e.state, e.next with
  | .waiting, some t =>
    let later := match e.lastRun with | none => true | some l => decide (l < t / 86400)
    if s.clk.valid && decide (stopOf s.sch.prog k t ≤ clockNow s) && later then missNext k .supplyOff s else s
  | _, _ => s

/-- R150, for several entries, in the order of the list, that of their indices (log entry 60). -/
def supplyOffAll : List (Fin 16) → State → State
  | [], s => s
  | k :: rest, s => supplyOffAll rest (supplyOff k s)

/-- R150: the schedule is rebuilt, and the pre-roll check asked for. -/
def rebuild (s : State) : State := notify .check (recomputeAll allEntries (supplyOffAll allEntries s))

/-- R180, stages 4 to 6. -/
def validateAndRebuild (s : State) : State :=
  if signatureMatches s then rebuild (resolveAll allEntries (resolveRetained (dropDrafts allEntries (postInvalid (validate s)))))
  else rebuild (postInvalid (initialise s))

/-- R180: the standby start. -/
def standbyStart (l : PinLevels) (s : State) : State :=
  if s.pwr.power == .backup then
    finish false (settle Config.chainFuel (validateAndRebuild (startValues l s)))
  else s

/-! ### The supplies and the backup domain -/

/-- R179: a fall of STBY_GOOD: a RAM byte write in progress completes, and the logic's state is lost. The unpowered
logic is shown at its standby-start values (log entry 8). -/
def supplyLoss (byteInProgress : Bool) (s : State) : State :=
  if powered s then
    let s := if byteInProgress then drainByte s else s
    { State.reset with
      pending := s.pending, now := s.now, free := s.free, mem := s.mem, clk := s.clk.logicStart, srv := .start s.now,
      pins := { s.pins with stbyGood := false, mainGood := false }, straps := s.straps }
  else s

/-- R104: a backup reset. -/
def backupReset (s : State) : State := if s.pwr.power == .backup then s.setClk .reset else s

end Sys2Proof.Machine
end

