-- ==== Sys2Proof/Machine/ExecHost.lean ====
section
/-! DEFINITION. Machine/ExecHost.lean: the meanings of the memory path's, the request unit's and the power unit's rows
(chapters 8, 9 and 10). -/

namespace Sys2Proof.Machine

/-- R161: LIVE_READ: a host read cycle at an address. -/
def execLiveRead (addr : BitVec 16) (s : State) : Host.Outcome State Fault Refusal :=
  hostCycle (hostRead addr.toNat) s
/-- R155: PART_OWNED_WRITE at an offset of the region. -/
def execPartOwnedWrite (off : Nat) (data : Byte) (s : State) : Host.Outcome State Fault Refusal :=
  hostCycle (hostWriteAt off data) s
/-- R154: HOST_WRITE at an address. -/
def execHostWrite (addr : BitVec 16) (data : Byte) (s : State) : Host.Outcome State Fault Refusal :=
  hostCycle (hostWrite addr.toNat data) s
/-- R194: SETTINGS_WRITE at an offset of the settings block. -/
def execSettingsWrite (off : Nat) (data : Byte) (s : State) : Host.Outcome State Fault Refusal :=
  hostCycle (hostWriteAt (offSettings + off) data) s
/-- R168: UNKNOWN_COMMAND: a code written to COMMAND. -/
def execUnknownCommand (code : Byte) (s : State) : Host.Outcome State Fault Refusal :=
  hostCycle (hostWriteAt offCommand code) s
/-- R173: EVENT_ACK. -/
def execEventAck (seq : Byte) (s : State) : Host.Outcome State Fault Refusal :=
  hostCycle (hostWriteAt offAck seq) s
/-- R163: POSTED_WRITE_DRAIN. -/
def execPostedWriteDrain (s : State) : Host.Outcome State Fault Refusal :=
  command drain s
/-- R162: SLOT_GRANT. -/
def execSlotGrant (s : State) : Host.Outcome State Fault Refusal :=
  command grantSlots s
/-- R185: POWER_OFF. -/
def execPowerOff (s : State) : Host.Outcome State Fault Refusal :=
  hostCycle (hostWriteAt offCommand 0x51) s
/-- R186: POWER_OFF_COMPLETE. -/
def execPowerOffComplete (s : State) : Host.Outcome State Fault Refusal :=
  command completeOff s

/-- R189: successive 10 ms samples of K[3:0], each an event. -/
def keySamples (samples : List (BitVec 4)) (s : State) : State :=
  match samples with
  | [] => s
  | k :: rest => keySamples rest (event (keySample k) s)

/-- R189, R190: KEY_PRESS. -/
def execKeyPress (samples : List (BitVec 4)) (s : State) : Host.Outcome State Fault Refusal :=
  .next (keySamples samples s)

/-- R180: STANDBY_START. -/
def execStandbyStart (levels : PinLevels) (s : State) : Host.Outcome State Fault Refusal :=
  .next (standbyStart levels s)
/-- R179: STANDBY_SUPPLY_LOSS. -/
def execStandbySupplyLoss (byteInProgress : Bool) (s : State) : Host.Outcome State Fault Refusal :=
  .next (supplyLoss byteInProgress s)
/-- R104: BACKUP_RESET. -/
def execBackupReset (s : State) : Host.Outcome State Fault Refusal := .next (backupReset s)

/-- R188: MAIN_GOOD_FALL, a fall of MAIN_GOOD; TRC and SRV take it first, then TUN, then PWR (log entry 30). -/
def execMainGoodFall (s : State) : Host.Outcome State Fault Refusal :=
  command (fun s =>
    if s.pins.mainGood then
      let s := s.setPins { s.pins with mainGood := false }
      let s := s.setSrv s.srv.powerDown
      let on : Bool := s.pwr.power == .on
      let s := stopDrumAllowance (if on then transportRailLost s else s)
      let s := tunerRailLost s
      if on && s.pwr.phase != .rising then railLost s else s
    else s) s

/-- R184: MAIN_GOOD_RISE, a rise of MAIN_GOOD. -/
def execMainGoodRise (s : State) : Host.Outcome State Fault Refusal :=
  command (fun s =>
    if s.pins.mainGood then s
    else
      let s := s.setPins { s.pins with mainGood := true }
      let s := s.setSrv (s.srv.powerUp s.now)
      let s := tunerRailGood (transportRailGood s)
      if s.pwr.power == .on && s.pwr.phase == .rising then
        s.setPwr { s.pwr with railTimer := none, holdTimer := .running s.now, phase := .resetHold }
      else s) s

/-- R184, R188: RAIL_TIMEOUT: the rail timer reaches its limit in RISING. -/
def execRailTimeout (s : State) : Host.Outcome State Fault Refusal :=
  command (fun s =>
    match s.pwr.railTimer with
    | some t =>
      if s.pwr.power == .on && s.pwr.phase == .rising then railLost (reachLimit t Config.railLimit s) else s
    | none => s) s

/-- R184: HOST_RESET_RELEASE: the hold timer reaches 50 ms; the release follows when the region is ready. -/
def execHostResetRelease (s : State) : Host.Outcome State Fault Refusal :=
  command (fun s =>
    match s.pwr.holdTimer with
    | .running t =>
      let s := reachLimit t Config.holdLimit s
      releaseHost (s.setPwr { s.pwr with holdTimer := .reached })
    | _ => s) s

end Sys2Proof.Machine
end

