-- ==== Sys2Proof/Machine/ExecSchedule.lean ====
section
/-! DEFINITION. Machine/ExecSchedule.lean: the meanings of the clock's and the scheduler's rows (chapters 6 and 7). Rows
that stand for what another event brings about act when their condition stands (log entry 23). -/

namespace Sys2Proof.Machine

/-- R105, R107: the sub-second count wraps. In BACKUP only the count advances. -/
def secondAdvance (s : State) : State :=
  if powered s then event (fun s => secondsEvent (s.setClk s.clk.second)) s else s.setClk s.clk.second

/-- R105, R107: SECOND_ADVANCE. -/
def execSecondAdvance (s : State) : Host.Outcome State Fault Refusal := .next (secondAdvance s)

/-- R109: SET_TIME. -/
def execSetTime (s : State) : Host.Outcome State Fault Refusal :=
  hostCycle (hostWriteAt offCommand 0x31) s
/-- R120: CLAIM. -/
def execClaim (s : State) : Host.Outcome State Fault Refusal :=
  hostCycle (hostWriteAt offCommand 0x41) s
/-- R122: COMMIT. -/
def execCommit (s : State) : Host.Outcome State Fault Refusal :=
  hostCycle (hostWriteAt offCommand 0x42) s
/-- R124: DISCARD. -/
def execDiscard (s : State) : Host.Outcome State Fault Refusal :=
  hostCycle (hostWriteAt offCommand 0x43) s
/-- R124: DELETE. -/
def execDelete (s : State) : Host.Outcome State Fault Refusal :=
  hostCycle (hostWriteAt offCommand 0x44) s
/-- R125: ABORT. -/
def execAbort (s : State) : Host.Outcome State Fault Refusal :=
  hostCycle (hostWriteAt offCommand 0x45) s
/-- R156: PROGRAMME_WRITE at an offset of the programme table. -/
def execProgrammeWrite (off : Nat) (data : Byte) (s : State) : Host.Outcome State Fault Refusal :=
  hostCycle (hostWriteAt (offProgrammes + off) data) s

/-- R121: CLAIM_EXPIRY. -/
def execClaimExpiry (s : State) : Host.Outcome State Fault Refusal :=
  command (fun s =>
    match s.sch.claim with
    | some (k, t) => if Config.claimLimit ≤ t then expireClaim k s else s
    | none => s) s

/-- R133: OCCURRENCE_START. -/
def execOccurrenceStart (s : State) : Host.Outcome State Fault Refusal :=
  command startRun_ s

/-- R134, R135: OCCURRENCE_START_DUE: the clock has reached the start of the occurrence in PREROLL. -/
def execOccurrenceStartDue (s : State) : Host.Outcome State Fault Refusal :=
  command (fun s =>
    match s.sch.run with
    | some c =>
      if (entry c.entry s).state == .preroll && decide (c.start ≤ clockNow s) then runTests s else s
    | none => s) s

/-- R134: OCCURRENCE_STOP_REACHED: the clock has reached the stop of a run in CLOCK mode. -/
def execOccurrenceStopReached (s : State) : Host.Outcome State Fault Refusal :=
  command (fun s =>
    match s.sch.run with
    | some c => if !c.label && decide (c.stop ≤ clockNow s) then clockTests c s else s
    | none => s) s

/-- R137: ABSENCE_TIMEOUT. -/
def execAbsenceTimeout (s : State) : Host.Outcome State Fault Refusal :=
  command (fun s =>
    match s.sch.run with
    | some c =>
      if c.label && c.watch && !c.seen && decide (Config.absenceLimit ≤ c.absence) then absenceEnd c s else s
    | none => s) s

/-- R138: LABEL_LOSS_TIMEOUT. -/
def execLabelLossTimeout (s : State) : Host.Outcome State Fault Refusal :=
  command (fun s =>
    match s.sch.run with
    | some c => if c.label && c.watch && c.seen && decide (Config.lossLimit ≤ c.loss) then lossEnd c s else s
    | none => s) s

/-- R139: LABEL_OVERRUN_LIMIT. -/
def execLabelOverrunLimit (s : State) : Host.Outcome State Fault Refusal :=
  command (fun s =>
    match s.sch.run with
    | some c => if c.label && decide (c.stop + Config.overrunLimit ≤ clockNow s) then labelTests c s else s
    | none => s) s

end Sys2Proof.Machine
end

