-- ==== Sys2Proof/Machine/ExecServo.lean ====
section
/-! DEFINITION. Machine/ExecServo.lean: the meanings of the servo's and the position unit's rows (chapters 2 and 3). -/

namespace Sys2Proof.Machine

/-- R31, R44: the drum runs: its row runs it and the main rail is good. -/
def drumTurns (s : State) : Bool := s.srv.row.drumRuns && s.pins.mainGood

/-- R32, R44: the capstan runs. -/
def capstanTurns (s : State) : Bool := (s.srv.row.capstan s.srv.capOn).isSome && s.pins.mainGood

/-- R31: DRUM_FG_PULSE at a time. -/
def execDrumFgPulse (at_ : Nat) (s : State) : Host.Outcome State Fault Refusal :=
  command (fun s =>
    let s := reachTime at_ s
    if drumTurns s then
      let (v, r) := s.srv.drumFgPulse s.straps.fr30 s.now
      drumReported r (s.setSrv v)
    else s) s

/-- R31: DRUM_FG_GAP. -/
def execDrumFgGap (s : State) : Host.Outcome State Fault Refusal :=
  command (fun s =>
    if drumTurns s then
      let s := reachLimit s.srv.drumGap Config.fgLimit s
      let (v, r) := s.srv.drumFgGap s.straps.fr30
      drumReported r (s.setSrv v)
    else s) s

/-- R32, R37: CAPSTAN_FG_PULSE at a time: a measurement, the lock test, and the count of a frame run. -/
def execCapstanFgPulse (at_ : Nat) (s : State) : Host.Outcome State Fault Refusal :=
  command (fun s =>
    let s := reachTime at_ s
    if capstanTurns s then
      let (v, r) := s.srv.capFgPulse s.straps.fr30 s.now
      let (v, done) := v.countRun
      let s := capReported r (s.setSrv v)
      if done then runDone s else s
    else s) s

/-- R32: CAPSTAN_FG_GAP. -/
def execCapstanFgGap (s : State) : Host.Outcome State Fault Refusal :=
  command (fun s =>
    if capstanTurns s then
      let s := reachLimit s.srv.capGap Config.fgLimit s
      let (v, r) := s.srv.capFgGap s.straps.fr30
      capReported r (s.setSrv v)
    else s) s

/-- The free values of log entries 17 and 18 move on. -/
def useFree (s : State) : State := s.setFree (s.free + 1)

/-- R35: DRUM_PG_PULSE at a time. -/
def execDrumPgPulse (at_ : Nat) (s : State) : Host.Outcome State Fault Refusal :=
  command (fun s =>
    let s := reachTime at_ s
    if drumTurns s then
      let (v, r) := s.srv.pgPulse s.straps.fr30 s.now (Config.phaseTie s.free) s.pos.lastPulse
      drumReported r (useFree (s.setSrv v))
    else s) s

/-- R48, R54: a frame start of the drum's frame reference, while TRC is writing, writes one frame. -/
def writeFrame (s : State) : State :=
  if s.trc.writing then
    let (p, high, mark) := s.pos.writeFrame (Config.counterLimit s.straps.fr30) s.straps.fr30
    let s := (s.setPos p).setCtlOut (some high)
    match mark with
    | some m => markDone m s
    | none => s
  else s

/-- R34, R48: FRAME_REFERENCE_PULSE: the next internal reference pulse. -/
def execFrameReferencePulse (s : State) : Host.Outcome State Fault Refusal :=
  command (fun s =>
    let f := Config.framePeriod s.straps.fr30
    let s := reachLimit s.srv.refLast f s
    let s := s.setSrv { s.srv with refLast := s.srv.refLast + f }
    if s.srv.row.frameRef && s.srv.source == .internal then writeFrame s else s) s

/-- R34: FRAME_REFERENCE_TIMEOUT. -/
def execFrameReferenceTimeout (s : State) : Host.Outcome State Fault Refusal :=
  command (fun s =>
    match s.srv.frameStart with
    | some t =>
      if s.srv.row.frameRef && s.srv.source == .external then
        let s := reachLimit t (2 * Config.framePeriod s.straps.fr30) s
        s.setSrv (s.srv.frameTimeout s.straps.fr30)
      else s
    | none => s) s

/-- R40, R42, R43, R59 to R62: REEL_MARK of a reel at a time, taken to the whole ms before it (log entry 67). -/
def execReelMark (reel : ReelName) (at_ : Nat) (s : State) : Host.Outcome State Fault Refusal :=
  command (fun s =>
    let s := reachTime at_ s
    let (v, new) := s.srv.reelMark reel (s.now / 1000)
    let s := s.setSrv v
    if new then
      s.setPos (s.pos.takePeriod reel s.trc.st (s.trc.search.map fun k => k.phase) v.speed v.capLock v.windSettled
        v.supply.period v.takeup.period)
    else s) s

/-- R21: TRC takes the stall of a reel. -/
def stallReported (reel : ReelName) (s : State) : State :=
  match motionDir s.trc with
  | none => s
  | some d =>
    if drivenReel d = reel then latchFault .slack 0 s
    else tapeLimit (match d with | .forward => .ending | .backward => .beginning) true s

/-- R41, R21: REEL_STALL of a reel. -/
def execReelStall (reel : ReelName) (s : State) : Host.Outcome State Fault Refusal :=
  command (fun s =>
    match (s.srv.reel reel).stall with
    | some ms =>
      let s := reachTime (1000 * ms) s
      stallReported reel (s.setSrv (s.srv.stallReel reel))
    | none => s) s

/-- R39: SRV watches a CTL interval in PLAY. -/
def watchInterval (interval : Option Nat) (s : State) : State :=
  match interval with
  | none => s
  | some i =>
    if s.srv.row == .play && s.srv.capLock then
      let (v, k) := s.srv.detect s.straps.fr30 i
      let s := s.setSrv v
      match k with
      | none => s
      | some m => capReported .lost (useSpeed m .detected s)
    else s

/-- R47: the direction in which a read pulse counts: of the row that moves tape, or of a run-down. -/
def pulseDir (s : State) : Option Dir :=
  if s.trc.writing then none
  else if s.srv.moves then some s.srv.row.motionDir
  else match s.pos.runDown with
    | some d => if s.now ≤ d.since + Config.runDownLimit then some d.dir else none
    | none => none

/-- R47, R57: a read pulse is counted, and handed to SRV, then to TRC: the counter first, the mark second. -/
def takePulse (dir : Dir) (rise high : Nat) (s : State) : State :=
  let before := s.pos.counter
  let limit := Config.counterLimit s.straps.fr30
  let (p, interval, mark) := s.pos.readPulse limit dir rise high s.srv.row s.srv.capLock
  let fr := s.straps.fr30
  let v := s.srv.track fr rise (Config.phaseTie s.free) (Config.trackingBeforePg s.free)
  let s := watchInterval interval (useFree ((s.setPos p).setSrv v))
  let s := if s.pos.counter = before then s else counterChanged s
  match mark with
  | some m => markReported m s
  | none => s

/-- R47: CTL_READ_PULSE with the time of its rising edge and its high time. It is taken at its falling edge; events may have
come between the two edges. -/
def execCtlReadPulse (rise high : Nat) (s : State) : Host.Outcome State Fault Refusal :=
  command (fun s =>
    let s := reachTime (rise + high) s
    match pulseDir s with
    | some d => takePulse d (s.now - high) high s
    | none => s) s

/-- R47: RUN_DOWN_END. -/
def execRunDownEnd (s : State) : Host.Outcome State Fault Refusal :=
  command (fun s =>
    match s.pos.runDown with
    | some d =>
      let s := reachLimit d.since Config.runDownLimit s
      s.setPos { s.pos with runDown := none }
    | none => s) s

/-- R49: EXTRAPOLATION_START: the blank timer of PLAY reaches 8 frame periods. -/
def execExtrapolationStart (s : State) : Host.Outcome State Fault Refusal :=
  command (fun s =>
    match s.srv.row, s.pos.extrap, s.pos.blank with
    | .play, .off, .running t =>
      let s := reachLimit t (8 * Config.framePeriod s.straps.fr30) s
      let p := s.pos.count (Config.counterLimit s.straps.fr30) 8
      counterChanged (s.setPos { p with
        capSource := true, blank := .stopped, extrap := .running (t + 8 * Config.framePeriod s.straps.fr30) })
    | _, _, _ => s) s

/-- R49: EXTRAPOLATED_FRAME: a further frame period of a running extrapolation. The counter source stays as it stands:
CAPSTAN, or CTL after a COUNTER_RESET (R52; log entry 44). -/
def execExtrapolatedFrame (s : State) : Host.Outcome State Fault Refusal :=
  command (fun s =>
    match s.pos.extrap with
    | .running t =>
      let s := reachLimit t (Config.framePeriod s.straps.fr30) s
      let p := s.pos.count (Config.counterLimit s.straps.fr30) 1
      counterChanged (s.setPos { p with extrap := .running (t + Config.framePeriod s.straps.fr30) })
    | _ => s) s

/-- R50: UNSURE_SET: the blank timer reaches 1,000 ms in CUE, REVIEW, FF, REW or SEEK. -/
def execUnsureSet (s : State) : Host.Outcome State Fault Refusal :=
  command (fun s =>
    match s.srv.row.blankSets, s.pos.blank with
    | true, .running t =>
      let s := reachLimit t Config.unsureLimit s
      s.setPos { s.pos with unsure := true, blank := .stopped }
    | _, _ => s) s

/-- R58: PROFILE_WRITE at an offset of the profile table. -/
def execProfileWrite (off : Nat) (data : Byte) (s : State) : Host.Outcome State Fault Refusal :=
  hostCycle (hostWriteAt (offProfiles + off) data) s

end Sys2Proof.Machine
end

