-- ==== Sys2Proof/Machine/ExecTransport.lean ====
section
/-! DEFINITION. Machine/ExecTransport.lean: the meanings of the transport's rows (chapter 1). -/

namespace Sys2Proof.Machine

/-- R2, R184: CASSETTE_INSERTION. In STANDBY an insertion wakes the deck. -/
def execCassetteInsertion (tab : Bool) (s : State) : Host.Outcome State Fault Refusal :=
  command (fun s =>
    let (s, isInsertion) := insertCassette tab (s.setPins { s.pins with cassSw := true, tabSw := tab })
    if isInsertion then wake .cassette s else s) s

/-- R3: CASSETTE_REMOVAL. -/
def execCassetteRemoval (s : State) : Host.Outcome State Fault Refusal :=
  command (fun s => removeCassette (s.setPins { s.pins with cassSw := false })) s

/-- R7: PLAY. -/
def execPlay (s : State) : Host.Outcome State Fault Refusal :=
  hostCycle (hostWriteAt offCommand 0x01) s
/-- R16: RECORD. -/
def execRecord (s : State) : Host.Outcome State Fault Refusal :=
  hostCycle (hostWriteAt offCommand 0x02) s
/-- R5: STOP. -/
def execStop (s : State) : Host.Outcome State Fault Refusal :=
  hostCycle (hostWriteAt offCommand 0x03) s
/-- R18: PAUSE. -/
def execPause (s : State) : Host.Outcome State Fault Refusal :=
  hostCycle (hostWriteAt offCommand 0x04) s
/-- R19: RESUME. -/
def execResume (s : State) : Host.Outcome State Fault Refusal :=
  hostCycle (hostWriteAt offCommand 0x05) s
/-- R8: FF. -/
def execFf (s : State) : Host.Outcome State Fault Refusal :=
  hostCycle (hostWriteAt offCommand 0x06) s
/-- R8: REW. -/
def execRew (s : State) : Host.Outcome State Fault Refusal :=
  hostCycle (hostWriteAt offCommand 0x07) s
/-- R8: CUE. -/
def execCue (s : State) : Host.Outcome State Fault Refusal :=
  hostCycle (hostWriteAt offCommand 0x08) s
/-- R8: REVIEW. -/
def execReview (s : State) : Host.Outcome State Fault Refusal :=
  hostCycle (hostWriteAt offCommand 0x09) s
/-- R12: EJECT. -/
def execEject (s : State) : Host.Outcome State Fault Refusal :=
  hostCycle (hostWriteAt offCommand 0x0A) s
/-- R25: INDEX_SEARCH. -/
def execIndexSearch (s : State) : Host.Outcome State Fault Refusal :=
  hostCycle (hostWriteAt offCommand 0x0B) s
/-- R24: GOTO. -/
def execGoto (s : State) : Host.Outcome State Fault Refusal :=
  hostCycle (hostWriteAt offCommand 0x0C) s
/-- R52: COUNTER_RESET. -/
def execCounterReset (s : State) : Host.Outcome State Fault Refusal :=
  hostCycle (hostWriteAt offCommand 0x0D) s
/-- R23: RECOVER. -/
def execRecover (s : State) : Host.Outcome State Fault Refusal :=
  hostCycle (hostWriteAt offCommand 0x0E) s

/-- R9: THREADING_COMPLETE, a qualified change of the THREADED switch. Its closing shows the UNTHREADED switch open (log
entry 41). -/
def execThreadingComplete (closed : Bool) (s : State) : Host.Outcome State Fault Refusal :=
  command (fun s =>
    let p := s.pins
    let s := s.setPins { p with threadedSw := closed, unthreadedSw := if closed then false else p.unthreadedSw }
    if closed && s.trc.st == .threading && s.trc.loadMotor == .forward then threadingDone s else s) s

/-- R12, R11: UNTHREADING_COMPLETE, a qualified change of the UNTHREADED switch. Its closing shows the THREADED switch open
(log entry 41). -/
def execUnthreadingComplete (closed : Bool) (s : State) : Host.Outcome State Fault Refusal :=
  command (fun s =>
    let p := s.pins
    let s := s.setPins { p with unthreadedSw := closed, threadedSw := if closed then false else p.threadedSw }
    if closed then unthreadedSwitch s else s) s

/-- R11: THREAD_TIMEOUT. -/
def execThreadTimeout (s : State) : Host.Outcome State Fault Refusal :=
  command (fun s =>
    match s.trc.st, s.trc.loadTimer with
    | .threading, some t => threadFailure (reachLimit t Config.threadLimit s)
    | _, _ => s) s

/-- R12: UNTHREAD_TIMEOUT. -/
def execUnthreadTimeout (s : State) : Host.Outcome State Fault Refusal :=
  command (fun s =>
    match s.trc.st, s.trc.loadTimer with
    | .unthreading, some t => latchFault .jam 0 (reachLimit t Config.threadLimit s)
    | _, _ => s) s

/-- R13: EJECT_TIMEOUT. -/
def execEjectTimeout (s : State) : Host.Outcome State Fault Refusal :=
  command (fun s =>
    match s.trc.st, s.trc.loadTimer with
    | .ejecting, some t => latchFault .jam 0 (reachLimit t Config.ejectLimit s)
    | _, _ => s) s

/-- R14: IDLE_TIMEOUT. -/
def execIdleTimeout (s : State) : Host.Outcome State Fault Refusal :=
  command (fun s =>
    match s.trc.idle with
    | some t => if s.trc.st == .stop then beginUnthread none .auto (reachLimit t Config.idleLimit s) else s
    | none => s) s

/-- R15: PAUSE_TIMEOUT. -/
def execPauseTimeout (s : State) : Host.Outcome State Fault Refusal :=
  command (fun s =>
    match s.trc.pauseT with
    | some t =>
      if s.trc.st == .still || s.trc.st == .recPause then
        enterPosting .stop .auto false (stopWriting (reachLimit t Config.idleLimit s))
      else s
    | none => s) s

/-- R17: LOCK_ALLOWANCE_EXPIRY. -/
def execLockAllowanceExpiry (motor : LockMotor) (s : State) : Host.Outcome State Fault Refusal :=
  command (fun s =>
    match motor with
    | .drum => (match s.trc.drumAllow with
      | some t => latchFault .servo 0 (reachLimit t Config.drumAllowance s)
      | none => s)
    | .capstan => (match s.trc.capAllow with
      | some t => latchFault .servo 1 (reachLimit t Config.capstanAllowance s)
      | none => s)) s

/-- R20: TAPE_LIMIT, a qualified change of END_SENSE or START_SENSE. -/
def execTapeLimit (which : TapeEnd) (active : Bool) (s : State) : Host.Outcome State Fault Refusal :=
  command (fun s =>
    match which with
    | .ending =>
      let s := s.setPins { s.pins with endSense := active }
      if active && motionDir s.trc == some .forward then tapeLimit .ending false s else s
    | .beginning =>
      let s := s.setPins { s.pins with startSense := active }
      if active && motionDir s.trc == some .backward then tapeLimit .beginning false s else s) s

/-- The MOTOR_OC inputs with one of them set or clear. -/
def setOc (oc : BitVec 4) (motor : Fin 4) (active : Bool) : BitVec 4 :=
  let bit : BitVec 4 := BitVec.ofNat 4 (2 ^ motor.val)
  if active then oc ||| bit else oc &&& ~~~bit

/-- R22, R11: MOTOR_OC, a change of one input; a rise latches a fault, or fails a threading. -/
def execMotorOc (motor : Fin 4) (active : Bool) (s : State) : Host.Outcome State Fault Refusal :=
  command (fun s =>
    let before := s.pins.motorOc
    let s := s.setPins { s.pins with motorOc := setOc before motor active }
    if active && !before.getLsbD motor.val then
      if motor = 3 && s.trc.st == .threading then threadFailure s else latchFault .overcurrent motor.val s
    else s) s

/-- R22: THERMAL, a change of the input; a rise latches a fault. -/
def execThermal (active : Bool) (s : State) : Host.Outcome State Fault Refusal :=
  command (fun s =>
    let before := s.pins.thermal
    let s := s.setPins { s.pins with thermal := active }
    if active && !before then latchFault .thermal 0 s else s) s

/-- R24: SEARCH_COUNTER_TIMEOUT. -/
def execSearchCounterTimeout (s : State) : Host.Outcome State Fault Refusal :=
  command searchTimeout s

end Sys2Proof.Machine
end

