-- ==== Sys2Proof/Machine/ExecTuner.lean ====
section
/-! DEFINITION. Machine/ExecTuner.lean: the meanings of the tuner's and the line data's rows (chapters 4 and 5). -/

namespace Sys2Proof.Machine

/-- R69: TUNE. -/
def execTune (s : State) : Host.Outcome State Fault Refusal :=
  hostCycle (hostWriteAt offCommand 0x21) s
/-- R79: SCAN. -/
def execScan (s : State) : Host.Outcome State Fault Refusal :=
  hostCycle (hostWriteAt offCommand 0x22) s
/-- R84: SCAN_STOP. -/
def execScanStop (s : State) : Host.Outcome State Fault Refusal :=
  hostCycle (hostWriteAt offCommand 0x23) s
/-- R85: STORE. -/
def execStore (s : State) : Host.Outcome State Fault Refusal :=
  hostCycle (hostWriteAt offCommand 0x24) s
/-- R76: FINE. -/
def execFine (s : State) : Host.Outcome State Fault Refusal :=
  hostCycle (hostWriteAt offCommand 0x25) s
/-- R68: SYNTH_WORD_END. -/
def execSynthWordEnd (s : State) : Host.Outcome State Fault Refusal :=
  command wordEnd s
/-- R71: SETTLE_END, with the first sample's reading. -/
def execSettleEnd (r : Reading) (s : State) : Host.Outcome State Fault Refusal :=
  command (settleEnd r) s
/-- R71: AFC_SAMPLE. -/
def execAfcSample (r : Reading) (s : State) : Host.Outcome State Fault Refusal :=
  command (afcEvent r) s
/-- R74: TRACKING_SAMPLE. -/
def execTrackingSample (r : Reading) (s : State) : Host.Outcome State Fault Refusal :=
  command (trackEvent r) s
/-- R75: NO_SIGNAL_WATCH. -/
def execNoSignalWatch (r : Reading) (s : State) : Host.Outcome State Fault Refusal :=
  command (watchEvent r) s
/-- R80: SCAN_STEP_TEST. -/
def execScanStepTest (r : Reading) (s : State) : Host.Outcome State Fault Refusal :=
  command (stepTest r) s
/-- R82: DWELL_TIMEOUT. -/
def execDwellTimeout (s : State) : Host.Outcome State Fault Refusal :=
  command dwellEnd s
/-- R157: PRESET_WRITE at an offset from preset 1. -/
def execPresetWrite (off : Nat) (data : Byte) (s : State) : Host.Outcome State Fault Refusal :=
  hostCycle (hostWriteAt (offPreset1 + off) data) s

/-- R91, R34, R48: FIELD_START at a time: a change of FIELD_ID. LDS takes each; the first field of a frame is also a frame
start of the drum servo. The one that returns the source to EXTERNAL writes a frame itself (log entry 55). -/
def fieldStart (at_ : Nat) (s : State) : State :=
  let s := reachTime at_ s
  let first := !s.pins.fieldFirst
  let s := (s.setPins { s.pins with fieldFirst := first }).setLds s.lds.fieldStart
  if first && s.srv.acceptsFrameStart s.straps.fr30 s.now then
    let s := s.setSrv (s.srv.takeFrameStart s.straps.fr30 s.now)
    if s.srv.row.frameRef && s.srv.source == .external && s.trc.writing then
      let (p, high, mark) := s.pos.writeFrame (Config.counterLimit s.straps.fr30) s.straps.fr30
      let s := (s.setPos p).setCtlOut (some high)
      match mark with
      | some m => markDone m s
      | none => s
    else s
  else s

/-- R91: FIELD_START. -/
def execFieldStart (at_ : Nat) (s : State) : Host.Outcome State Fault Refusal :=
  command (fieldStart at_) s
/-- R91: LINE_START. -/
def execLineStart (s : State) : Host.Outcome State Fault Refusal :=
  command (fun s => s.setLds s.lds.lineStart) s
/-- R93: FRAMING_CODE_FOUND. -/
def execFramingCodeFound (bits : List Bool) (s : State) : Host.Outcome State Fault Refusal :=
  command (fun s => s.setLds (s.lds.frame bits)) s
/-- R95: LINE_PACKET_COMPLETE. -/
def execLinePacketComplete (bytes : List (BitVec 9)) (s : State) : Host.Outcome State Fault Refusal :=
  command (fun s => s.setLds (s.lds.collect (inDwell s) bytes)) s

/-- R101, R111: TIME_TAKE. -/
def timeTake (s : State) : State :=
  if s.lds.clkTakes = 0 then s
  else
    let (l, p) := s.lds.takeTime (inDwell s)
    let s := s.setLds l
    match p with
    | some (.time y mo d h mi sec code) => timePacket y mo d h mi sec code s
    | _ => s

/-- R101, R136: LABEL_TAKE. -/
def labelTake (s : State) : State :=
  if s.lds.schTakes = 0 then s
  else
    let (l, p) := s.lds.takeLabel (inDwell s)
    let s := s.setLds l
    match p with
    | some (.label net mo d h mi status) => labelPacket net [mo, d, h, mi] status s
    | _ => s

/-- R111: TIME_TAKE. -/
def execTimeTake (s : State) : Host.Outcome State Fault Refusal :=
  command timeTake s
/-- R101: LABEL_TAKE. -/
def execLabelTake (s : State) : Host.Outcome State Fault Refusal :=
  command labelTake s
/-- R102: NAME_TAKE. -/
def execNameTake (s : State) : Host.Outcome State Fault Refusal :=
  command nameTake s

end Sys2Proof.Machine
end

