-- ==== Sys2Proof/Machine/Dispatch.lean ====
section
/-! DEFINITION. Machine/Dispatch.lean: one arm per command, each one call of its meaning. -/

namespace Sys2Proof.Machine

def exec (i : Instr) (s : State) : Host.Outcome State Fault Refusal :=
  match i with
  | .standbyStart levels => Sys2Proof.Machine.execStandbyStart levels s
  | .standbySupplyLoss byteInProgress => Sys2Proof.Machine.execStandbySupplyLoss byteInProgress s
  | .backupReset => Sys2Proof.Machine.execBackupReset s
  | .cassetteInsertion tab => Sys2Proof.Machine.execCassetteInsertion tab s
  | .cassetteRemoval => Sys2Proof.Machine.execCassetteRemoval s
  | .play => Sys2Proof.Machine.execPlay s
  | .record => Sys2Proof.Machine.execRecord s
  | .stop => Sys2Proof.Machine.execStop s
  | .pause => Sys2Proof.Machine.execPause s
  | .resume => Sys2Proof.Machine.execResume s
  | .ff => Sys2Proof.Machine.execFf s
  | .rew => Sys2Proof.Machine.execRew s
  | .cue => Sys2Proof.Machine.execCue s
  | .review => Sys2Proof.Machine.execReview s
  | .eject => Sys2Proof.Machine.execEject s
  | .indexSearch => Sys2Proof.Machine.execIndexSearch s
  | .goto => Sys2Proof.Machine.execGoto s
  | .counterReset => Sys2Proof.Machine.execCounterReset s
  | .recover => Sys2Proof.Machine.execRecover s
  | .threadingComplete closed => Sys2Proof.Machine.execThreadingComplete closed s
  | .unthreadingComplete closed => Sys2Proof.Machine.execUnthreadingComplete closed s
  | .threadTimeout => Sys2Proof.Machine.execThreadTimeout s
  | .unthreadTimeout => Sys2Proof.Machine.execUnthreadTimeout s
  | .ejectTimeout => Sys2Proof.Machine.execEjectTimeout s
  | .idleTimeout => Sys2Proof.Machine.execIdleTimeout s
  | .pauseTimeout => Sys2Proof.Machine.execPauseTimeout s
  | .lockAllowanceExpiry motor => Sys2Proof.Machine.execLockAllowanceExpiry motor s
  | .tapeLimit which active => Sys2Proof.Machine.execTapeLimit which active s
  | .motorOc motor active => Sys2Proof.Machine.execMotorOc motor active s
  | .thermal active => Sys2Proof.Machine.execThermal active s
  | .searchCounterTimeout => Sys2Proof.Machine.execSearchCounterTimeout s
  | .mainGoodFall => Sys2Proof.Machine.execMainGoodFall s
  | .mainGoodRise => Sys2Proof.Machine.execMainGoodRise s
  | .railTimeout => Sys2Proof.Machine.execRailTimeout s
  | .hostResetRelease => Sys2Proof.Machine.execHostResetRelease s
  | .drumFgPulse at_ => Sys2Proof.Machine.execDrumFgPulse at_ s
  | .drumFgGap => Sys2Proof.Machine.execDrumFgGap s
  | .capstanFgPulse at_ => Sys2Proof.Machine.execCapstanFgPulse at_ s
  | .capstanFgGap => Sys2Proof.Machine.execCapstanFgGap s
  | .drumPgPulse at_ => Sys2Proof.Machine.execDrumPgPulse at_ s
  | .frameReferencePulse => Sys2Proof.Machine.execFrameReferencePulse s
  | .frameReferenceTimeout => Sys2Proof.Machine.execFrameReferenceTimeout s
  | .reelMark reel at_ => Sys2Proof.Machine.execReelMark reel at_ s
  | .reelStall reel => Sys2Proof.Machine.execReelStall reel s
  | .ctlReadPulse rise high => Sys2Proof.Machine.execCtlReadPulse rise high s
  | .runDownEnd => Sys2Proof.Machine.execRunDownEnd s
  | .extrapolationStart => Sys2Proof.Machine.execExtrapolationStart s
  | .extrapolatedFrame => Sys2Proof.Machine.execExtrapolatedFrame s
  | .unsureSet => Sys2Proof.Machine.execUnsureSet s
  | .profileWrite off data => Sys2Proof.Machine.execProfileWrite off data s
  | .tune => Sys2Proof.Machine.execTune s
  | .scan => Sys2Proof.Machine.execScan s
  | .scanStop => Sys2Proof.Machine.execScanStop s
  | .store => Sys2Proof.Machine.execStore s
  | .fine => Sys2Proof.Machine.execFine s
  | .synthWordEnd => Sys2Proof.Machine.execSynthWordEnd s
  | .settleEnd r => Sys2Proof.Machine.execSettleEnd r s
  | .afcSample r => Sys2Proof.Machine.execAfcSample r s
  | .trackingSample r => Sys2Proof.Machine.execTrackingSample r s
  | .noSignalWatch r => Sys2Proof.Machine.execNoSignalWatch r s
  | .scanStepTest r => Sys2Proof.Machine.execScanStepTest r s
  | .dwellTimeout => Sys2Proof.Machine.execDwellTimeout s
  | .presetWrite off data => Sys2Proof.Machine.execPresetWrite off data s
  | .fieldStart at_ => Sys2Proof.Machine.execFieldStart at_ s
  | .lineStart => Sys2Proof.Machine.execLineStart s
  | .linePacketComplete bytes => Sys2Proof.Machine.execLinePacketComplete bytes s
  | .timeTake => Sys2Proof.Machine.execTimeTake s
  | .labelTake => Sys2Proof.Machine.execLabelTake s
  | .nameTake => Sys2Proof.Machine.execNameTake s
  | .secondAdvance => Sys2Proof.Machine.execSecondAdvance s
  | .setTime => Sys2Proof.Machine.execSetTime s
  | .claim => Sys2Proof.Machine.execClaim s
  | .commit => Sys2Proof.Machine.execCommit s
  | .discard => Sys2Proof.Machine.execDiscard s
  | .delete => Sys2Proof.Machine.execDelete s
  | .abort => Sys2Proof.Machine.execAbort s
  | .programmeWrite off data => Sys2Proof.Machine.execProgrammeWrite off data s
  | .claimExpiry => Sys2Proof.Machine.execClaimExpiry s
  | .occurrenceStart => Sys2Proof.Machine.execOccurrenceStart s
  | .occurrenceStartDue => Sys2Proof.Machine.execOccurrenceStartDue s
  | .occurrenceStopReached => Sys2Proof.Machine.execOccurrenceStopReached s
  | .absenceTimeout => Sys2Proof.Machine.execAbsenceTimeout s
  | .labelLossTimeout => Sys2Proof.Machine.execLabelLossTimeout s
  | .labelOverrunLimit => Sys2Proof.Machine.execLabelOverrunLimit s
  | .liveRead addr => Sys2Proof.Machine.execLiveRead addr s
  | .partOwnedWrite off data => Sys2Proof.Machine.execPartOwnedWrite off data s
  | .hostWrite addr data => Sys2Proof.Machine.execHostWrite addr data s
  | .settingsWrite off data => Sys2Proof.Machine.execSettingsWrite off data s
  | .unknownCommand code => Sys2Proof.Machine.execUnknownCommand code s
  | .eventAck seq => Sys2Proof.Machine.execEventAck seq s
  | .postedWriteDrain => Sys2Proof.Machine.execPostedWriteDrain s
  | .slotGrant => Sys2Proof.Machine.execSlotGrant s
  | .powerOff => Sys2Proof.Machine.execPowerOff s
  | .powerOffComplete => Sys2Proof.Machine.execPowerOffComplete s
  | .keyPress samples => Sys2Proof.Machine.execKeyPress samples s
  | .framingCodeFound bits => Sys2Proof.Machine.execFramingCodeFound bits s

end Sys2Proof.Machine
end

