-- ==== Sys2Proof/Machine/Tick.lean ====
section
/-! DEFINITION. Machine/Tick.lean: one period of the 32,768 Hz crystal (R104, R105): what the part does while no command
waits (log entry 3). -/

namespace Sys2Proof.Machine

/-- R104: the crystal periods of one second. -/
def crystalHz : Nat := 32768

/-- The µs from the start of a second to the end of its `n`-th crystal period, whole µs: n / 32,768 s. -/
def crystalMicros (n : Nat) : Nat := n * 15625 / 512

/-- R30: a PWM period of the powered part starts, with each crystal period (log entry 36). -/
def pwmPeriod (s : State) : State := if powered s then s.setSrv s.srv.loadPwm else s

/-- R105: one crystal period: the sub-second count rises, and at its wrap the second advances. -/
def tick (s : State) : State :=
  let k := s.clk.sub
  let s := pwmPeriod (s.setNow (s.now + (crystalMicros (k + 1) - crystalMicros k)))
  if k + 1 < crystalHz then s.setClk { s.clk with sub := k + 1 } else secondAdvance s

end Sys2Proof.Machine
end

