-- ==== Sys2Proof/Machine/Outputs.lean ====
section
/-! DEFINITION. Machine/Outputs.lean: the levels that the part's output pins carry (00_scope.md 0.8), as functions of its
state. Each follows from registers that State holds. -/

namespace Sys2Proof.Machine

/-! ### Motor drive (R30) -/

/-- R30: a PWM output at tick `n` of its period of 1024 whose duty is `duty`: high for the first `duty` ticks (log
entry 36). -/
def pwmLevel (duty n : Nat) : Bool := n % 1024 < duty

/-- The level of the drum PWM. -/
def drumPwm (s : State) (n : Nat) : Bool := pwmLevel s.srv.drumPwm n
/-- The level of the capstan PWM. -/
def capstanPwm (s : State) (n : Nat) : Bool := pwmLevel s.srv.capPwm n
/-- The level of the reel PWM. -/
def reelPwm (s : State) (n : Nat) : Bool := pwmLevel s.srv.reelPwm n
/-- The direction that the reel direction output shows. -/
def reelDirection (s : State) : Dir := s.srv.dir
/-- The load motor forward output. -/
def loadForward (s : State) : Bool := s.trc.loadMotor == .forward
/-- The load motor reverse output. -/
def loadReverse (s : State) : Bool := s.trc.loadMotor == .reverse
/-- The brake output. -/
def brakeLevel (s : State) : Bool := s.trc.brake

/-! ### The synthesiser link (R68) -/

/-- R68: the band byte of a word. -/
def Band.linkByte : Band → Byte
  | .low => 0x11 | .mid => 0x12 | .high => 0x14

/-- R68: the four bytes of a word, in the order they are sent. -/
def SynthWord.bytes (w : SynthWord) : List Byte := le16 w.divider ++ [w.band.linkByte, 0xC2]

/-- R68: the bits of a byte as TDAT carries them, most significant bit first. -/
def bitsMsbFirst (b : Byte) : List Bool := (List.range 8).map fun i => b.getLsbD (7 - i)

/-- R68: the 32 bits of the word being sent; TEN is raised for them. None while no word is sent. -/
def linkBits (s : State) : List Bool :=
  match s.tun.sending with
  | none => []
  | some w => w.bytes.flatMap bitsMsbFirst

/-- R68: TEN. -/
def tenLevel (s : State) : Bool := s.tun.sending.isSome

/-! ### Host control and power -/

/-- DECK_IRQ (R175). -/
def deckIrq (s : State) : Bool := s.rqu.irq
/-- HWAIT (R165). -/
def hwaitLevel (s : State) : Bool := s.mpath.hwait
/-- HRST# is asserted (10.1). -/
def hostReset (s : State) : Bool := s.pwr.hrst
/-- MAIN_EN (10.1). -/
def mainEnable (s : State) : Bool := s.pwr.mainEn

end Sys2Proof.Machine
end

