-- ==== Sys2Proof/WellFormed.lean ====
section
/-! DEFINITION. WellFormed.lean: the operand ranges of the rows. A command outside them is no event of its row; `exec`
still answers it, by the address or the bits it carries. -/

namespace Sys2Proof

/-- R192: the codes of 11.2 that name a command. -/
def knownCommand (code : Byte) : Bool :=
  let c := code.toNat
  (1 ≤ c && c ≤ 0x0E) || (0x21 ≤ c && c ≤ 0x25) || c == 0x31 || (0x41 ≤ c && c ≤ 0x45) || c == 0x51

/-- R153: the offsets a host write is blocked at with reason OWNER: the part-owned bytes and the live block. -/
def ownerBlocked (off : Nat) : Bool :=
  off < 0x010 || (0x018 ≤ off && off < 0x01B) || (0x020 ≤ off && off < 0x060) ||
  (0x100 ≤ off && off < 0x200) || (0xC00 ≤ off && off < 0xE00)

/-- The operands of a command lie in the ranges of its row. -/
def WellFormed : Instr → Bool
  | .profileWrite off _ => off < 128
  | .presetWrite off _ => off < 1584
  | .programmeWrite off _ => off < 512
  | .settingsWrite off _ => off < 32
  | .partOwnedWrite off _ => ownerBlocked off
  | .unknownCommand code => !knownCommand code
  | .linePacketComplete bytes => 1 ≤ bytes.length && bytes.length ≤ 16
  | .framingCodeFound bits => 24 ≤ bits.length
  | .keyPress samples => !samples.isEmpty
  | _ => true

end Sys2Proof
end

