-- ==== Sys2Proof/Safety.lean ====
section
/-! DEFINITION. Safety.lean: what a safe run keeps, and the words the claims are stated in: which parts of the machine an
event leaves alone, what it posts, and when nothing else is at work. -/

namespace Sys2Proof.Machine

/-! ### Frames -/

/-- The parts of the machine. -/
inductive Part where
  | pending | now | free | untold | mem | hd | ctlOut | pins | straps | trc | srv | pos | tun | lds | clk | sch | mpath
  | rqu | pwr
  deriving DecidableEq, Repr

/-- A part of the machine stands alike in two states. -/
def Part.same (s t : State) : Part → Prop
  | .pending => t.pending = s.pending
  | .now => t.now = s.now
  | .free => t.free = s.free
  | .untold => t.notices = s.notices ∧ t.taken = s.taken
  | .mem => t.mem = s.mem
  | .hd => t.hd = s.hd
  | .ctlOut => t.ctlOut = s.ctlOut
  | .pins => t.pins = s.pins
  | .straps => t.straps = s.straps
  | .trc => t.trc = s.trc
  | .srv => t.srv = s.srv
  | .pos => t.pos = s.pos
  | .tun => t.tun = s.tun
  | .lds => t.lds = s.lds
  | .clk => t.clk = s.clk
  | .sch => t.sch = s.sch
  | .mpath => t.mpath = s.mpath
  | .rqu => t.rqu = s.rqu
  | .pwr => t.pwr = s.pwr

/-- Every part but the listed ones stands as before. -/
def SameBut (ps : List Part) (s t : State) : Prop := ∀ p : Part, p ∉ ps → p.same s t

/-- Every RAM byte but that of one address stands as before, and that one holds `v`. -/
def RamWritten (a : Nat) (v : Byte) (s t : State) : Prop :=
  t.mem.read a = v ∧ ∀ x, x ≠ a → t.mem.read x = s.mem.read x

/-! ### When nothing else is at work -/

/-- No occurrence runs, no entry waits in the timer queue, and no block has anything untold for SCH. -/
structure ScheduleIdle (s : State) : Prop where
  run : s.sch.run = none
  queue : s.sch.queue = []
  notices : s.notices = []
  taken : s.taken = []

/-- The part is powered, and no power change is under way that another event could complete. -/
structure PowerSteady (s : State) : Prop where
  powered : s.pwr.power ≠ .backup
  notStopping : s.pwr.phase ≠ .stopping
  notResetHold : s.pwr.phase ≠ .resetHold

/-- Nothing waits to drain or to be handed (R162). -/
structure Drained (s : State) : Prop where
  queue : s.mpath.queue = []
  grants : s.mpath.grants = []

/-- The host runs (10.1), and nothing waits to drain. -/
structure HostRuns (s : State) : Prop where
  power : s.pwr.power = .on
  phase : s.pwr.phase = .running
  drained : Drained s
  ram : s.mem.wf = true

/-- The event queue takes `n` more events as they are (R171, R172). -/
structure EventRoom (n : Nat) (s : State) : Prop where
  overflow : s.rqu.overflow = none
  count : s.rqu.count + n ≤ 31

/-- The lines that an event leaves: none of them has to change (R165, R175). -/
structure LinesStand (s : State) : Prop where
  irq : s.rqu.irq = irqLevel s
  urgent : s.mpath.urgent = urgentLevel s
  hwait : s.mpath.hwait = urgentLevel s
  cycleOpen : s.mpath.cycleOpen = true → s.mpath.hwait = true

/-! ### What an event posts -/

/-- R171, 11.6: the write group of an event appended `i` places after the tail. -/
def eventGroupAt (s : State) (i : Nat) (e : Event) : WriteGroup :=
  mkGroup (offRing + 8 * ((s.rqu.head + (s.rqu.count + i)) % 32))
    (entryBytes ((s.rqu.headSeq + (s.rqu.count + i)) % 256) e s.clk.time)

/-- R171: the write groups of events appended one after another at the tail. -/
def eventGroups (s : State) (evs : List Event) : List WriteGroup := evs.mapIdx (eventGroupAt s)

/-- R169: the result group of an answer. -/
def resultGroup (a : Answer) (tag : Byte) : WriteGroup :=
  mkGroup offResult [Byte.of a.result.code, tag, Byte.of a.detail]

/-- The event queue after the events of one event: nothing of RQU but its count, its newest entry and the line changes. -/
def Appended (evs : List Event) (s t : State) : Prop :=
  t.rqu = { s.rqu with
    count := s.rqu.count + evs.length, newest := evs.getLastD s.rqu.newest, irq := irqLevel t }

/-- Log entry 6: whether a host cycle that comes after an event, which is no host cycle, may be the one in progress of
R165: that was so before, or the event asserted HWAIT while the host ran and runs on. -/
def openAfter (s t : State) : Bool :=
  urgentLevel t && (s.mpath.cycleOpen || (!s.mpath.hwait && hostRuns s && hostRuns t))

/-- What waits to drain after an event that found nothing waiting and is no host cycle. -/
def Handed (groups : List WriteGroup) (s t : State) : Prop :=
  t.mpath = { s.mpath with
    queue := groups, urgent := urgentLevel t, hwait := urgentLevel t, cycleOpen := openAfter s t }

/-- The events an event posted, and nothing else of RQU and MPATH. -/
def Posted (evs : List Event) (s t : State) : Prop := Appended evs s t ∧ Handed (eventGroups s evs) s t

/-- R154, R161: a host write cycle passed to the RAM: the byte stands at the offset, the latch is released, and nothing
else of the RAM and MPATH changed but the shadow of the settings. -/
def WritePassed (off : Nat) (data : Byte) (settings : Memory) (groups : List WriteGroup) (s t : State) : Prop :=
  RamWritten (windowBase s + off) data s t
  ∧ t.mpath = { s.mpath with
      settings := settings, latch := none, queue := groups, urgent := urgentLevel t, hwait := urgentLevel t,
      cycleOpen := false }

/-- R168, R169: a request's code stands in COMMAND; the groups of what it caused were handed first, the result last;
`evs` are the events it posted. Nothing else of the RAM, RQU and MPATH changed. -/
def Answered (code : Byte) (evs : List Event) (groups : List WriteGroup) (a : Answer) (s t : State) : Prop :=
  WritePassed offCommand code s.mpath.settings (groups ++ [resultGroup a s.rqu.tag]) s t ∧ Appended evs s t

/-- R155, R158: a host write was blocked: the RAM is unchanged, the latch is released, and PROTECT is posted. -/
def Blocked (r : ProtectReason) (off : Nat) (data : Byte) (s t : State) : Prop :=
  Appended [evProtect r off data] s t
  ∧ t.mpath = { s.mpath with
      latch := none, queue := eventGroups s [evProtect r off data], urgent := urgentLevel t, hwait := urgentLevel t,
      cycleOpen := false }

/-- No entry is WAITING, so that the timer queue has none to hold (R127). -/
def NoneWaiting (s : State) : Prop := ∀ k : Fin 16, (entry k s).state ≠ .waiting

/-- R128: in the second that begins now, entry `k`, the one that waits, comes due for its occurrence that starts at `start`,
while no occurrence runs, and the transport is at rest in UNTHREADED under PANEL. -/
structure ComesDue (k : Fin 16) (start : Nat) (s : State) : Prop where
  run : s.sch.run = none
  queue : s.sch.queue = [k]
  untold : s.notices = [] ∧ s.taken = []
  claim : s.sch.claim = none
  waiting : (entry k s).state = .waiting
  alone : ∀ j : Fin 16, j ≠ k → (entry j s).state ≠ .waiting
  next : (entry k s).next = some start
  lead : start ≤ clockNow s + 1 + setLead s.mpath.settings
  ahead : clockNow s + 1 < start
  stop : clockNow s + 1 < stopOf s.sch.prog k start
  time : s.clk.time.wf = true
  limit : s.clk.time ≠ limitTime
  power : s.pwr.power = .standby ∨ s.pwr.power = .on ∧ s.pwr.phase = .running
  owner : s.trc.owner = .panel
  state : s.trc.st = .unthreaded
  row : s.srv.row = .allOff
  drained : Drained s
  lines : LinesStand s
  room : EventRoom 2 s

/-- R196: the write group of an entry's status. -/
def statusGroup (k : Fin 16) (e : Entry) : WriteGroup := mkGroup (offProgrammes + 32 * k.val + 20) (statusBytes e)

/-- The status of every entry but `k` stands, and `k` has the status `e`. -/
def EntrySet (k : Fin 16) (e : Entry) (s t : State) : Prop :=
  entry k t = e ∧ ∀ j : Fin 16, j ≠ k → entry j t = entry j s

/-- R163: the address and the value of the byte that drains next. -/
def nextDrain (s : State) : Option (Nat × Byte) :=
  match s.mpath.queue with
  | [] => none
  | g :: _ => (firstPending g.bytes).map fun (i, v) => (windowBase s + (g.start + i), v)

/-! ### What every step keeps -/

/-- The RAM and every shadow of a RAM table stand in canonical form. -/
structure MemoriesWf (s : State) : Prop where
  mem : s.mem.wf = true
  settings : s.mpath.settings.wf = true
  profiles : s.pos.profiles.wf = true
  presets : s.tun.presets.wf = true
  prog : s.sch.prog.wf = true

/-- R162, R167, R171, R172: the posted-write queue holds at most 4 groups, and the event queue at most 31 events, or
32 while it holds an OVERFLOW. -/
structure QueuesWf (s : State) : Prop where
  posted : s.mpath.queue.length ≤ 4
  head : s.rqu.head < 32
  headSeq : s.rqu.headSeq < 256
  count : s.rqu.count ≤ 32
  full : s.rqu.overflow = none → s.rqu.count ≤ 31
  refused : s.rqu.refused ≤ 255

/-- R30, R31, R32, R42, R51, R55: each duty, and each duty that an output carries, lies in 0..1023, the counter within its
limits, and the mark window holds at most 60 pulses. -/
structure ServoWf (s : State) : Prop where
  drumDuty : s.srv.drumDuty ≤ 1023
  capDuty : s.srv.capDuty ≤ 1023
  reelDuty : s.srv.reelDuty ≤ 1023
  drumPwm : s.srv.drumPwm ≤ 1023
  capPwm : s.srv.capPwm ≤ 1023
  reelPwm : s.srv.reelPwm ≤ 1023
  counterLow : -(Config.counterLimit s.straps.fr30) ≤ s.pos.counter
  counterHigh : s.pos.counter ≤ Config.counterLimit s.straps.fr30
  window : s.pos.window.length ≤ 60

/-- R104, R105, R107: the clock holds a date-time of its range, and the sub-second count lies in 0..32767. -/
structure ClockWf (s : State) : Prop where
  time : s.clk.time.wf = true
  sub : s.clk.sub < 32768

/-- R100, R103: the packet FIFO holds at most 8 packets, no two of one type and network, and of the takes that are due at most
all have been left with nothing to find. -/
structure FifoWf (s : State) : Prop where
  length : s.lds.fifo.length ≤ 8
  apart : s.lds.fifo.Pairwise fun p q => p.alike q = false
  clkVoid : s.lds.clkVoid ≤ s.lds.clkTakes
  schVoid : s.lds.schVoid ≤ s.lds.schTakes
  tunVoid : s.lds.tunVoid ≤ s.lds.tunTakes

/-- R90, R103: the slicer is OFF exactly while the tuner is not LOCKED, and then nothing is under assembly and the FIFO
is empty. -/
structure SlicerWf (s : State) : Prop where
  follows : s.lds.st = .off ↔ s.tun.st ≠ .locked
  off : s.lds.st = .off → s.lds.fifo = [] ∧ s.lds.asm = .idle

/-- R16, R22, R1: TRC writes in RECORD alone, holds a fault latched exactly in FAULT, and drives the load motor in
THREADING, UNTHREADING and EJECTING alone. -/
structure TransportWf (s : State) : Prop where
  writing : s.trc.writing = true → s.trc.st = .record
  fault : s.trc.fault.isSome = true ↔ s.trc.st = .fault
  loadMotor : s.trc.loadMotor ≠ .off → s.trc.st = .threading ∨ s.trc.st = .unthreading ∨ s.trc.st = .ejecting

/-- No block leaves an event with something untold (log entry 9). -/
def NothingUntold (s : State) : Prop := s.notices = [] ∧ s.taken = []

/-! ### Standby starts (R180 to R183) -/

/-- What a standby start leaves whatever the region holds. -/
def Started (l : PinLevels) (s t : State) : Prop :=
  t.straps = ⟨l.wb, l.fr30⟩ ∧ t.pins = pinsAt l ∧ t.trc = trcAt s.now l ∧ t.mem = s.mem ∧ t.pending = s.pending
  ∧ t.now = s.now ∧ t.free = s.free ∧ t.mpath.latch = none ∧ NothingUntold t

/-- The part is in BACKUP over a region that carries the layout signature, its clock is valid, no record
is retained, and the state byte of each entry is one of R197's. -/
structure RegionFound (l : PinLevels) (s : State) : Prop where
  backup : s.pwr.power = .backup
  signature : s.mem.bytes (4096 * l.wb.toNat) 16 = signature
  valid : s.clk.valid = true
  retained : s.clk.retained.valid = false
  states : ∀ k, k < 16 → (s.mem.read (4096 * l.wb.toNat + 0x214 + 32 * k)).toNat ≤ 6

/-- R197: the status of an entry as the region holds it. -/
def foundEntry (l : PinLevels) (s : State) (k : Fin 16) : Entry := loadEntry s.mem (4096 * l.wb.toNat + 0x214 + 32 * k.val)

/-- R86: the presets 1 to 99 as the region holds them. -/
def foundPresets (l : PinLevels) (s : State) : Memory :=
  (s.mem.slice (4096 * l.wb.toNat + 0x400) 1600).filter fun c => 16 ≤ c.1

/-- R86: the offset byte of each preset lies in −24..+24. -/
def OffsetsGood (l : PinLevels) (s : State) : Prop :=
  ∀ n, 1 ≤ n → n ≤ 99 → -24 ≤ (s.mem.read (4096 * l.wb.toNat + 0x403 + 16 * n)).toInt
    ∧ (s.mem.read (4096 * l.wb.toNat + 0x403 + 16 * n)).toInt ≤ 24

/-- R86: of all presets, `n` alone has an offset byte out of −24..+24. -/
def OneBadOffset (n : Nat) (l : PinLevels) (s : State) : Prop :=
  ∀ i, 1 ≤ i → i ≤ 99 → (i = n ↔ ¬ (-24 ≤ (s.mem.read (4096 * l.wb.toNat + 0x403 + 16 * i)).toInt
    ∧ (s.mem.read (4096 * l.wb.toNat + 0x403 + 16 * i)).toInt ≤ 24))

/-- R181: what a standby start over a region with the signature loads from it, the entries and the presets apart, and what
it leaves beside. -/
def Loaded (l : PinLevels) (s t : State) : Prop :=
  let b := 4096 * l.wb.toNat
  let settings := s.mem.slice (b + 0x060) 32
  Started l s t ∧ t.pwr = { Pwr.start with regionReady := true } ∧ t.clk = s.clk.logicStart
  ∧ (t.rqu.tag = s.mem.read (b + 0x010) ∧ t.rqu.arg0 = s.mem.read (b + 0x011) ∧ t.rqu.arg1 = s.mem.read (b + 0x012)
    ∧ t.rqu.arg2 = s.mem.read (b + 0x013) ∧ t.rqu.arg3 = s.mem.read (b + 0x014) ∧ t.rqu.arg4 = s.mem.read (b + 0x015)
    ∧ t.rqu.arg5 = s.mem.read (b + 0x016) ∧ t.rqu.head = 0 ∧ t.rqu.headSeq = 0 ∧ t.rqu.overflow = none
    ∧ t.rqu.refused = 0 ∧ t.rqu.held = [] ∧ t.rqu.irq = false)
  ∧ t.mpath.settings = settings ∧ t.mpath.grants = []
  ∧ t.lds = { Lds.start with window := setWindow settings, field := setWindow settings }
  ∧ t.srv = { Srv.start s.now with speed := setSpeed settings, origin := .default }
  ∧ t.pos = { Pos.start with profiles := s.mem.slice (b + 0x080) 128 }
  ∧ t.tun = { Tun.start with presets := t.tun.presets }
  ∧ t.sch.prog = ((s.mem.slice (b + 0x200) 512).filter fun c => c.1 % 32 ≤ 16)
  ∧ t.sch.run = none ∧ t.sch.claim = none ∧ t.sch.held = []

/-- R146, R148: what waits to drain after a standby start that ended an occurrence of entry `k`: PROGRAMME, the log record at
the slot found (R148), LOGGED, and the entry's status. -/
def ending (l : PinLevels) (s : State) (k : Fin 16) (e : Event) (f : LogFacts) (status : Entry) : List WriteGroup :=
  let s₀ := startValues l s
  let (slot, seq) := recoverLog s₀
  [eventGroupAt s₀ 0 e,
   mkGroup (0xC00 + 32 * slot) (logBytes (s.mem.slice (4096 * l.wb.toNat + 0x200) 512) k seq f),
   eventGroupAt s₀ 1 (evLogged slot seq k), statusGroup k status]

end Sys2Proof.Machine
end

