-- ==== Sys2Proof/Certificates/Slice0/Obligations.lean ====
section
/-! DEFINITION. Certificates/Slice0/Obligations.lean: the statements for the provers. `ScheduleIdle`, `HostRuns`,
`Posted` and the other words they are stated in stand in Safety.lean. -/

open Sys2Proof Sys2Proof.Machine

/-! ### The machine as a whole -/

/-- A step runs the command that has waited longest, on the machine with the rest of the queue. -/
def Obligations.StepRunsFrontCommand : Prop :=
  ∀ (c : Instr) (rest : List Instr) (s : State), s.pending = c :: rest → step s = exec c (s.setPending rest)

/-- The model's own choice (log entries 3 and 36), from R104, R105 and R30: with no command waiting, a step is one period of
the 32,768 Hz crystal, and while the part is powered a PWM period, at whose start the outputs take the duties that stand;
at the wrap of the sub-second count the second advances, as the command SECOND_ADVANCE has it. -/
def Obligations.IdleStepIsOneCrystalPeriod : Prop :=
  ∀ s : State, s.pending = [] →
    (s.clk.sub < 32767 →
      ∃ t, step s = .next t ∧ t.clk = { s.clk with sub := s.clk.sub + 1 }
        ∧ t.now = s.now + ((s.clk.sub + 1) * 15625 / 512 - s.clk.sub * 15625 / 512)
        ∧ t.srv = (if s.pwr.power = .backup then s.srv else
            { s.srv with drumPwm := s.srv.drumDuty, capPwm := s.srv.capDuty, reelPwm := s.srv.reelDuty })
        ∧ SameBut [.clk, .now, .srv] s t)
    ∧ (s.clk.sub = 32767 → step s = exec .secondAdvance (pwmPeriod (s.setNow (s.now + 31))))

/-- R104, and log entry 8: after reset the backup domain holds its backup-reset values, the power state is BACKUP, and
nothing waits. The power state and the empty RAM are the model's choice.
And what every step keeps holds at reset. -/
def Obligations.ResetLeavesBackupValues : Prop :=
  (State.reset.clk.time = ⟨0, 1, 1, 0, 0, 0⟩ ∧ State.reset.clk.sub = 0 ∧ State.reset.clk.valid = false
    ∧ State.reset.clk.limit = false ∧ State.reset.clk.code = none ∧ State.reset.clk.retained.valid = false
    ∧ State.reset.clk.sample = none ∧ State.reset.clk.deferred = none ∧ State.reset.clk.running = false
    ∧ State.reset.pwr.power = .backup ∧ State.reset.pending = [] ∧ State.reset.mem = [])
  ∧ (MemoriesWf State.reset ∧ QueuesWf State.reset ∧ ServoWf State.reset ∧ ClockWf State.reset ∧ FifoWf State.reset
    ∧ SlicerWf State.reset ∧ TransportWf State.reset ∧ NothingUntold State.reset)

/-- Every step keeps the RAM and the shadows in canonical form. -/
def Obligations.EveryStepKeepsMemoriesCanonical : Prop :=
  ∀ s t : State, MemoriesWf s → step s = .next t → MemoriesWf t

/-- Every step keeps the posted-write queue at 4 groups at most and the event queue at 31 events at most, or 32 while it
holds an OVERFLOW (R162, R167, R171, R172), and leaves nothing untold. -/
def Obligations.EveryStepKeepsQueueBounds : Prop :=
  ∀ s t : State, QueuesWf s → NothingUntold s → step s = .next t → QueuesWf t ∧ NothingUntold t

/-- Every step keeps the duties, and the duties that the outputs carry, in 0..1023, the counter within its limits and the
mark window at 60 pulses at most (R30, R31, R32, R36, R42, R51, R55). -/
def Obligations.EveryStepKeepsServoAndCounterBounds : Prop :=
  ∀ s t : State, ServoWf s → step s = .next t → ServoWf t

/-- R107: the clock always holds a valid date and time of its range, whatever step is taken. -/
def Obligations.EveryStepKeepsClockValid : Prop :=
  ∀ s t : State, ClockWf s → step s = .next t → ClockWf t

/-- R90, R100, R103: the slicer follows the tuner's LOCKED, and the FIFO holds at most 8 packets, no two alike. -/
def Obligations.EveryStepKeepsSlicerAndFifo : Prop :=
  ∀ s t : State, FifoWf s → SlicerWf s → step s = .next t → FifoWf t ∧ SlicerWf t

/-- R16, R22: TRC writes in RECORD alone, and holds a fault latched exactly in FAULT. -/
def Obligations.EveryStepKeepsTransportRules : Prop :=
  ∀ s t : State, TransportWf s → step s = .next t → TransportWf t

/-! ### Power: the supplies, the start and the end of the host (chapters 6 and 10) -/

/-- R104: a backup reset in BACKUP gives the backup domain its values, and touches nothing else; that the RAM stands over
it is the model's choice (log entry 22).
10.2: in BACKUP the logic is unpowered: no command but the standby start, the backup reset and the clock's second
changes anything.
R179: a loss of the standby supply: BACKUP; the RAM write of the byte in progress completes; the posted-write queue,
every held write and every event is lost; the clock and the retained record stay. That the unpowered logic is shown at its
standby-start values is the model's choice (log entry 8). -/
def Obligations.BackupDomainOutlivesTheSupply : Prop :=
  (∀ s : State, s.pwr.power = .backup →
      ∃ t, exec .backupReset s = .next t
        ∧ t.clk.time = ⟨0, 1, 1, 0, 0, 0⟩ ∧ t.clk.sub = 0 ∧ t.clk.valid = false ∧ t.clk.limit = false
        ∧ t.clk.code = none ∧ t.clk.retained.valid = false ∧ t.clk.sample = none ∧ t.clk.deferred = none
        ∧ t.clk.running = false ∧ SameBut [.clk] s t)
  ∧ (∀ (c : Instr) (s : State), s.pwr.power = .backup → (∀ l, c ≠ .standbyStart l) → c ≠ .backupReset →
      c ≠ .secondAdvance → exec c s = .next s)
  ∧ (∀ (byteInProgress : Bool) (s : State), s.pwr.power ≠ .backup → s.mem.wf = true →
      ∃ t, exec (.standbySupplyLoss byteInProgress) s = .next t
        ∧ t.pwr.power = .backup ∧ t.pwr.mainEn = false ∧ t.mpath.queue = [] ∧ t.mpath.grants = []
        ∧ t.rqu.held = [] ∧ t.sch.held = [] ∧ t.tun.held = [] ∧ t.pwr.held = [] ∧ t.rqu.count = 0
        ∧ t.clk = { s.clk with sample := none, deferred := none, running := false }
        ∧ t.pins = { s.pins with stbyGood := false, mainGood := false }
        ∧ t.pending = s.pending ∧ t.now = s.now ∧ t.free = s.free
        ∧ (byteInProgress = false → t.mem = s.mem)
        ∧ (byteInProgress = true → nextDrain s = none → t.mem = s.mem)
        ∧ (byteInProgress = true → ∀ a v, nextDrain s = some (a, v) → RamWritten a v s t))

/-- R180, R1, R182: a standby start over a region that does not carry the layout signature. TRC's state follows the
switches; every block stands at its start values; the initialisation groups are handed in order, the first four to the
queue and the rest held; the RAM and the clock's time are as they were.
R181, R86: one over a region that carries it, with a valid clock, no retained record and no entry but EMPTY and ENDED ones:
the copies, the shadows and the entries are loaded and nothing is written, but for the one byte that corrects the offset of
a preset out of its range. R183, R150: with one other entry, found in DRAFT it becomes EMPTY; a once entry found in PREROLL,
ACTIVE or PAUSED ends POWER_FAIL, SUPPLY_LOST, and one WAITING whose occurrence passed meanwhile ends MISSED, SUPPLY_OFF, each
with PROGRAMME, its log record, LOGGED and its status; one WAITING whose occurrence lies ahead is in the timer queue.
That the brake is released at a standby start is the model's choice (log entry 25), and so is all that log entry 8 gives it:
the direction output forward, the phase that the model shows outside ON, and MAIN_GOOD, AFT_HI, AFT_LO and SYNC_OK taken as
absent, which the pins then show. So is the last-run date that an entry found ACTIVE or PAUSED keeps when its next occurrence
is no valid date-time (log entry 63), and the next occurrence field of a once entry that ends, none though its occurrence may
still be open (log entry 68). -/
def Obligations.StandbyStartInitialisesBlankRegion : Prop :=
  (∀ (l : PinLevels) (s : State), s.pwr.power = .backup → s.mem.bytes (4096 * l.wb.toNat) 16 ≠ signature →
    ∃ t, exec (.standbyStart l) s = .next t
      ∧ t.trc.st = (if l.unthreadedSw then (if l.cassSw then .unthreaded else .noCassette) else .unthreading)
      ∧ t.trc.owner = .panel ∧ t.trc.cassette = l.cassSw ∧ t.trc.tab = (l.cassSw && l.tabSw)
      ∧ t.mpath.settings = defaultSettings
      ∧ t.mpath.queue = initGroups.take 4 ∧ t.rqu.count = (if s.clk.valid then 0 else 1)
      ∧ t.rqu.head = 0 ∧ t.rqu.headSeq = 0 ∧ t.rqu.overflow = none ∧ t.rqu.refused = 0 ∧ t.rqu.irq = false
      ∧ t.pwr = { Pwr.start with held := (initGroups.drop 4).map .init }
      ∧ t.clk = { s.clk.logicStart with retained := { s.clk.retained with valid := false } }
      ∧ t.srv = { Srv.start s.now with speed := setSpeed defaultSettings, origin := .default }
      ∧ t.pos = { Pos.start with profiles := Memory.writeAll [] 0 defaultProfiles }
      ∧ t.tun = Tun.start ∧ t.sch = Sch.start ∧ t.lds = Lds.start ∧ Started l s t)
  ∧ (∀ (l : PinLevels) (s : State), RegionFound l s → (∀ k : Fin 16, (foundEntry l s k).state ∈ [EntryState.empty, .ended]) →
    (OffsetsGood l s →
      ∃ t, exec (.standbyStart l) s = .next t ∧ Loaded l s t ∧ (∀ k, entry k t = foundEntry l s k)
        ∧ t.sch.queue = [] ∧ t.tun.presets = foundPresets l s ∧ t.mpath.queue = [] ∧ t.rqu.count = 0)
    ∧ ∀ n : Nat, 1 ≤ n → n ≤ 99 → OneBadOffset n l s →
      ∃ t, exec (.standbyStart l) s = .next t ∧ Loaded l s t ∧ (∀ k, entry k t = foundEntry l s k)
        ∧ t.sch.queue = [] ∧ t.tun.presets = (foundPresets l s).write (16 * n + 3) 0
        ∧ t.mpath.queue = [mkGroup (0x400 + 16 * n + 3) [0]] ∧ t.rqu.count = 0)
  ∧ ∀ (l : PinLevels) (s : State) (k : Fin 16), RegionFound l s → OffsetsGood l s →
    (∀ j : Fin 16, j ≠ k → (foundEntry l s j).state ∈ [EntryState.empty, .ended]) →
    let e := foundEntry l s k
    let s₀ := startValues l s
    let m := s.mem.slice (4096 * l.wb.toNat + 0x200) 512
    (e.state = .draft →
      ∃ t, exec (.standbyStart l) s = .next t ∧ Loaded l s t ∧ (∀ j, j ≠ k → entry j t = foundEntry l s j)
        ∧ entry k t = { e with state := .empty } ∧ t.sch.queue = [] ∧ t.rqu.count = 1
        ∧ t.mpath.queue = eventGroups s₀ [evProgramme k .empty .none .none] ++ [statusGroup k { e with state := .empty }])
    ∧ (e.state ∈ [EntryState.preroll, .active, .paused] → progMask m k = 0 →
      ∃ t, exec (.standbyStart l) s = .next t ∧ Loaded l s t ∧ (∀ j, j ≠ k → entry j t = foundEntry l s j)
        ∧ entry k t = { e with
            state := .ended, next := none, wait := .none, outcome := .powerFail
            lastRun := if e.state = .preroll ∨ e.next = none then e.lastRun else e.next.map fun x => x / 86400 }
        ∧ t.sch.queue = [] ∧ t.rqu.count = 2
        ∧ t.mpath.queue = ending l s k (evProgramme k .ended .powerFail .supplyLost)
            (cutFacts e (e.next.map fun x => x / 86400) e.next none 0) (entry k t))
    ∧ (∀ start, e.state = .waiting → e.next = some start → progMask m k = 0 → stopOf m k start ≤ s.clk.time.secs →
      (∀ day, e.lastRun = some day → day < start / 86400) →
      ∃ t, exec (.standbyStart l) s = .next t ∧ Loaded l s t ∧ (∀ j, j ≠ k → entry j t = foundEntry l s j)
        ∧ entry k t = { e with state := .ended, next := none, wait := .none, outcome := .missed }
        ∧ t.sch.queue = [] ∧ t.rqu.count = 2
        ∧ t.mpath.queue = ending l s k (evProgramme k .ended .missed .supplyOff)
            (waitingFacts k (start / 86400) .supplyOff t) (entry k t))
    ∧ ∀ start, e.state = .waiting → e.next = some start → nextOccurrence m k e.lastRun s.clk.time.secs = some start →
      s.clk.time.secs < stopOf m k start →
      s.clk.time.secs + setLead (s.mem.slice (4096 * l.wb.toNat + 0x060) 32) < start →
      ∃ t, exec (.standbyStart l) s = .next t ∧ Loaded l s t ∧ (∀ j, entry j t = foundEntry l s j)
        ∧ t.sch.queue = [k] ∧ t.mpath.queue = [] ∧ t.rqu.count = 0

/-- R184: in RISING a rise of MAIN_GOOD stops the rail timer, starts the hold timer and makes the phase RESET_HOLD; in
RESET_HOLD the end of the 50 ms releases HRST#, makes the phase RUNNING and posts the POWER WAKE that is due, when the
region is ready, and otherwise waits for it. -/
def Obligations.MainRailRiseAndHostRelease : Prop :=
  (∀ s : State, ScheduleIdle s → LinesStand s → s.pwr.power = .on → s.pwr.phase = .rising → s.pins.mainGood = false →
    s.srv.row = .allOff → s.srv.reelDuty = 0 → s.trc.st = .unthreaded → s.tun.st ≠ .hold →
    ∃ t, exec .mainGoodRise s = .next t
      ∧ t.pins = { s.pins with mainGood := true }
      ∧ t.pwr = { s.pwr with railTimer := none, holdTimer := .running s.now, phase := .resetHold }
      ∧ SameBut [.pins, .pwr] s t)
  ∧ (∀ (s : State) (since : Nat) (c : WakeCause), ScheduleIdle s → Drained s → EventRoom 1 s → s.pwr.power = .on →
    s.pwr.phase = .resetHold → s.pwr.holdTimer = .running since → s.pwr.regionReady = true → s.pwr.wakeDue = some c →
    ∃ t, exec .hostResetRelease s = .next t
      ∧ t.now = max s.now (since + 50000)
      ∧ t.pwr = { s.pwr with phase := .running, hrst := false, holdTimer := .stopped, wakeDue := none }
      ∧ Posted [evWake c] s t ∧ SameBut [.now, .pwr, .mpath, .rqu] s t)
  ∧ (∀ (s : State) (since : Nat), ScheduleIdle s → LinesStand s → s.pwr.power = .on →
    s.pwr.phase = .resetHold → s.pwr.holdTimer = .running since → s.pwr.regionReady = false →
    ∃ t, exec .hostResetRelease s = .next t
      ∧ t.pwr = { s.pwr with holdTimer := .reached } ∧ t.now = max s.now (since + 50000) ∧ SameBut [.now, .pwr] s t)

/-- R188, R27, R44, R88: a loss of the main rail in RUNNING while a tape plays and a preset is locked: TRC stops at STOP and
posts TRANSPORT, the duties are 0, the tuner holds, the slicer is off, MAIN_LOST is posted and the deck is in STANDBY. That
TRANSPORT comes before MAIN_LOST is the model's choice (log entry 30). And R184, R188: a rail that does not come within
1,000 ms is taken as its loss. -/
def Obligations.MainRailLossEndsOn : Prop :=
  (∀ s : State, ScheduleIdle s → Drained s → EventRoom 2 s → s.pwr.power = .on → s.pwr.phase = .running →
    s.pins.mainGood = true → s.trc.st = .play → s.trc.owner = .panel → s.trc.writing = false → s.trc.search = none →
    s.tun.scan = none → s.tun.kind = .preset → s.tun.st = .locked →
    ∃ t, exec .mainGoodFall s = .next t
      ∧ t.pwr = { s.pwr with
          power := .standby, phase := .rising, hrst := true, mainEn := false, railTimer := none,
          holdTimer := .stopped, off := .none, cause := .none, wakeDue := none }
      ∧ t.pins = { s.pins with mainGood := false }
      ∧ t.trc.st = .stop ∧ t.trc.brake = true ∧ t.srv.drumDuty = 0 ∧ t.srv.capDuty = 0 ∧ t.srv.reelDuty = 0
      ∧ t.srv.drumLock = .unlocked ∧ t.srv.capLock = false
      ∧ t.tun = { s.tun with st := .hold, sending := none, waiting := none, quiet := false }
      ∧ t.lds.st = .off ∧ t.lds.fifo = []
      ∧ Posted [evTransport .stop .auto, evMainLost] s t
      ∧ SameBut [.pwr, .pins, .trc, .srv, .pos, .tun, .lds, .mpath, .rqu] s t)
  ∧ (∀ (s : State) (since : Nat), ScheduleIdle s → Drained s → EventRoom 1 s → s.pwr.power = .on →
    s.pwr.phase = .rising → s.pwr.railTimer = some since →
    ∃ t, exec .railTimeout s = .next t
      ∧ t.now = max s.now (since + 1000000)
      ∧ t.pwr = { s.pwr with
          power := .standby, phase := .rising, hrst := true, mainEn := false, railTimer := none,
          holdTimer := .stopped, off := .none, cause := .none, wakeDue := none }
      ∧ Posted [evMainLost] s t ∧ SameBut [.now, .pwr, .mpath, .rqu] s t)

/-- R185, R186: POWER_OFF with an unthreaded tape is accepted and makes the phase STOPPING; once nothing waits to drain
the deck goes to STANDBY with the host in reset and the main rail off. -/
def Obligations.PowerOffStopsTheHost : Prop :=
  (∀ s : State, HostRuns s → ScheduleIdle s → s.trc.owner = .panel → s.trc.st = .unthreaded →
    ∃ t, exec .powerOff s = .next t
      ∧ t.pwr = { s.pwr with off := .host s.rqu.tag, phase := .stopping }
      ∧ Answered 0x51 [] [] (answer .accepted) s t ∧ SameBut [.pwr, .mem, .mpath, .rqu] s t)
  ∧ (∀ s : State, ScheduleIdle s → Drained s → LinesStand s → s.pwr.power = .on → s.pwr.phase = .stopping →
    s.trc.st = .unthreaded →
    ∃ t, exec .powerOffComplete s = .next t
      ∧ t.pwr = { s.pwr with
          power := .standby, phase := .rising, hrst := true, mainEn := false, cause := .none, off := .none }
      ∧ t.rqu = { s.rqu with irq := false } ∧ SameBut [.pwr, .rqu] s t)

/-- R189, R190: three samples of a pressed key, while the other keys and the latches are released, make one press; in ON
it is posted as KEY PRESSED with the key's number, and key since wake becomes true. Two samples make none.
R184: in STANDBY a press of K0 wakes the deck with cause POWER, and one of K1 with cause EJECT while a cassette is present,
whose eject begins; with no cassette K1, and K2 always, acts on nothing. -/
def Obligations.KeyPressQualifiesAtThreeSamples : Prop :=
  (∀ (n : Fin 4) (s : State), ScheduleIdle s → Drained s → EventRoom 1 s → LinesStand s → s.pwr.power = .on →
    s.pwr.phase = .running → s.pwr.off = .none → s.pwr.key0 = .start → s.pwr.key1 = .start → s.pwr.key2 = .start →
    s.pwr.key3 = .start →
    (∃ t, exec (.keyPress (List.replicate 3 (BitVec.ofNat 4 (2 ^ n.val)))) s = .next t
      ∧ t.pwr = { s.pwr with
          keySince := true
          key0 := if n = 0 then ⟨true, 0, true⟩ else .start
          key1 := if n = 1 then ⟨true, 0, true⟩ else .start
          key2 := if n = 2 then ⟨true, 0, true⟩ else .start
          key3 := if n = 3 then ⟨true, 0, true⟩ else .start }
      ∧ Posted [evKey n.val] s t ∧ SameBut [.pwr, .mpath, .rqu] s t)
    ∧ ∃ t, exec (.keyPress (List.replicate 2 (BitVec.ofNat 4 (2 ^ n.val)))) s = .next t
      ∧ t.pwr = { s.pwr with
          key0 := if n = 0 then ⟨true, 2, false⟩ else .start
          key1 := if n = 1 then ⟨true, 2, false⟩ else .start
          key2 := if n = 2 then ⟨true, 2, false⟩ else .start
          key3 := if n = 3 then ⟨true, 2, false⟩ else .start }
      ∧ SameBut [.pwr] s t)
  ∧ ∀ s : State, ScheduleIdle s → Drained s → LinesStand s → s.pwr.power = .standby → s.pwr.key0 = .start →
    s.pwr.key1 = .start → s.pwr.key2 = .start → s.pwr.key3 = .start →
    (∃ t, exec (.keyPress (List.replicate 3 1)) s = .next t
      ∧ t.pwr = { s.pwr with
          power := .on, phase := .rising, mainEn := true, railTimer := some s.now, cause := .power, keySince := false
          wakeDue := some .power, key0 := ⟨true, 0, true⟩ }
      ∧ SameBut [.pwr] s t)
    ∧ (s.trc.owner = .panel → s.trc.st = .unthreaded → s.trc.cassette = true → s.srv.row = .allOff →
      ∃ t, exec (.keyPress (List.replicate 3 2)) s = .next t
        ∧ t.pwr = { s.pwr with
            power := .on, phase := .rising, mainEn := true, railTimer := some s.now, cause := .eject, keySince := false
            wakeDue := some .eject, key1 := ⟨true, 0, true⟩ }
        ∧ t.trc.st = .ejecting ∧ t.trc.loadMotor = .reverse ∧ t.trc.loadTimer = some s.now ∧ t.trc.op.tag = 0
        ∧ t.trc.owner = .panel ∧ t.srv.row = .allOff ∧ t.pos.counter = s.pos.counter
        ∧ SameBut [.pwr, .trc, .srv, .pos] s t)
    ∧ (s.trc.cassette = false →
      ∃ t, exec (.keyPress (List.replicate 3 2)) s = .next t
        ∧ t.pwr = { s.pwr with key1 := ⟨true, 0, true⟩ } ∧ SameBut [.pwr] s t)
    ∧ ∃ t, exec (.keyPress (List.replicate 3 4)) s = .next t
        ∧ t.pwr = { s.pwr with key2 := ⟨true, 0, true⟩ } ∧ SameBut [.pwr] s t

/-! ### The transport (chapter 1) -/

/-- R7, R8, R29: a motion request in STOP under PANEL, with the main rail good and no limit sensor active. TRC enters the
state, SRV the row with its start duties and its direction, and DONE is answered. That the brake is off is the model's choice
(log entry 25). -/
def Obligations.MotionRequestsFromStop : Prop :=
  ∀ (c : Instr) (code : Byte) (st : TransportState) (row : Row) (dir : Dir) (cap reel : Nat),
    (c, code, st, row, dir, cap, reel) ∈
      [(Instr.play, (0x01 : Byte), TransportState.play, Row.play, Dir.forward, 384, 192),
       (.cue, 0x08, .cue, .cue, .forward, 384, 192), (.review, 0x09, .review, .review, .backward, 384, 192),
       (.ff, 0x06, .ff, .ff, .forward, 0, 600), (.rew, 0x07, .rew, .rew, .backward, 0, 600)] →
    ∀ s : State, HostRuns s → ScheduleIdle s → s.trc.owner = .panel → s.trc.st = .stop → s.trc.pending = none →
      s.pins.mainGood = true → s.pins.endSense = false → s.pins.startSense = false → s.srv.row = .still →
      s.srv.origin ≠ .default →
      ∃ t, exec c s = .next t
        ∧ t.trc.st = st ∧ t.trc.owner = .panel ∧ t.trc.pending = none ∧ t.trc.brake = false ∧ t.trc.idle = none
        ∧ t.trc.fault = s.trc.fault ∧ t.trc.cassette = s.trc.cassette ∧ t.trc.tab = s.trc.tab
        ∧ t.trc.writing = s.trc.writing ∧ t.trc.rewindDue = false
        ∧ t.srv.row = row ∧ t.srv.dir = dir ∧ t.srv.capDuty = cap ∧ t.srv.reelDuty = reel ∧ t.srv.capLock = false
        ∧ t.srv.drumDuty = s.srv.drumDuty ∧ t.srv.drumLock = s.srv.drumLock ∧ t.srv.speed = s.srv.speed
        ∧ t.srv.source = .internal
        ∧ t.pos.counter = s.pos.counter ∧ t.pos.unsure = s.pos.unsure ∧ t.pos.lastMark = s.pos.lastMark
        ∧ t.pos.profile = s.pos.profile ∧ t.pos.remaining = s.pos.remaining ∧ t.pos.window = []
        ∧ Answered code [] [] (answer .done) s t ∧ SameBut [.trc, .srv, .pos, .mem, .mpath, .rqu] s t

/-- R7, R8: STOP under PANEL in a motion or STILL: the state becomes STOP with the brake on, the capstan is released, the
drum runs on, the idle timer starts (R14), and DONE is answered. That the brake is on for a STOP from STILL too is the model's
choice (log entry 25). -/
def Obligations.StopEndsMotion : Prop :=
  ∀ s : State, HostRuns s → ScheduleIdle s → s.rqu.arg0 = 0 → s.trc.owner = .panel → s.trc.pending = none →
    s.trc.st ∈ [TransportState.play, .still, .cue, .review, .ff, .rew] → s.trc.writing = false →
    s.pins.mainGood = true → s.srv.row = rowOf s.trc →
    ∃ t, exec .stop s = .next t
      ∧ t.trc.st = .stop ∧ t.trc.brake = true ∧ t.trc.idle = some s.now ∧ t.trc.owner = .panel
      ∧ t.trc.cassette = s.trc.cassette ∧ t.trc.tab = s.trc.tab ∧ t.trc.fault = s.trc.fault
      ∧ t.srv.row = .still ∧ t.srv.drumDuty = s.srv.drumDuty ∧ t.srv.drumLock = s.srv.drumLock
      ∧ (s.trc.st ≠ .still → t.srv.capDuty = 0 ∧ t.srv.capLock = false ∧ t.srv.reelDuty = 0)
      ∧ t.srv.dir = s.srv.dir ∧ t.srv.speed = s.srv.speed
      ∧ t.pos.counter = s.pos.counter ∧ t.pos.lastMark = s.pos.lastMark
      ∧ Answered 0x03 [] [] (answer .done) s t ∧ SameBut [.trc, .srv, .pos, .mem, .mpath, .rqu] s t

/-- R16, R18: RECORD in STOP, of the current source: RECORD is entered with the speed and the mark flag, the drum's
lock allowance running, and the capstan held stopped while the drum has no PHASE_LOCK; with start paused, REC_PAUSE is entered
with the pause point at the counter and a back-space of 30 frames. That a mark flag of 0 clears mark due is the model's choice
(log entry 39). -/
def Obligations.RecordFromStop : Prop :=
  ∀ (s : State) (m : Speed), HostRuns s → ScheduleIdle s → s.trc.owner = .panel → s.trc.st = .stop →
    s.trc.pending = none → s.trc.tab = true → s.pins.mainGood = true → s.srv.row = .still → s.srv.capOn = false →
    s.srv.drumLock ≠ .phase → s.pins.endSense = false → s.pins.startSense = false → s.trc.writing = false →
    s.rqu.arg0 = 0 → s.rqu.arg3 = Byte.of m.m → s.rqu.arg4.toNat < 2 →
    (s.rqu.arg5 = 0 → ∃ t, exec .record s = .next t
      ∧ t.trc.st = .record ∧ t.trc.markDue = (s.rqu.arg4 == 1) ∧ t.trc.writing = false
      ∧ t.srv.row = .record ∧ t.srv.capOn = false ∧ t.srv.speed = m ∧ t.srv.origin = .recorded
      ∧ t.srv.capDuty = 0 ∧ t.srv.reelDuty = 192 ∧ t.srv.dir = .forward ∧ t.srv.drumDuty = s.srv.drumDuty
      ∧ t.trc.drumAllow = some s.now ∧ t.pos.counter = s.pos.counter
      ∧ Answered 0x02 [] [] (answer .done) s t ∧ SameBut [.trc, .srv, .pos, .mem, .mpath, .rqu] s t)
    ∧ (s.rqu.arg5 = 1 → ∃ t, exec .record s = .next t
      ∧ t.trc.st = .recPause ∧ t.trc.phase = .backSpace ∧ t.trc.pausePoint = some s.pos.counter
      ∧ t.trc.markDue = (s.rqu.arg4 == 1) ∧ t.trc.writing = false
      ∧ t.srv.row = .backSpace ∧ t.srv.dir = .backward ∧ t.srv.capDuty = 384 ∧ t.srv.reelDuty = 192
      ∧ t.srv.speed = m ∧ t.srv.origin = .recorded ∧ t.srv.run = some ⟨0, 12 / m.m * 30⟩
      ∧ t.pos.counter = s.pos.counter
      ∧ Answered 0x02 [] [] (answer .done) s t ∧ SameBut [.trc, .srv, .pos, .mem, .mpath, .rqu] s t)

/-- R7, R18, R19: PAUSE in PLAY gives STILL; PAUSE in RECORD stops writing and gives REC_PAUSE with back-space; RESUME in
REC_PAUSE at rest is accepted and begins catch-up, forward at the record speed for 30 frames. -/
def Obligations.PauseAndResume : Prop :=
  (∀ s : State, HostRuns s → ScheduleIdle s → s.trc.owner = .panel → s.trc.st = .play → s.pins.mainGood = true →
    s.srv.row = .play →
    ∃ t, exec .pause s = .next t ∧ t.trc.st = .still ∧ t.trc.pauseT = some s.now ∧ t.trc.writing = s.trc.writing
      ∧ t.srv.row = .still ∧ t.srv.capDuty = 0 ∧ t.srv.drumDuty = s.srv.drumDuty ∧ t.pos.counter = s.pos.counter
      ∧ Answered 0x04 [] [] (answer .done) s t ∧ SameBut [.trc, .srv, .pos, .mem, .mpath, .rqu] s t)
  ∧ (∀ s : State, HostRuns s → ScheduleIdle s → s.trc.owner = .panel → s.trc.st = .record → s.trc.writing = true →
    s.pins.mainGood = true → s.pins.startSense = false → s.srv.row = .record → s.srv.capOn = true →
    ∃ t, exec .pause s = .next t ∧ t.trc.st = .recPause ∧ t.trc.phase = .backSpace ∧ t.trc.writing = false
      ∧ t.trc.pausePoint = some s.pos.counter ∧ t.srv.row = .backSpace ∧ t.srv.dir = .backward
      ∧ t.srv.capLock = false ∧ t.srv.capDuty = s.srv.capDuty
      ∧ t.srv.run = some ⟨0, 12 / s.srv.speed.m * 30⟩ ∧ t.pos.markWrite = none ∧ t.pos.counter = s.pos.counter
      ∧ Answered 0x04 [] [] (answer .done) s t ∧ SameBut [.trc, .srv, .pos, .mem, .mpath, .rqu] s t)
  ∧ (∀ s : State, HostRuns s → ScheduleIdle s → s.trc.owner = .panel → s.trc.st = .recPause → s.trc.phase = .atRest →
    s.pins.mainGood = true → s.pins.endSense = false → s.srv.row = .rest →
    ∃ t, exec .resume s = .next t ∧ t.trc.st = .recPause ∧ t.trc.phase = .catchUp
      ∧ t.trc.resumeBy = ⟨s.rqu.tag, .request⟩ ∧ t.srv.row = .catchUp ∧ t.srv.dir = .forward ∧ t.srv.capDuty = 384
      ∧ t.srv.run = some ⟨0, 12 / s.srv.speed.m * 30⟩ ∧ t.pos.counter = s.pos.counter
      ∧ Answered 0x05 [] [] (answer .accepted) s t ∧ SameBut [.trc, .srv, .pos, .mem, .mpath, .rqu] s t)

/-- R12, R13: EJECT in UNTHREADED begins the eject: the load motor in reverse under its timer; in STOP the tape is unthreaded
first, with EJECT pending. Both are accepted. That the brake is off in UNTHREADING is the model's choice (log entry 25). -/
def Obligations.EjectBegins : Prop :=
  (∀ s : State, HostRuns s → ScheduleIdle s → s.trc.owner = .panel → s.trc.st = .unthreaded → s.srv.row = .allOff →
    ∃ t, exec .eject s = .next t ∧ t.trc.st = .ejecting ∧ t.trc.loadMotor = .reverse ∧ t.trc.loadTimer = some s.now
      ∧ t.trc.op = ⟨s.rqu.tag, .request⟩ ∧ t.trc.pending = none ∧ t.trc.cassette = s.trc.cassette
      ∧ t.srv.row = .allOff ∧ t.pos.counter = s.pos.counter
      ∧ Answered 0x0A [] [] (answer .accepted) s t ∧ SameBut [.trc, .srv, .pos, .mem, .mpath, .rqu] s t)
  ∧ (∀ s : State, HostRuns s → ScheduleIdle s → s.trc.owner = .panel → s.trc.st = .stop → s.trc.writing = false →
    s.pins.mainGood = true → s.srv.row = .still →
    ∃ t, exec .eject s = .next t ∧ t.trc.st = .unthreading ∧ t.trc.loadMotor = .reverse
      ∧ t.trc.loadTimer = some s.now ∧ t.trc.pending = some ⟨.eject, ⟨s.rqu.tag, .request⟩⟩ ∧ t.trc.brake = false
      ∧ t.srv.row = .allOff ∧ t.srv.drumDuty = 0 ∧ t.srv.capDuty = 0 ∧ t.srv.reelDuty = 0
      ∧ t.srv.drumLock = .unlocked ∧ t.pos.counter = s.pos.counter
      ∧ Answered 0x0A [] [] (answer .accepted) s t ∧ SameBut [.trc, .srv, .pos, .mem, .mpath, .rqu] s t)

/-- R24, R25: a search starts from STOP. A GOTO to the counter itself is found at once: SEARCH FOUND is posted and the state
stays STOP. Otherwise SEEK is entered toward the target, in APPROACH within 250 frames and in WIND beyond; an INDEX_SEARCH
winds in its direction with no mark counted. All are accepted. That such a GOTO enters nothing anew, so that the idle timer
goes on, is the model's choice (log entry 38). -/
def Obligations.SearchesStart : Prop :=
  ∀ s : State, HostRuns s → ScheduleIdle s → s.trc.owner = .panel → s.trc.st = .stop → s.trc.pending = none →
    s.pins.mainGood = true → s.pins.endSense = false → s.pins.startSense = false → s.srv.row = .still →
    s.srv.origin ≠ .default →
    (∀ d : Int, -(Config.counterLimit s.straps.fr30) ≤ s.rqu.arg24 → s.rqu.arg24 ≤ Config.counterLimit s.straps.fr30 →
      s.rqu.arg24 = s.pos.counter + d →
      (d = 0 → EventRoom 1 s → ∃ t, exec .goto s = .next t ∧ t.trc = { s.trc with rewindDue := false }
        ∧ Answered 0x0C [evSearch 0x01 s.rqu.tag .goto] (eventGroups s [evSearch 0x01 s.rqu.tag .goto])
            (answer .accepted) s t
        ∧ SameBut [.trc, .mem, .mpath, .rqu] s t)
      ∧ (d ≠ 0 → ∃ t, exec .goto s = .next t ∧ t.trc.st = .seek
        ∧ t.trc.search = some
            { kind := .goto, tag := s.rqu.tag, dir := if 0 < d then .forward else .backward,
              phase := if d.natAbs ≤ 250 then .approach else .wind, target := s.rqu.arg24, count := 0, counted := 0,
              start := s.pos.counter, since := s.now }
        ∧ t.srv.row = (if d.natAbs ≤ 250 then .seekSlow (if 0 < d then .forward else .backward)
                       else .seekWind (if 0 < d then .forward else .backward))
        ∧ t.srv.dir = (if 0 < d then .forward else .backward) ∧ t.pos.counter = s.pos.counter
        ∧ Answered 0x0C [] [] (answer .accepted) s t ∧ SameBut [.trc, .srv, .pos, .mem, .mpath, .rqu] s t))
    ∧ (∀ d : Dir, s.rqu.arg0 = (match d with | .forward => 0 | .backward => 1) → 1 ≤ s.rqu.arg1.toNat →
      s.rqu.arg1.toNat ≤ 20 → ∃ t, exec .indexSearch s = .next t ∧ t.trc.st = .seek
        ∧ t.trc.search = some
            { kind := .index, tag := s.rqu.tag, dir := d, phase := .wind, target := 0, count := s.rqu.arg1.toNat,
              counted := 0, start := s.pos.counter, since := s.now }
        ∧ t.srv.row = .seekWind d ∧ t.srv.reelDuty = 600 ∧ t.srv.dir = d ∧ t.pos.counter = s.pos.counter
        ∧ Answered 0x0B [] [] (answer .accepted) s t ∧ SameBut [.trc, .srv, .pos, .mem, .mpath, .rqu] s t)

/-- R52: COUNTER_RESET outside UNTHREADING, EJECTING and SEEK: the counter is 0 from CTL, OVERRANGE and UNSURE are clear,
the last mark is none, a running blank timer restarts, the extrapolation and the mark being written go on; DONE.
R23: RECOVER in FAULT with no MOTOR_OC and no THERMAL and the UNTHREADED switch closed: the latch is cleared, and the
state is UNTHREADED or NO_CASSETTE by CASS_SW; DONE. With the switch open the tape is unthreaded; ACCEPTED. While an input is
active it answers STATE and the latch stays. That the brake is off after RECOVER is the model's choice (log entry 25). -/
def Obligations.CounterResetAndRecover : Prop :=
  (∀ s : State, HostRuns s → ScheduleIdle s → s.trc.owner = .panel →
      s.trc.st ∉ [TransportState.unthreading, .ejecting, .seek] →
      ∃ t, exec .counterReset s = .next t
        ∧ t.pos.counter = 0 ∧ t.pos.capSource = false ∧ t.pos.overrange = false ∧ t.pos.unsure = false
        ∧ t.pos.lastMark = none ∧ t.pos.extrap = s.pos.extrap ∧ t.pos.markWrite = s.pos.markWrite
        ∧ (∀ since, s.pos.blank = .running since → t.pos.blank = .running s.now)
        ∧ (s.pos.blank = .stopped → t.pos.blank = .stopped)
        ∧ t.pos.profile = s.pos.profile ∧ t.pos.r = s.pos.r ∧ t.pos.remaining = s.pos.remaining
        ∧ t.trc = { s.trc with rewindDue := false }
        ∧ Answered 0x0D [] [] (answer .done) s t ∧ SameBut [.pos, .trc, .mem, .mpath, .rqu] s t)
  ∧ (∀ s : State, HostRuns s → ScheduleIdle s → s.trc.owner = .panel → s.trc.st = .fault → s.srv.row = .allOff →
      (s.pins.motorOc = 0 → s.pins.thermal = false → s.pins.unthreadedSw = true →
        ∃ t, exec .recover s = .next t ∧ t.trc.fault = none
          ∧ t.trc.st = (if s.pins.cassSw then .unthreaded else .noCassette) ∧ t.trc.brake = false
          ∧ t.srv.row = .allOff ∧ t.pos.counter = s.pos.counter
          ∧ Answered 0x0E [] [] (answer .done) s t ∧ SameBut [.trc, .srv, .pos, .mem, .mpath, .rqu] s t)
      ∧ (s.pins.motorOc = 0 → s.pins.thermal = false → s.pins.unthreadedSw = false →
        ∃ t, exec .recover s = .next t ∧ t.trc.fault = none ∧ t.trc.st = .unthreading ∧ t.trc.loadMotor = .reverse
          ∧ t.trc.loadTimer = some s.now ∧ t.trc.pending = none ∧ t.trc.op = ⟨s.rqu.tag, .request⟩ ∧ t.trc.brake = false
          ∧ t.srv.row = .allOff ∧ t.pos.counter = s.pos.counter
          ∧ Answered 0x0E [] [] (answer .accepted) s t ∧ SameBut [.trc, .srv, .pos, .mem, .mpath, .rqu] s t)
      ∧ (s.pins.motorOc ≠ 0 ∨ s.pins.thermal = true →
        ∃ t, exec .recover s = .next t
          ∧ Answered 0x0E [] [] (answer .state) s t ∧ SameBut [.mem, .mpath, .rqu] s t))

/-- R2, R3, R46: a cassette goes in and comes out. The state, cassette present and the tab follow; the counter and the
identification start anew at an insertion; CASSETTE and TRANSPORT are posted. R184: an insertion in STANDBY
wakes the deck with cause CASSETTE. That these TRANSPORT events carry tag 0 and cause AUTO and follow the CASSETTE
is the model's choice (log entry 12). -/
def Obligations.CassetteInAndOut : Prop :=
  (∀ (tab : Bool) (s : State), ScheduleIdle s → Drained s → EventRoom 2 s → s.pwr.power = .on → s.pwr.phase = .running →
    s.trc.owner = .panel → s.trc.st = .noCassette → s.srv.row = .allOff →
    ∃ t, exec (.cassetteInsertion tab) s = .next t
      ∧ t.trc.st = .unthreaded ∧ t.trc.cassette = true ∧ t.trc.tab = tab
      ∧ t.pos.counter = 0 ∧ t.pos.unsure = false ∧ t.pos.overrange = false ∧ t.pos.profile = none
      ∧ t.pos.r = none ∧ t.pos.remaining = 0xFFFF ∧ t.pos.lastMark = none
      ∧ t.srv.speed = setSpeed s.mpath.settings ∧ t.srv.origin = .default ∧ t.srv.row = .allOff
      ∧ t.pins = { s.pins with cassSw := true, tabSw := tab }
      ∧ Posted [evCassetteIn tab, evTransport .unthreaded .auto] s t
      ∧ SameBut [.trc, .srv, .pos, .pins, .mpath, .rqu] s t)
  ∧ (∀ (tab : Bool) (s : State), ScheduleIdle s → Drained s → EventRoom 2 s → s.pwr.power = .standby →
    s.trc.owner = .panel → s.trc.st = .noCassette → s.srv.row = .allOff →
    ∃ t, exec (.cassetteInsertion tab) s = .next t
      ∧ t.pwr = { s.pwr with
          power := .on, phase := .rising, mainEn := true, railTimer := some s.now, cause := .cassette, keySince := false
          wakeDue := some .cassette }
      ∧ t.trc.st = .unthreaded ∧ t.trc.cassette = true ∧ t.trc.tab = tab ∧ t.pos.counter = 0
      ∧ t.pins = { s.pins with cassSw := true, tabSw := tab }
      ∧ Posted [evCassetteIn tab, evTransport .unthreaded .auto] s t
      ∧ SameBut [.pwr, .trc, .srv, .pos, .pins, .mpath, .rqu] s t)
  ∧ (∀ s : State, ScheduleIdle s → Drained s → EventRoom 2 s → s.pwr.power = .on → s.pwr.phase = .running →
    s.trc.owner = .panel → s.trc.st = .unthreaded → s.srv.row = .allOff →
    ∃ t, exec .cassetteRemoval s = .next t
      ∧ t.trc.st = .noCassette ∧ t.trc.cassette = false ∧ t.trc.tab = false ∧ t.pos.profile = none
      ∧ t.pos.r = none ∧ t.pos.remaining = 0xFFFF
      ∧ t.pos.counter = s.pos.counter ∧ t.pins = { s.pins with cassSw := false }
      ∧ Posted [evCassetteOut, evTransport .noCassette .auto] s t
      ∧ SameBut [.trc, .srv, .pos, .pins, .mpath, .rqu] s t)

/-- R9, R12: the THREADED switch closes on a pending PLAY: the load motor stops and PLAY is entered with the request's tag;
the UNTHREADED switch closes with nothing pending: UNTHREADED or NO_CASSETTE by CASS_SW. TRANSPORT is posted. That the closing
of one switch shows the other open is the model's choice (log entry 41). -/
def Obligations.ThreadingAndUnthreadingComplete : Prop :=
  (∀ (o : Origin) (s : State), ScheduleIdle s → Drained s → EventRoom 1 s → PowerSteady s → s.trc.owner = .panel →
    s.trc.st = .threading → s.trc.loadMotor = .forward → s.trc.pending = some ⟨.play, o⟩ → s.pins.mainGood = true →
    s.pins.endSense = false → s.srv.row = .allOff →
    ∃ t, exec (.threadingComplete true) s = .next t
      ∧ t.trc.st = .play ∧ t.trc.pending = none ∧ t.trc.loadMotor = .off ∧ t.trc.loadTimer = none
      ∧ t.trc.drumAllow = some s.now ∧ t.trc.capAllow = some s.now
      ∧ t.srv.row = .play ∧ t.srv.drumDuty = 512 ∧ t.srv.capDuty = 384 ∧ t.srv.reelDuty = 192
      ∧ t.pins = { s.pins with threadedSw := true, unthreadedSw := false } ∧ t.pos.counter = s.pos.counter
      ∧ Posted [evTransport .play o] s t ∧ SameBut [.trc, .srv, .pos, .pins, .mpath, .rqu] s t)
  ∧ (∀ s : State, ScheduleIdle s → Drained s → EventRoom 1 s → PowerSteady s → s.trc.owner = .panel →
    s.trc.st = .unthreading → s.trc.pending = none → s.srv.row = .allOff →
    ∃ t, exec (.unthreadingComplete true) s = .next t
      ∧ t.trc.st = (if s.pins.cassSw then .unthreaded else .noCassette) ∧ t.trc.loadMotor = .off
      ∧ t.trc.loadTimer = none ∧ t.pins = { s.pins with unthreadedSw := true, threadedSw := false }
      ∧ t.pos.counter = s.pos.counter
      ∧ Posted [evTransport (if s.pins.cassSw then .unthreaded else .noCassette) s.trc.op] s t
      ∧ SameBut [.trc, .srv, .pos, .pins, .mpath, .rqu] s t)

/-- R22, R11, R12, R13, R17: what latches a fault under PANEL: the timers of unthreading and eject and a second threading
failure (JAM), the lock allowances (SERVO), MOTOR_OC and THERMAL. The state is FAULT, writing stops, the drives are in the row
of all off, the load motor is off, the latch holds the code with its detail, the pending target is gone, and TFAULT is posted. -/
def Obligations.FaultsAreLatched : Prop :=
  ∀ (c : Instr) (code : FaultCode) (detail : Nat) (s : State), ScheduleIdle s → Drained s → EventRoom 1 s →
    PowerSteady s → s.trc.owner = .panel →
    (c, code, detail) ∈
      [(Instr.unthreadTimeout, FaultCode.jam, 0), (.ejectTimeout, .jam, 0), (.threadTimeout, .jam, 0),
       (.lockAllowanceExpiry .drum, .servo, 0), (.lockAllowanceExpiry .capstan, .servo, 1),
       (.motorOc 0 true, .overcurrent, 0), (.motorOc 1 true, .overcurrent, 1), (.motorOc 2 true, .overcurrent, 2),
       (.motorOc 3 true, .overcurrent, 3), (.thermal true, .thermal, 0)] →
    (c = .unthreadTimeout → s.trc.st = .unthreading ∧ s.trc.loadTimer.isSome) →
    (c = .ejectTimeout → s.trc.st = .ejecting ∧ s.trc.loadTimer.isSome) →
    (c = .threadTimeout → s.trc.st = .threading ∧ s.trc.loadTimer.isSome ∧ s.trc.attempt = 2) →
    (c = .lockAllowanceExpiry .drum → s.trc.drumAllow.isSome) →
    (c = .lockAllowanceExpiry .capstan → s.trc.capAllow.isSome) →
    s.pins.motorOc = 0 → s.pins.thermal = false → s.trc.st ≠ .fault →
    (c = .motorOc 3 true → s.trc.st ≠ .threading) →
    ∃ t, exec c s = .next t
      ∧ t.trc.st = .fault ∧ t.trc.fault = some ⟨code, detail⟩ ∧ t.trc.pending = none ∧ t.trc.writing = false
      ∧ t.trc.brake = true ∧ t.trc.loadMotor = .off ∧ t.trc.loadTimer = none ∧ t.trc.search = none
      ∧ t.trc.owner = .panel ∧ t.trc.cassette = s.trc.cassette ∧ t.srv.row = .allOff
      ∧ t.pos.counter = s.pos.counter
      ∧ Posted [evTfault code detail] s t
      ∧ SameBut [.now, .pins, .trc, .srv, .pos, .mpath, .rqu] s t

/-- R14, R15: the idle timer's end unthreads with nothing pending; the pause timer's end goes to STOP and posts
TRANSPORT STOP with cause AUTO.
R11: the first failure of a threading, by its 6 s timeout, reverses the load motor under a new timer; the state and
the pending target stay.
R24: a GOTO whose counter has stood for 4 s ends at STOP, NOT_FOUND.
That the TRANSPORT STOP beside it has tag 0 and cause AUTO is read from the spec by inference (log entry 14), that it comes
after SEARCH is the model's choice (log entry 62), and so is that the brake is on for a STOP
from STILL or REC_PAUSE (log entry 25). -/
def Obligations.TransportTimersEnd : Prop :=
  ((∀ (s : State) (since : Nat), ScheduleIdle s → PowerSteady s → LinesStand s → s.trc.owner = .panel →
      s.trc.st = .stop → s.trc.writing = false → s.trc.idle = some since →
      ∃ t, exec .idleTimeout s = .next t
        ∧ t.now = max s.now (since + 300000000) ∧ t.trc.st = .unthreading ∧ t.trc.pending = none
        ∧ t.trc.op = ⟨0, .auto⟩ ∧ t.trc.loadMotor = .reverse ∧ t.trc.loadTimer = some t.now ∧ t.trc.idle = none
        ∧ t.srv.row = .allOff ∧ t.pos.counter = s.pos.counter ∧ SameBut [.now, .trc, .srv, .pos] s t)
    ∧ (∀ (s : State) (since : Nat), ScheduleIdle s → PowerSteady s → Drained s → EventRoom 1 s → s.trc.owner = .panel →
      s.trc.st ∈ [TransportState.still, .recPause] → s.trc.pending = none → s.trc.pauseT = some since →
      ∃ t, exec .pauseTimeout s = .next t
        ∧ t.now = max s.now (since + 300000000) ∧ t.trc.st = .stop ∧ t.trc.pauseT = none ∧ t.trc.idle = some t.now
        ∧ t.trc.heldResume = none ∧ t.trc.writing = false ∧ t.trc.brake = true ∧ t.srv.row = .still
        ∧ t.pos.counter = s.pos.counter
        ∧ Posted [evTransport .stop .auto] s t ∧ SameBut [.now, .trc, .srv, .pos, .mpath, .rqu] s t))
  ∧ (∀ (s : State) (since : Nat), ScheduleIdle s → PowerSteady s → LinesStand s → s.trc.st = .threading →
      s.trc.attempt = 1 → s.trc.reverseRun = false → s.trc.loadTimer = some since →
      ∃ t, exec .threadTimeout s = .next t
        ∧ t.now = max s.now (since + 6000000)
        ∧ t.trc = { s.trc with
            reverseRun := true, loadMotor := .reverse, loadTimer := some (max s.now (since + 6000000)) }
        ∧ SameBut [.now, .trc] s t)
  ∧ (∀ (k : Search) (s : State), ScheduleIdle s → Drained s → EventRoom 2 s → PowerSteady s → s.trc.owner = .panel →
      s.trc.st = .seek → s.trc.search = some k → k.kind = .goto → s.trc.pending = none →
      ∃ t, exec .searchCounterTimeout s = .next t
        ∧ t.now = max s.now (k.since + 4000000) ∧ t.trc.st = .stop ∧ t.trc.search = none ∧ t.srv.row = .still
        ∧ t.pos.counter = s.pos.counter
        ∧ Posted [evSearch 0x02 k.tag .goto, evTransport .stop .auto] s t
        ∧ SameBut [.now, .trc, .srv, .pos, .mpath, .rqu] s t)

/-- R20: END_SENSE in a forward motion of the deck is the tape limit END: STOP, TAPE_LIMIT and TRANSPORT; the rewind that
auto-rewind makes due follows in the same event, as REW posted with cause AUTO. -/
def Obligations.TapeEndStopsTheTape : Prop :=
  (∀ s : State, ScheduleIdle s → Drained s → EventRoom 2 s → PowerSteady s → s.trc.owner = .panel →
    s.trc.st ∈ [TransportState.play, .record, .cue, .ff] → s.trc.pending = none →
    setAutoRewind s.mpath.settings = false →
    ∃ t, exec (.tapeLimit .ending true) s = .next t
      ∧ t.trc.st = .stop ∧ t.trc.writing = false ∧ t.trc.rewindDue = false ∧ t.trc.brake = true
      ∧ t.srv.row = .still ∧ t.pos.counter = s.pos.counter ∧ t.pins = { s.pins with endSense := true }
      ∧ Posted [evTapeLimit .ending false, evTransport .stop .auto] s t
      ∧ SameBut [.pins, .trc, .srv, .pos, .mpath, .rqu] s t)
  ∧ (∀ s : State, ScheduleIdle s → Drained s → EventRoom 3 s → PowerSteady s → s.trc.owner = .panel →
    s.trc.st ∈ [TransportState.play, .record, .cue, .ff] → s.trc.pending = none → s.pins.startSense = false →
    setAutoRewind s.mpath.settings = true →
    ∃ t, exec (.tapeLimit .ending true) s = .next t
      ∧ t.trc.st = .rew ∧ t.trc.writing = false ∧ t.srv.row = .rew ∧ t.srv.dir = .backward
      ∧ t.pos.counter = s.pos.counter ∧ t.pins = { s.pins with endSense := true }
      ∧ Posted [evTapeLimit .ending false, evTransport .stop .auto, evTransport .rew .auto] s t
      ∧ SameBut [.pins, .trc, .srv, .pos, .mpath, .rqu] s t)

/-! ### Servo and reel timing (chapter 2) -/

/-- R31, R32: at an FG pulse the duty becomes duty + floor(e × gain / 4096), clamped to 0..1023, with e the measured
interval, at most 65,535 µs a pulse, less the target; a gap of 65,535 µs measures that interval. The first pulse after a
start measures nothing. -/
def Obligations.FgMeasurementsUpdateDuty : Prop :=
  ∀ s : State, ScheduleIdle s → PowerSteady s → LinesStand s → s.pins.mainGood = true →
    (∀ (at_ last : Nat), s.srv.row ≠ .allOff → s.srv.drumFg = some last → last ≤ s.now → s.now ≤ at_ →
      ∃ t, exec (.drumFgPulse at_) s = .next t ∧ t.now = at_ ∧ t.srv.drumFg = some at_
        ∧ (t.srv.drumDuty : Int) = clampInt 0 1023
            (s.srv.drumDuty + (6 * (min 65535 (at_ - last) : Nat) - (Config.framePeriod s.straps.fr30 : Int)) * 64 / 4096)
        ∧ SameBut [.now, .trc, .srv, .pos] s t)
    ∧ (s.srv.row ≠ .allOff →
      ∃ t, exec .drumFgGap s = .next t ∧ t.now = max s.now (s.srv.drumGap + 65535)
        ∧ t.srv.drumGap = s.srv.drumGap + 65535 ∧ t.srv.drumFg = s.srv.drumFg
        ∧ (t.srv.drumDuty : Int) = clampInt 0 1023
            (s.srv.drumDuty + (393210 - (Config.framePeriod s.straps.fr30 : Int)) * 64 / 4096)
        ∧ SameBut [.now, .trc, .srv, .pos] s t)
    ∧ (∀ (at_ last : Nat), s.srv.row = .play → s.srv.run = none → s.srv.capFg = some last → last ≤ s.now → s.now ≤ at_ →
      ∃ t, exec (.capstanFgPulse at_) s = .next t ∧ t.now = at_ ∧ t.srv.capFg = some at_
        ∧ (t.srv.capDuty : Int) = clampInt 0 1023
            (s.srv.capDuty + ((min 65535 (at_ - last) : Nat) - (Config.capstanPeriod s.straps.fr30 * s.srv.speed.m : Int)) * 32 / 4096)
        ∧ t.srv.drumDuty = s.srv.drumDuty ∧ SameBut [.now, .trc, .srv, .pos] s t)
    ∧ (s.srv.row = .play →
      ∃ t, exec .capstanFgGap s = .next t ∧ t.now = max s.now (s.srv.capGap + 65535)
        ∧ t.srv.capGap = s.srv.capGap + 65535
        ∧ (t.srv.capDuty : Int) = clampInt 0 1023
            (s.srv.capDuty + (65535 - (Config.capstanPeriod s.straps.fr30 * s.srv.speed.m : Int)) * 32 / 4096)
        ∧ t.srv.drumDuty = s.srv.drumDuty ∧ SameBut [.now, .trc, .srv, .pos] s t)
    ∧ (∀ at_ : Nat, s.srv.row ≠ .allOff → s.srv.drumFg = none → s.now ≤ at_ →
      ∃ t, exec (.drumFgPulse at_) s = .next t ∧ t.now = at_
        ∧ t.srv = { s.srv with drumFg := some at_, drumGap := at_ } ∧ SameBut [.now, .srv] s t)

/-- R33: the lock test over a run of measurements. From UNLOCKED with its count at 0, seven measurements inside the inner
window leave it UNLOCKED and the eighth locks it; from a lock, four measurements beyond the outer limit with none inside
between them unlock it, and three do not. -/
def Obligations.LockTakesEightAndIsLostAtFour : Prop :=
  (∀ (target : Nat) (es : List Int) (e : Int), (∀ x ∈ es, x.natAbs ≤ target / 256) → e.natAbs ≤ target / 256 →
    es.length = 7 →
    let t := es.foldl (fun t x => lockTest t.locked t.inWindow t.outWindow x target) ⟨false, 0, 0, .same⟩
    t.locked = false ∧ lockTest t.locked t.inWindow t.outWindow e target = ⟨true, 0, 0, .gained⟩)
  ∧ (∀ (target inW : Nat) (es : List Int) (e : Int), (∀ x ∈ es, target / 256 < x.natAbs) → target / 64 < e.natAbs →
    (es.filter fun x => target / 64 < x.natAbs).length = 3 →
    let t := es.foldl (fun t x => lockTest t.locked t.inWindow t.outWindow x target) ⟨true, inW, 0, .same⟩
    t.locked = true ∧ lockTest t.locked t.inWindow t.outWindow e target = ⟨false, inW, 0, .lost⟩)

/-- R35: a drum PG pulse while the drum holds PHASE_LOCK: the phase error p to the nearest reference pulse, within half a
target period, adds floor(p × 16 / 4096) to the drum duty, clamped to 0..1023; while UNLOCKED only its time is kept. That the
reference pulses lie whole target periods from the last one, whichever source the reference has, is the model's choice (log
entry 17).
R36: a CTL pulse in PLAY or in catch-up while the capstan is in SPEED_LOCK adds floor(d × 8 / 4096) to the capstan duty,
clamped to 0..1023, with d its rise minus the time of the nearest PG pulse, be that the last one seen or one before it, which
is kept for it. That d is brought within half a target period by whole target periods where the nearest one seen lies farther
off, as the one still to come is predicted, is the model's choice (log entry 17). -/
def Obligations.DrumPhaseTermAddsToDuty : Prop :=
  (∀ (s : State) (at_ : Nat), ScheduleIdle s → PowerSteady s → LinesStand s → s.pins.mainGood = true →
    s.srv.row ≠ .allOff → s.now ≤ at_ →
    (∀ p : Int, s.srv.drumLock = .phase → p.natAbs * 2 < Config.framePeriod s.straps.fr30 →
      p.natAbs ≤ Config.framePeriod s.straps.fr30 / 32 →
      (∃ n : Int, (at_ : Int) = s.srv.reference + n * Config.framePeriod s.straps.fr30 + p) →
      ∃ t, exec (.drumPgPulse at_) s = .next t ∧ t.now = at_ ∧ t.free = s.free + 1
        ∧ (t.srv.drumDuty : Int) = clampInt 0 1023 (s.srv.drumDuty + p * 16 / 4096)
        ∧ t.srv.pg = some at_ ∧ t.srv.pgBefore = s.srv.keptPulses s.pos.lastPulse
        ∧ t.srv.drumLock = .phase ∧ t.srv.phaseOut = 0 ∧ t.srv.capDuty = s.srv.capDuty
        ∧ SameBut [.now, .free, .srv] s t)
    ∧ (s.srv.drumLock = .unlocked →
      ∃ t, exec (.drumPgPulse at_) s = .next t ∧ t.now = at_ ∧ t.free = s.free + 1
        ∧ t.srv = { s.srv with pg := some at_, pgBefore := s.srv.keptPulses s.pos.lastPulse }
        ∧ SameBut [.now, .free, .srv] s t))
  ∧ (∀ (since p : Nat) (older : List Nat), (p :: older).Pairwise (fun a b => b < a) →
    ∀ t : Nat, since < t → ∀ x ∈ p :: older, (∀ y ∈ p :: older, y ≠ x → ((t : Int) - x).natAbs < ((t : Int) - y).natAbs) →
      x ∈ pulsesFrom since (p :: older))
  ∧ ∀ (s : State) (rise high p x : Nat) (d : Int), ScheduleIdle s → PowerSteady s → LinesStand s → s.trc.writing = false →
    s.trc.search = none → s.now ≤ rise + high → s.pos.counter.natAbs < 100000 → s.pos.window = [] →
    s.pos.lastPulse = none → s.srv.row = .play ∨ s.srv.row = .catchUp → s.srv.capLock = true → s.srv.pg = some p →
    x ∈ p :: s.srv.pgBefore →
    (∀ y ∈ p :: s.srv.pgBefore, y ≠ x → ((rise : Int) - x).natAbs < ((rise : Int) - y).natAbs) →
    (∃ n : Int, (rise : Int) = x + n * Config.framePeriod s.straps.fr30 + d) →
    d.natAbs * 2 < Config.framePeriod s.straps.fr30 →
    ∃ t, exec (.ctlReadPulse rise high) s = .next t ∧ t.now = rise + high ∧ t.free = s.free + 1
      ∧ (t.srv.capDuty : Int) = clampInt 0 1023 (s.srv.capDuty + d * 8 / 4096)
      ∧ t.srv = { s.srv with capDuty := t.srv.capDuty } ∧ t.pos.counter = s.pos.counter + 1
      ∧ SameBut [.now, .free, .srv, .pos] s t

/-- R34, R48: the internal reference runs on by one target period a pulse; while TRC writes on it, each pulse writes one
frame: the counter rises by 1 and CTL_OUT is high for F/4. R48, R54: while an index mark is written it is high for 3F/4, the
frame adds 1 to the mark, and the 60th ends it. Two target periods without a frame start turn an external reference to the
internal one, which runs on from the last frame start. -/
def Obligations.FrameReferenceRunsAndWrites : Prop :=
  (∀ s : State, ScheduleIdle s → PowerSteady s → LinesStand s → s.trc.writing = false →
    ∃ t, exec .frameReferencePulse s = .next t
      ∧ t.now = max s.now (s.srv.refLast + Config.framePeriod s.straps.fr30)
      ∧ t.srv = { s.srv with refLast := s.srv.refLast + Config.framePeriod s.straps.fr30 } ∧ SameBut [.now, .srv] s t)
  ∧ (∀ s : State, ScheduleIdle s → PowerSteady s → LinesStand s → s.trc.writing = true → s.srv.row = .record →
    s.srv.source = .internal → s.pos.markWrite = none → s.pos.counter < Config.counterLimit s.straps.fr30 →
    -(Config.counterLimit s.straps.fr30) ≤ s.pos.counter →
    ∃ t, exec .frameReferencePulse s = .next t
      ∧ t.pos = { s.pos with counter := s.pos.counter + 1, capSource := false }
      ∧ t.ctlOut = some (Config.framePeriod s.straps.fr30 / 4)
      ∧ t.srv = { s.srv with refLast := s.srv.refLast + Config.framePeriod s.straps.fr30 }
      ∧ SameBut [.now, .srv, .pos, .ctlOut] s t)
  ∧ (∀ (s : State) (first : Int) (n : Nat), ScheduleIdle s → PowerSteady s → LinesStand s → s.trc.writing = true →
    s.srv.row = .record → s.srv.source = .internal → s.pos.markWrite = some ⟨first, n⟩ → n < 60 →
    s.pos.counter < Config.counterLimit s.straps.fr30 → -(Config.counterLimit s.straps.fr30) ≤ s.pos.counter →
    ∃ t, exec .frameReferencePulse s = .next t
      ∧ t.pos = { s.pos with
          counter := s.pos.counter + 1, capSource := false
          markWrite := if n = 59 then none else some ⟨first, n + 1⟩ }
      ∧ t.ctlOut = some (3 * Config.framePeriod s.straps.fr30 / 4) ∧ SameBut [.now, .srv, .pos, .ctlOut] s t)
  ∧ (∀ (s : State) (last : Nat), ScheduleIdle s → PowerSteady s → LinesStand s → s.srv.row = .record →
    s.srv.source = .external → s.srv.frameStart = some last →
    ∃ t, exec .frameReferenceTimeout s = .next t
      ∧ t.now = max s.now (last + 2 * Config.framePeriod s.straps.fr30)
      ∧ t.srv = { s.srv with source := .internal, refLast := last + Config.framePeriod s.straps.fr30 }
      ∧ SameBut [.now, .srv] s t)

/-- R40, R41: a reel mark of a segment: one more mark, its time the newest of four, its period the four marks' span in ms
once five have come, and the stall allowance twice the interval within 400..30,000 ms. Without a segment it is ignored.
R59, R60, R61, R62, R63: a period of the supply reel in PLAY, with the capstan locked and both periods valid: with a profile
identified it gives R and the remaining seconds; with none, the profile that matches becomes the candidate, or, when it is
the candidate, the profile; and where none matches the candidate is none and the no-match count rises, to no-match at 2.
R41, R21: the stall of the supply reel in PLAY is the tape limit END of a stall; the tape stops. That a mark between two ticks
is taken to the tick before it is the model's choice (log entry 67). -/
def Obligations.ReelMarksAndStall : Prop :=
  (∀ (s : State) (at_ last due : Nat) (older : List Nat), ScheduleIdle s → PowerSteady s → LinesStand s →
    s.srv.row = .play → s.now ≤ at_ → s.srv.supply.stall = some due → s.srv.supply.times = last :: older →
    older.length < 3 → last ≤ at_ / 1000 →
    ∃ t, exec (.reelMark .supply at_) s = .next t ∧ t.now = at_
      ∧ t.srv.supply.marks = min 5 (s.srv.supply.marks + 1) ∧ t.srv.supply.times = at_ / 1000 :: last :: older
      ∧ t.srv.supply.interval = some (at_ / 1000 - last) ∧ t.srv.supply.period = none
      ∧ t.srv.supply.stall = some (at_ / 1000 + clampNat 400 30000 (2 * (at_ / 1000 - last)))
      ∧ t.srv.takeup = s.srv.takeup ∧ t.srv.reelDuty = s.srv.reelDuty ∧ SameBut [.now, .srv] s t)
  ∧ (∀ (s : State) (at_ a b c d due : Nat), ScheduleIdle s → PowerSteady s → LinesStand s → s.srv.row = .play →
    s.now ≤ at_ → s.srv.supply.stall = some due → s.srv.supply.times = [a, b, c, d] → d < at_ / 1000 →
    s.srv.takeup.period = none →
    ∃ t, exec (.reelMark .supply at_) s = .next t
      ∧ t.srv.supply.period = some (min 65535 (at_ / 1000 - d)) ∧ t.srv.supply.times = [at_ / 1000, a, b, c]
      ∧ t.srv.takeup = s.srv.takeup ∧ SameBut [.now, .srv] s t)
  ∧ (∀ (s : State) (reel : ReelName) (at_ : Nat), ScheduleIdle s → PowerSteady s → LinesStand s →
    (s.srv.reel reel).stall = none →
    ∃ t, exec (.reelMark reel at_) s = .next t ∧ t.now = max s.now at_ ∧ SameBut [.now] s t)
  ∧ (∀ (s : State) (at_ a b c d due tt : Nat), ScheduleIdle s → PowerSteady s → LinesStand s → s.srv.row = .play →
    s.trc.st = .play → s.srv.capLock = true → s.now ≤ at_ → s.srv.supply.stall = some due →
    s.srv.supply.times = [a, b, c, d] → d < at_ / 1000 → s.srv.takeup.period = some tt →
    let ts := min 65535 (at_ / 1000 - d)
    let m := s.srv.speed
    let share (n : Nat) : Nat := tapeShare ts tt (profileOf s.pos.profiles n).h
    let seconds (n : Nat) : Nat := min 65534 (share n * (profileOf s.pos.profiles n).nsp * m.m / 65536)
    let found : Option Nat :=
      if cassetteU m ts tt ≤ 65535 then matchProfile s.pos.profiles (cassetteU m ts tt) [1, 2, 3, 4, 5, 6, 7, 8] else none
    ∃ t, exec (.reelMark .supply at_) s = .next t ∧ t.srv.supply.period = some ts ∧ SameBut [.now, .srv, .pos] s t
      ∧ (∀ n, s.pos.profile = some n → t.pos = { s.pos with r := some (share n), remaining := seconds n })
      ∧ (∀ n, s.pos.profile = none → found = some n → s.pos.candidate = some n →
        t.pos = { s.pos with
          profile := some n, candidate := none, noMatchCount := 0, noMatch := false
          r := some (share n), remaining := seconds n })
      ∧ (∀ n, s.pos.profile = none → found = some n → s.pos.candidate ≠ some n →
        t.pos = { s.pos with candidate := some n, noMatchCount := 0 })
      ∧ (s.pos.profile = none → found = none → s.pos.noMatchCount = 0 →
        t.pos = { s.pos with candidate := none, noMatchCount := 1 })
      ∧ (s.pos.profile = none → found = none → s.pos.noMatchCount = 1 →
        t.pos = { s.pos with candidate := none, noMatch := true, noMatchCount := 0 }))
  ∧ (∀ (s : State) (due : Nat), ScheduleIdle s → Drained s → EventRoom 2 s → PowerSteady s → s.trc.owner = .panel →
    s.trc.st = .play → s.trc.pending = none → setAutoRewind s.mpath.settings = false → s.srv.row = .play →
    s.srv.supply.stall = some due →
    ∃ t, exec (.reelStall .supply) s = .next t
      ∧ t.now = max s.now (1000 * due) ∧ t.trc.st = .stop ∧ t.srv.row = .still
      ∧ t.srv.supply.period = none ∧ t.srv.supply.stall = none ∧ t.pos.counter = s.pos.counter
      ∧ Posted [evTapeLimit .ending true, evTransport .stop .auto] s t
      ∧ SameBut [.now, .trc, .srv, .pos, .mpath, .rqu] s t)

/-! ### Position and remaining time (chapter 3) -/

/-- R47, R49, R50: a read pulse in CUE counts one frame forward, in REVIEW one frame backward, taken at its falling edge:
UNSURE and the capstan source are cleared, and the blank timer restarts at its rising edge. After its motion a pulse counts no
more once the run-down of 300 ms has ended, nor does one in a row that moves no tape, or while TRC writes.
R55: a pulse is long when its high time is at least half the interval since the one before it; it enters the window, of which
the latest 60 stay. Forward, a pulse after which the window holds 60, at least 48 of them long, finds the mark at the lowest
frame number of those and empties the window; any other pulse finds none. R56: backward, such a pulse makes the mark pending.
While a mark is pending, whatever the window holds, a long pulse lowers its frame number, a short one counts, and the eighth
short one after the last long one reports it.
R39: in PLAY with the capstan locked, the eighth interval at which one other speed matches, the candidate, makes that speed the
one in use, detected; an earlier one counts. -/
def Obligations.ReadPulsesCountFrames : Prop :=
  (∀ (s : State) (rise high : Nat), ScheduleIdle s → PowerSteady s → LinesStand s → s.trc.writing = false →
    s.trc.search = none → s.now ≤ rise + high → s.pos.window = [] → s.pos.pendingMark = none →
    s.pos.counter.natAbs < 100000 →
    (s.srv.row = .cue → ∃ t, exec (.ctlReadPulse rise high) s = .next t ∧ t.now = rise + high
      ∧ t.pos.counter = s.pos.counter + 1 ∧ t.pos.unsure = false ∧ t.pos.capSource = false
      ∧ t.pos.blank = .running rise ∧ t.pos.lastPulse = some rise ∧ t.pos.overrange = s.pos.overrange
      ∧ t.pos.lastMark = s.pos.lastMark ∧ t.free = s.free + 1 ∧ SameBut [.now, .free, .pos] s t)
    ∧ (s.srv.row = .review → ∃ t, exec (.ctlReadPulse rise high) s = .next t ∧ t.now = rise + high
      ∧ t.pos.counter = s.pos.counter - 1 ∧ t.pos.unsure = false ∧ t.pos.capSource = false
      ∧ t.pos.blank = .running rise ∧ t.pos.lastPulse = some rise ∧ t.pos.overrange = s.pos.overrange
      ∧ t.pos.lastMark = s.pos.lastMark ∧ t.free = s.free + 1 ∧ SameBut [.now, .free, .pos] s t))
  ∧ (∀ (s : State) (d : RunDown), ScheduleIdle s → PowerSteady s → LinesStand s → s.pos.runDown = some d →
    ∃ t, exec .runDownEnd s = .next t ∧ t.now = max s.now (d.since + 300000)
      ∧ t.pos = { s.pos with runDown := none } ∧ SameBut [.now, .pos] s t)
  ∧ (∀ (s : State) (rise high : Nat), ScheduleIdle s → PowerSteady s → LinesStand s →
    (s.trc.writing = true ∨ s.srv.moves = false ∧ (s.pos.runDown = none
      ∨ ∃ d, s.pos.runDown = some d ∧ d.since + 300000 < max s.now (rise + high))) →
    ∃ t, exec (.ctlReadPulse rise high) s = .next t ∧ t.now = max s.now (rise + high) ∧ SameBut [.now] s t)
  ∧ (∀ (s : State) (rise high : Nat), ScheduleIdle s → PowerSteady s → LinesStand s → s.trc.writing = false →
    s.trc.search = none → s.now ≤ rise + high → s.pos.counter.natAbs < 100000 → s.pos.runDown = none →
    let long : Bool := s.pos.lastPulse.any fun last => rise - last ≤ 2 * high
    let window : Int → List ReadPulse := fun frame => ⟨frame, long⟩ :: s.pos.window.take 59
    let longs : Int → List ReadPulse := fun frame => (window frame).filter fun p => p.long
    let full : Int → Prop := fun frame => (window frame).length = 60 ∧ 48 ≤ (longs frame).length
    let lowest : Int → Int → Prop := fun frame m => (∀ p ∈ longs frame, m ≤ p.frame) ∧ ∃ p ∈ longs frame, m = p.frame
    (∀ m : Int, s.srv.row = .cue → full (s.pos.counter + 1) → lowest (s.pos.counter + 1) m →
      ∃ t, exec (.ctlReadPulse rise high) s = .next t ∧ t.pos.counter = s.pos.counter + 1 ∧ t.pos.lastMark = some m
        ∧ t.pos.window = [] ∧ SameBut [.now, .free, .pos] s t)
    ∧ (s.srv.row = .cue → ¬full (s.pos.counter + 1) →
      ∃ t, exec (.ctlReadPulse rise high) s = .next t ∧ t.pos.counter = s.pos.counter + 1
        ∧ t.pos.lastMark = s.pos.lastMark ∧ t.pos.window = window (s.pos.counter + 1)
        ∧ SameBut [.now, .free, .pos] s t)
    ∧ (∀ m : Int, s.srv.row = .review → s.pos.pendingMark = none → full s.pos.counter → lowest s.pos.counter m →
      ∃ t, exec (.ctlReadPulse rise high) s = .next t ∧ t.pos.counter = s.pos.counter - 1
        ∧ t.pos.lastMark = s.pos.lastMark ∧ t.pos.pendingMark = some ⟨m, 0⟩ ∧ t.pos.window = window s.pos.counter
        ∧ SameBut [.now, .free, .pos] s t)
    ∧ (s.srv.row = .review → s.pos.pendingMark = none → ¬full s.pos.counter →
      ∃ t, exec (.ctlReadPulse rise high) s = .next t ∧ t.pos.counter = s.pos.counter - 1
        ∧ t.pos.lastMark = s.pos.lastMark ∧ t.pos.pendingMark = none ∧ t.pos.window = window s.pos.counter
        ∧ SameBut [.now, .free, .pos] s t)
    ∧ (∀ (m : Int) (shorts : Nat), s.srv.row = .review → s.pos.pendingMark = some ⟨m, shorts⟩ → shorts < 8 →
      ∃ t, exec (.ctlReadPulse rise high) s = .next t ∧ t.pos.counter = s.pos.counter - 1
        ∧ SameBut [.now, .free, .pos] s t
        ∧ (long = true → t.pos.pendingMark = some ⟨min m s.pos.counter, 0⟩ ∧ t.pos.lastMark = s.pos.lastMark
          ∧ t.pos.window = window s.pos.counter)
        ∧ (long = false → shorts < 7 → t.pos.pendingMark = some ⟨m, shorts + 1⟩ ∧ t.pos.lastMark = s.pos.lastMark
          ∧ t.pos.window = window s.pos.counter)
        ∧ (long = false → shorts = 7 →
          t.pos.pendingMark = none ∧ t.pos.lastMark = some m ∧ t.pos.window = [])))
  ∧ (∀ (s : State) (rise high last : Nat) (k : Speed), ScheduleIdle s → PowerSteady s → LinesStand s →
    s.trc.writing = false → s.trc.search = none → s.now ≤ rise + high → s.pos.lastPulse = some last →
    s.pos.window = [] → s.srv.row = .play → s.trc.st = .play → s.srv.capLock = true → s.srv.run = none → k ≠ s.srv.speed →
    s.srv.candidate = some k → s.srv.detCount < 8 →
    (((rise - last : Nat) : Int) - (Config.framePeriod s.straps.fr30 * s.srv.speed.m / k.m : Nat)).natAbs
      ≤ Config.framePeriod s.straps.fr30 * s.srv.speed.m / k.m / 8 →
    ∃ t, exec (.ctlReadPulse rise high) s = .next t ∧ SameBut [.now, .free, .pos, .srv, .trc] s t
      ∧ (s.srv.detCount < 7 → t.srv.detCount = s.srv.detCount + 1 ∧ t.srv.candidate = some k
        ∧ t.srv.speed = s.srv.speed ∧ t.srv.capLock = true ∧ t.trc = s.trc)
      ∧ (s.srv.detCount = 7 → t.srv.detCount = 0 ∧ t.srv.candidate = none ∧ t.srv.speed = k
        ∧ t.srv.origin = .detected ∧ t.srv.capLock = false ∧ t.trc.capAllow = some t.now))

/-- R49, R50: in PLAY a blank of 8 frame periods adds 8 to the counter from the capstan, and each further frame period 1;
in CUE a blank of 1,000 ms sets UNSURE and the counter holds. That a further frame leaves the source as it stands, CTL after a
COUNTER_RESET in the running extrapolation, is the model's choice (log entry 44). -/
def Obligations.BlankTapeExtrapolatesOrSetsUnsure : Prop :=
  ∀ (s : State) (since : Nat), ScheduleIdle s → PowerSteady s → LinesStand s → s.trc.st ≠ .seek →
    s.pos.counter.natAbs < 100000 →
    (s.srv.row = .play → s.pos.extrap = .off → s.pos.blank = .running since →
      ∃ t, exec .extrapolationStart s = .next t
        ∧ t.now = max s.now (since + 8 * Config.framePeriod s.straps.fr30)
        ∧ t.pos = { s.pos with
            counter := s.pos.counter + 8, capSource := true, blank := .stopped,
            extrap := .running (since + 8 * Config.framePeriod s.straps.fr30) }
        ∧ SameBut [.now, .pos] s t)
    ∧ (s.pos.extrap = .running since →
      ∃ t, exec .extrapolatedFrame s = .next t
        ∧ t.now = max s.now (since + Config.framePeriod s.straps.fr30)
        ∧ t.pos = { s.pos with
            counter := s.pos.counter + 1, extrap := .running (since + Config.framePeriod s.straps.fr30) }
        ∧ SameBut [.now, .pos] s t)
    ∧ (s.srv.row = .cue → s.pos.blank = .running since →
      ∃ t, exec .unsureSet s = .next t ∧ t.now = max s.now (since + 1000000)
        ∧ t.pos = { s.pos with unsure := true, blank := .stopped } ∧ SameBut [.now, .pos] s t)

/-- R62: stages 1 to 3: R from the two periods and h, exact, with its bounds: the supply's share Fs is below 65536 before
its clamp, R is 0 when Fs ≤ h, R is at most 65536, and the divisor is at least 32770. -/
def Obligations.TapeShareFollowsStagesOneToThree : Prop :=
  ∀ ts tt h : Nat, 1 ≤ ts → ts ≤ 65535 → 1 ≤ tt → tt ≤ 65535 → h ≤ 16383 →
    let qs := ts * ts
    let qt := tt * tt
    let fs := min 65535 (qs * 65536 / (qs + qt))
    qs ≤ 4294836225 ∧ qt ≤ 4294836225 ∧ 2 ≤ qs + qt ∧ qs + qt ≤ 8589672450 ∧ qs * 65536 / (qs + qt) < 65536
    ∧ 32770 ≤ 65536 - 2 * h ∧ (fs - h) * 65536 < 4294967296
    ∧ (fs ≤ h → tapeShare ts tt h = 0)
    ∧ (h < fs → tapeShare ts tt h = min 65536 ((fs - h) * 65536 / (65536 - 2 * h)))

/-- R53: the counter's sign and four fields in the live COUNTER group, beside the raw counter; the fields together are the
counter again; the limit at FR 25 shows as +9:59:59:24. -/
def Obligations.DisplayFormReadsTheCounter : Prop :=
  (∀ (fr30 : Bool) (p : Pos) (h m s f : Nat), p.counter.natAbs ≤ (Config.counterLimit fr30).natAbs →
    displayOf (Config.fps fr30) p.counter = (h, m, s, f) →
    f = p.counter.natAbs % Config.fps fr30 ∧ s = p.counter.natAbs / Config.fps fr30 % 60
    ∧ m = p.counter.natAbs / (60 * Config.fps fr30) % 60 ∧ h = p.counter.natAbs / (3600 * Config.fps fr30) ∧ h ≤ 9
    ∧ p.counter.natAbs = ((h * 60 + m) * 60 + s) * Config.fps fr30 + f
    ∧ (liveCounter (Config.fps fr30) p).take 3 = signed24 p.counter
    ∧ (liveCounter (Config.fps fr30) p)[4]? = some (Byte.of m) ∧ (liveCounter (Config.fps fr30) p)[5]? = some (Byte.of s)
    ∧ (liveCounter (Config.fps fr30) p)[6]? = some (Byte.of f)
    ∧ ∀ b, (liveCounter (Config.fps fr30) p)[3]? = some b → b.getLsbD 7 = decide (p.counter < 0) ∧ b.toNat % 16 = h)
  ∧ Config.fps false = 25 ∧ Config.counterLimit false = 899999 ∧ displayOf 25 899999 = (9, 59, 59, 24)

/-! ### Tuner (chapter 4) -/

/-- R69, R70: a TUNE with MAIN_GOOD: DIRECT takes the divider and PRESET the preset's divider, offset and network; SETTLING
begins and the word of the working divider is sent, the tag is the request's; ACCEPTED. LINE is taken at once, and tracking
hold clears (R76); DONE. -/
def Obligations.TuneTakesItsSource : Prop :=
  ∀ s : State, HostRuns s → ScheduleIdle s → s.pins.mainGood = true → s.tun.owner = .panel → s.tun.scan = none →
    s.tun.sending = none → s.tun.st ≠ .locked →
    (s.rqu.arg0 = 2 → 1600 ≤ s.rqu.arg12 → s.rqu.arg12 ≤ 18000 →
      ∃ t, exec .tune s = .next t ∧ t.tun.st = .settling ∧ t.tun.kind = .direct ∧ t.tun.preset = none
        ∧ t.tun.base = s.rqu.arg12 ∧ t.tun.offset = 0 ∧ t.tun.net = 0 ∧ t.tun.hold = false ∧ t.tun.tag = s.rqu.tag
        ∧ t.tun.sending = some ⟨s.rqu.arg12, bandOf (setIf s.mpath.settings) s.rqu.arg12⟩
        ∧ t.tun.presets = s.tun.presets
        ∧ Answered 0x21 [] [] (answer .accepted) s t ∧ SameBut [.tun, .mem, .mpath, .rqu] s t)
    ∧ (s.rqu.arg0 = 1 → 1 ≤ s.rqu.arg12 → s.rqu.arg12 ≤ 99 → presetOccupied s.tun.presets s.rqu.arg12 = true →
      1600 ≤ presetTuned s.tun.presets s.rqu.arg12 → presetTuned s.tun.presets s.rqu.arg12 ≤ 18000 →
      ∃ t, exec .tune s = .next t ∧ t.tun.st = .settling ∧ t.tun.kind = .preset
        ∧ t.tun.preset = some s.rqu.arg12 ∧ t.tun.base = presetDivider s.tun.presets s.rqu.arg12
        ∧ t.tun.offset = presetOffset s.tun.presets s.rqu.arg12 ∧ t.tun.net = presetNet s.tun.presets s.rqu.arg12
        ∧ t.tun.hold = false ∧ t.tun.tag = s.rqu.tag
        ∧ (t.tun.sending.map fun w => (w.divider : Int)) = some (presetTuned s.tun.presets s.rqu.arg12)
        ∧ Answered 0x21 [] [] (answer .accepted) s t ∧ SameBut [.tun, .mem, .mpath, .rqu] s t)
    ∧ (s.rqu.arg0 = 3 →
      ∃ t, exec .tune s = .next t
        ∧ t.tun = { s.tun with st := .line, kind := .line, preset := none, net := 0, hold := false, quiet := false }
        ∧ Answered 0x21 [] [] (answer .done) s t ∧ SameBut [.tun, .mem, .mpath, .rqu] s t)

/-- R68: a word on the synthesiser link: the divider low byte first, the band byte and the control byte, 32 bits each byte
most significant bit first; when it ends the waiting word, if any, is sent. -/
def Obligations.SynthesiserWordsAreSent : Prop :=
  (∀ (s : State) (w : SynthWord), s.tun.sending = some w →
    tenLevel s = true ∧ (linkBits s).length = 32
    ∧ w.bytes = [Byte.of w.divider, Byte.of (w.divider / 256),
        (match w.band with | .low => 0x11 | .mid => 0x12 | .high => 0x14), 0xC2]
    ∧ ∀ i, i < 32 → (linkBits s)[i]? = (w.bytes[i / 8]?).map fun b => b.getLsbD (7 - i % 8))
  ∧ ∀ (s : State) (w : SynthWord), ScheduleIdle s → PowerSteady s → LinesStand s → s.tun.sending = some w →
    ∃ t, exec .synthWordEnd s = .next t ∧ t.tun = { s.tun with sending := s.tun.waiting, waiting := none }
      ∧ SameBut [.tun] s t

/-- R71, R73, R90: with the link idle, a first reading with AFT_HI alone starts the acquisition and steps the offset up, and
its word is sent; the second centred reading with sync locks: LOCKED, the slicer waits for a field, and TUNE LOCKED is
posted with the tag. -/
def Obligations.AcquisitionStepsAndLocks : Prop :=
  (∀ (s : State) (sync : Bool), ScheduleIdle s → PowerSteady s → LinesStand s → s.pins.mainGood = true →
    s.tun.st = .settling → s.tun.scan = none → s.tun.sending = none → s.tun.waiting = none → s.tun.kind = .direct →
    -24 ≤ s.tun.offset → s.tun.offset < 24 → 1600 ≤ s.tun.base + s.tun.offset → s.tun.base + s.tun.offset < 18000 →
    0 < s.tun.base →
    ∃ t, exec (.settleEnd ⟨true, false, sync⟩) s = .next t
      ∧ t.tun.st = .acquire ∧ t.tun.samples = 1 ∧ t.tun.centre = 0 ∧ t.tun.offset = s.tun.offset + 1
      ∧ (t.tun.sending.map fun w => (w.divider : Int)) = some (s.tun.base + s.tun.offset + 1)
      ∧ t.tun.base = s.tun.base ∧ t.tun.kind = .direct ∧ t.tun.tag = s.tun.tag
      ∧ t.pins = { s.pins with aftHi := true, aftLo := false, syncOk := sync } ∧ SameBut [.tun, .pins] s t)
  ∧ (∀ s : State, ScheduleIdle s → PowerSteady s → Drained s → EventRoom 1 s → s.tun.st = .acquire →
    s.tun.scan = none → s.tun.kind = .direct → s.tun.preset = none → s.tun.sending = none → s.tun.waiting = none →
    s.tun.centre = 1 →
    ∃ t, exec (.afcSample ⟨false, false, true⟩) s = .next t
      ∧ t.tun = { s.tun with
          st := .locked, samples := s.tun.samples + 1, centre := 2, offCentre := 0, syncLoss := 0, quiet := false }
      ∧ t.lds = { s.lds with st := .waitField }
      ∧ t.pins = { s.pins with aftHi := false, aftLo := false, syncOk := true }
      ∧ Posted [evTune 1 s.tun.tag none s.tun.offset] s t ∧ SameBut [.tun, .lds, .pins, .mpath, .rqu] s t)

/-- R74, R75: in LOCKED a centred sample with sync clears the tracking counts, and the third off-centre one in succession
steps the offset; the second one without sync loses the signal: TUNE LOST is posted with tag 0, the slicer is off, and an
acquisition begins with that sample. In NO_SIGNAL a sample with sync starts an acquisition that reports no failure, and one
without leaves the tuner as it is. That the tune tag itself becomes 0 in both is the model's choice (log entry 46). -/
def Obligations.TrackingAndNoSignalWatch : Prop :=
  (∀ s : State, ScheduleIdle s → PowerSteady s → LinesStand s → s.tun.st = .locked →
    ∃ t, exec (.trackingSample ⟨false, false, true⟩) s = .next t
      ∧ t.tun = { s.tun with syncLoss := 0, offCentre := 0 }
      ∧ t.pins = { s.pins with aftHi := false, aftLo := false, syncOk := true } ∧ SameBut [.tun, .pins] s t)
  ∧ (∀ s : State, ScheduleIdle s → PowerSteady s → LinesStand s → s.tun.st = .locked → s.tun.hold = false →
    s.tun.offCentre = 2 → s.tun.scan = none → s.tun.kind = .direct → s.pins.mainGood = true → s.tun.sending = none →
    -24 < s.tun.offset → s.tun.offset ≤ 24 → 1600 < s.tun.base + s.tun.offset → s.tun.base + s.tun.offset ≤ 18000 →
    0 < s.tun.base →
    ∃ t, exec (.trackingSample ⟨false, true, true⟩) s = .next t
      ∧ t.tun.offset = s.tun.offset - 1 ∧ t.tun.offCentre = 0 ∧ t.tun.syncLoss = 0 ∧ t.tun.st = .locked
      ∧ (t.tun.sending.map fun w => (w.divider : Int)) = some (s.tun.base + s.tun.offset - 1)
      ∧ SameBut [.tun, .pins] s t)
  ∧ (∀ s : State, ScheduleIdle s → PowerSteady s → Drained s → EventRoom 1 s → s.tun.st = .locked → s.tun.syncLoss = 1 →
    s.tun.scan = none → s.tun.kind = .direct → s.tun.owner = .panel →
    ∃ t, exec (.trackingSample ⟨false, false, false⟩) s = .next t
      ∧ t.tun = { s.tun with
          st := .acquire, samples := 1, centre := 0, offCentre := 0, syncLoss := 0, tag := 0, quiet := t.tun.quiet }
      ∧ t.lds.st = .off ∧ t.lds.fifo = []
      ∧ t.pins = { s.pins with aftHi := false, aftLo := false, syncOk := false }
      ∧ Posted [evTune 4 0 s.tun.preset s.tun.offset] s t ∧ SameBut [.tun, .lds, .pins, .mpath, .rqu] s t)
  ∧ (∀ s : State, ScheduleIdle s → PowerSteady s → LinesStand s → s.tun.st = .noSignal → s.tun.kind = .direct →
    s.tun.scan = none →
    (∃ t, exec (.noSignalWatch ⟨false, false, false⟩) s = .next t ∧ t.tun = s.tun
      ∧ t.pins = { s.pins with aftHi := false, aftLo := false, syncOk := false } ∧ SameBut [.pins] s t)
    ∧ ∃ t, exec (.noSignalWatch ⟨false, false, true⟩) s = .next t
      ∧ t.tun = { s.tun with
          st := .acquire, samples := 1, centre := 1, offCentre := 0, syncLoss := 0, quiet := true, tag := 0 }
      ∧ SameBut [.tun, .pins] s t)

/-- R76, R77: FINE up in a locked preset: tracking hold, the offset one higher, its word sent, the offset byte of the preset
written by a 1-byte group; DONE.
R85, R198: STORE of a locked DIRECT tuning into preset n: the 16 bytes of the record are handed as one group and taken
by the shadow, and the tuning becomes that of preset n; DONE. -/
def Obligations.FineAndStoreWriteThePreset : Prop :=
  (∀ (s : State) (n : Nat), HostRuns s → ScheduleIdle s → s.rqu.arg0 = 0x01 → s.tun.owner = .panel →
      s.tun.scan = none → s.tun.kind = .preset → s.tun.preset = some n → 1 ≤ n → n ≤ 99 → s.tun.st = .locked →
      presetOccupied s.tun.presets n = true → s.pins.mainGood = true → s.tun.sending = none → s.tun.held = [] →
      0 < s.tun.base → -24 ≤ s.tun.offset → s.tun.offset < 24 → 1600 ≤ s.tun.base + s.tun.offset →
      s.tun.base + s.tun.offset < 18000 → presetOffset s.tun.presets n ≠ s.tun.offset + 1 →
      ∃ t, exec .fine s = .next t ∧ t.tun.offset = s.tun.offset + 1 ∧ t.tun.hold = true ∧ t.tun.st = .locked
        ∧ (t.tun.sending.map fun w => (w.divider : Int)) = some (s.tun.base + s.tun.offset + 1)
        ∧ t.tun.presets = s.tun.presets.write (16 * n + 3) (signedByte (s.tun.offset + 1))
        ∧ Answered 0x25 [] [mkGroup (0x400 + 16 * n + 3) [signedByte (s.tun.offset + 1)]] (answer .done) s t
        ∧ SameBut [.tun, .mem, .mpath, .rqu] s t)
  ∧ (∀ (s : State) (n : Nat), HostRuns s → ScheduleIdle s → s.rqu.arg0.toNat = n → 1 ≤ n → n ≤ 99 →
      s.tun.owner = .panel → s.tun.scan = none → s.tun.kind = .direct → s.tun.st = .locked →
      ∃ t, exec .store s = .next t ∧ t.tun.kind = .preset ∧ t.tun.preset = some n ∧ t.tun.st = .locked
        ∧ t.tun.base = s.tun.base ∧ t.tun.offset = s.tun.offset
        ∧ t.tun.presets = s.tun.presets.writeAll (16 * n)
            [0x01, Byte.of s.tun.base, Byte.of (s.tun.base / 256), signedByte s.tun.offset, 0, 0,
             0x20, 0x20, 0x20, 0x20, 0x20, 0, 0, 0, 0, 0]
        ∧ Answered 0x24 []
            [mkGroup (0x400 + 16 * n)
              [0x01, Byte.of s.tun.base, Byte.of (s.tun.base / 256), signedByte s.tun.offset, 0, 0,
               0x20, 0x20, 0x20, 0x20, 0x20, 0, 0, 0, 0, 0]] (answer .done) s t
        ∧ SameBut [.tun, .mem, .mpath, .rqu] s t)

/-- R79, R84: SCAN from the bottom going UP starts at divider 1,600 in phase STEP with its word sent, ACCEPTED; SCAN_STOP
ends it: SCAN STOPPED is posted with the scan's tag, and a DIRECT tune of the working divider follows; DONE. -/
def Obligations.ScanStartsAndStops : Prop :=
  (∀ s : State, HostRuns s → ScheduleIdle s → s.rqu.arg0 = 0 → s.rqu.arg12 = 0 → s.tun.owner = .panel →
    s.tun.scan = none → s.pins.mainGood = true → s.tun.sending = none → s.tun.st ≠ .locked →
    (freePreset s.tun.presets (setScanStart s.mpath.settings)).isSome →
    ∃ t, exec .scan s = .next t
      ∧ t.tun.scan = some { dir := .up, tag := s.rqu.tag, base := 1600, phase := .step, station := none }
      ∧ t.tun.st = .settling ∧ t.tun.kind = .scan ∧ t.tun.preset = none ∧ t.tun.offset = 0
      ∧ (t.tun.sending.map fun w => w.divider) = some 1600
      ∧ Answered 0x22 [] [] (answer .accepted) s t ∧ SameBut [.tun, .mem, .mpath, .rqu] s t)
  ∧ (∀ (s : State) (k : Scan), HostRuns s → ScheduleIdle s → EventRoom 1 s → s.tun.scan = some k → k.phase = .step →
    0 < k.base → s.tun.offset = 0 → s.tun.held = [] → s.pins.mainGood = true → s.tun.sending = none →
    s.tun.st = .settling →
    ∃ t, exec .scanStop s = .next t ∧ t.tun.scan = none ∧ t.tun.kind = .direct ∧ t.tun.base = k.base
      ∧ t.tun.offset = 0 ∧ t.tun.st = .settling ∧ t.tun.tag = 0
      ∧ (t.tun.sending.map fun w => w.divider) = some k.base
      ∧ Answered 0x23 [evScanEnd 0xF3 k.tag] (eventGroups s [evScanEnd 0xF3 k.tag]) (answer .done) s t
      ∧ SameBut [.tun, .mem, .mpath, .rqu] s t)

/-- R80, R82, R83: without sync a step test steps the scan by 4 and sends the word; with sync it starts the acquisition.
The end of a dwell with no NAME stores the station with five spaces in the lowest free preset, posts SCAN FOUND with its
tuned divider, and the scan resumes 16 further. -/
def Obligations.ScanStepsAndStoresStations : Prop :=
  (∀ (s : State) (k : Scan), ScheduleIdle s → PowerSteady s → LinesStand s → s.tun.scan = some k → k.phase = .step →
    k.dir = .up → 1600 ≤ k.base → k.base + 4 ≤ 18000 → s.tun.sending = none → s.tun.waiting = none →
    s.tun.st = .settling → s.pins.mainGood = true →
    (∃ t, exec (.scanStepTest ⟨false, false, false⟩) s = .next t
      ∧ t.tun.scan = some { k with base := k.base + 4, phase := .step, station := none } ∧ t.tun.st = .settling
      ∧ t.tun.offset = 0 ∧ (t.tun.sending.map fun w => w.divider) = some (k.base + 4)
      ∧ SameBut [.tun, .pins] s t)
    ∧ ∃ t, exec (.scanStepTest ⟨false, false, true⟩) s = .next t
      ∧ t.tun.scan = some { k with phase := .acquire } ∧ t.tun.st = .acquire ∧ t.tun.samples = 1
      ∧ t.tun.centre = 1 ∧ SameBut [.tun, .pins] s t)
  ∧ (∀ (s : State) (k : Scan) (n : Nat), ScheduleIdle s → PowerSteady s → Drained s → EventRoom 1 s →
    s.tun.scan = some k → k.phase = .dwell → k.dir = .up → 1624 ≤ k.base → k.base + 64 ≤ 18000 → -24 ≤ s.tun.offset →
    s.tun.offset ≤ 24 → s.tun.sending = none → s.tun.st = .locked → s.pins.mainGood = true → s.tun.held = [] →
    freePreset s.tun.presets (setScanStart s.mpath.settings) = some n →
    ∃ t, exec .dwellTimeout s = .next t ∧ t.tun.st = .settling
      ∧ t.tun.scan = some { k with base := (k.base + s.tun.offset + 16).toNat, phase := .step, station := none }
      ∧ t.tun.offset = 0 ∧ t.lds.st = .off
      ∧ t.tun.presets = s.tun.presets.writeAll (16 * n) (presetRecord k.base s.tun.offset 0 noName)
      ∧ Appended [evScanFound n k.tag (k.base + s.tun.offset).toNat] s t
      ∧ t.mpath.queue = mkGroup (0x400 + 16 * n) (presetRecord k.base s.tun.offset 0 noName)
          :: eventGroups s [evScanFound n k.tag (k.base + s.tun.offset).toNat]
      ∧ SameBut [.tun, .lds, .mpath, .rqu] s t)

/-! ### Line data (chapter 5) -/

/-- R91, R92, R93: a field start runs the slicer, sets the line count to 0 and takes the field window; a line start counts
the line, up to 255, and looks for a run-in on an examined line; 16 alternating bits from a 1 and the framing code 0x9B
frame the line. -/
def Obligations.FieldsLinesAndFraming : Prop :=
  (∀ (s : State) (at_ : Nat), ScheduleIdle s → PowerSteady s → LinesStand s → s.pins.fieldFirst = true →
    s.lds.st ≠ .off → s.now ≤ at_ →
    ∃ t, exec (.fieldStart at_) s = .next t ∧ t.now = at_ ∧ t.pins = { s.pins with fieldFirst := false }
      ∧ t.lds = { s.lds with
          st := .run, line := 0, field := s.lds.window, asm := .idle, bytes := [], searched := false }
      ∧ SameBut [.now, .pins, .lds] s t)
  ∧ (∀ s : State, ScheduleIdle s → PowerSteady s → LinesStand s → s.lds.st = .run →
    ∃ t, exec .lineStart s = .next t ∧ t.lds.line = min 255 (s.lds.line + 1) ∧ t.lds.bytes = []
      ∧ t.lds.fifo = s.lds.fifo
      ∧ t.lds.asm = (if s.lds.field.first ≤ min 255 (s.lds.line + 1)
            ∧ min 255 (s.lds.line + 1) < s.lds.field.first + s.lds.field.size
            ∧ s.lds.field.mask.getLsbD (min 255 (s.lds.line + 1) - s.lds.field.first) = true then .runIn else .idle)
      ∧ SameBut [.lds] s t)
  ∧ (∀ (s : State) (more : List Bool), ScheduleIdle s → PowerSteady s → LinesStand s → s.lds.asm = .runIn →
    s.lds.searched = false →
    ∃ t, exec (.framingCodeFound
        ([true, false, true, false, true, false, true, false, true, false, true, false, true, false, true, false]
          ++ [true, true, false, true, true, false, false, true] ++ more)) s = .next t
      ∧ t.lds = { s.lds with asm := .framed, bytes := [] } ∧ SameBut [.lds] s t)

/-- R94, R95, R98, R100: sixteen nine-bit bytes of odd parity whose check byte is the sum of the others yield, with a LABEL's
type and length and a status of 0 to 3, one LABEL packet to the FIFO and one take due; one byte of even parity yields
nothing.
R101, R102, R111, R112: a due take removes the oldest packet of its type. CLK holds the sample of a good TIME packet
with its step; SCH with no occurrence, and TUN outside a dwell, take theirs for nothing more.
R103: a take that was due when the FIFO was emptied finds nothing, whatever has joined since. -/
def Obligations.PacketsJoinAndLeaveTheFifo : Prop :=
  (∀ (s : State) (bytes : List (BitVec 9)), ScheduleIdle s → PowerSteady s → LinesStand s → s.lds.asm = .framed →
      s.lds.bytes = [] → bytes.length = 16 →
      (∀ (d : Vector Byte 16), bytes.map data9 = d.toList → (∀ b ∈ bytes, ones9 b % 2 = 1) →
        d[15] = checkSum (d.toList.take 15) → d[0] = 0x27 → d[7].toNat ≤ 3 →
        (∀ p ∈ s.lds.fifo, p.isLabel = false) → s.lds.fifo.length < 8 →
        ∃ t, exec (.linePacketComplete bytes) s = .next t
          ∧ t.lds.fifo = s.lds.fifo ++ [.label (d[1].toNat + 256 * d[2].toNat) d[3] d[4] d[5] d[6] d[7].toNat]
          ∧ t.lds.schTakes = s.lds.schTakes + 1 ∧ t.lds.clkTakes = s.lds.clkTakes ∧ t.lds.asm = .done
          ∧ SameBut [.lds] s t)
      ∧ ((∃ b ∈ bytes, ones9 b % 2 = 0) →
        ∃ t, exec (.linePacketComplete bytes) s = .next t ∧ t.lds.fifo = s.lds.fifo
          ∧ t.lds.schTakes = s.lds.schTakes ∧ t.lds.clkTakes = s.lds.clkTakes ∧ t.lds.asm = .done ∧ SameBut [.lds] s t))
  ∧ ((∀ (s : State) (y mo d h mi sec code : Byte), ScheduleIdle s → PowerSteady s → LinesStand s → 0 < s.lds.clkTakes →
      s.lds.clkVoid = 0 →
      s.lds.fifo = [.time y mo d h mi sec code] → setBroadcast s.mpath.settings = true → s.clk.sample = none →
      validDate y.toNat mo.toNat d.toNat = true → h.toNat ≤ 23 → mi.toNat ≤ 59 → sec.toNat ≤ 59 →
      -26 ≤ code.toInt → code.toInt ≤ 28 →
      ∃ t, exec .timeTake s = .next t
        ∧ t.lds = { s.lds with fifo := [], clkTakes := s.lds.clkTakes - 1 }
        ∧ t.clk = { s.clk with
            sample := some
              ⟨((⟨y.toNat, mo.toNat, d.toNat, h.toNat, mi.toNat, sec.toNat⟩ : DateTime).secs : Int) - s.clk.time.secs,
               code.toInt, 0⟩ }
        ∧ SameBut [.lds, .clk] s t)
    ∧ (∀ (s : State) (net status : Nat) (mo d h mi : Byte), ScheduleIdle s → PowerSteady s → LinesStand s →
      0 < s.lds.schTakes → s.lds.schVoid = 0 → s.lds.fifo = [.label net mo d h mi status] →
      ∃ t, exec .labelTake s = .next t ∧ t.lds = { s.lds with fifo := [], schTakes := s.lds.schTakes - 1 }
        ∧ SameBut [.lds] s t)
    ∧ (∀ (s : State) (net : Nat) (chars : List Byte), ScheduleIdle s → PowerSteady s → LinesStand s →
      0 < s.lds.tunTakes → s.lds.tunVoid = 0 → s.lds.fifo = [.name net chars] → s.tun.scan = none →
      ∃ t, exec .nameTake s = .next t ∧ t.lds = { s.lds with fifo := [], tunTakes := s.lds.tunTakes - 1 }
        ∧ SameBut [.lds] s t))
  ∧ (∀ s : State, ScheduleIdle s → PowerSteady s → LinesStand s →
    (0 < s.lds.clkTakes → 0 < s.lds.clkVoid → ∃ t, exec .timeTake s = .next t
      ∧ t.lds = { s.lds with clkTakes := s.lds.clkTakes - 1, clkVoid := s.lds.clkVoid - 1 } ∧ SameBut [.lds] s t)
    ∧ (0 < s.lds.schTakes → 0 < s.lds.schVoid → ∃ t, exec .labelTake s = .next t
      ∧ t.lds = { s.lds with schTakes := s.lds.schTakes - 1, schVoid := s.lds.schVoid - 1 } ∧ SameBut [.lds] s t)
    ∧ (0 < s.lds.tunTakes → 0 < s.lds.tunVoid → ∃ t, exec .nameTake s = .next t
      ∧ t.lds = { s.lds with tunTakes := s.lds.tunTakes - 1, tunVoid := s.lds.tunVoid - 1 } ∧ SameBut [.lds] s t))

/-! ### Clock (chapter 6) -/

/-- R105, R107: the second's advance below the limit gives the valid date-time one second later by the calendar, and at the
limit holds it and sets LIMIT. In BACKUP too. -/
def Obligations.SecondAdvanceFollowsCalendar : Prop :=
  ∀ s : State, ScheduleIdle s → (s.pwr.power = .backup ∨ (PowerSteady s ∧ LinesStand s)) → s.sch.claim = none →
    s.clk.time.wf = true →
    (s.clk.time ≠ limitTime → ∃ t, exec .secondAdvance s = .next t ∧ t.clk.time.secs = s.clk.time.secs + 1
      ∧ t.clk.time.wf = true ∧ t.clk.sub = 0 ∧ t.clk.limit = s.clk.limit ∧ t.clk.valid = s.clk.valid
      ∧ SameBut [.clk] s t)
    ∧ (s.clk.time = limitTime → ∃ t, exec .secondAdvance s = .next t ∧ t.clk.time = limitTime ∧ t.clk.limit = true
      ∧ t.clk.sub = 0 ∧ t.clk.valid = s.clk.valid ∧ SameBut [.clk] s t)

/-- R109, R110: SET_TIME with a valid date and time while no occurrence runs: the time is set whole, the sub-second count is
0, valid is true, LIMIT and the held sample are cleared, CLOCK STEPPED by the host is posted with the step; DONE. -/
def Obligations.SetTimeSetsTheClock : Prop :=
  ∀ s : State, HostRuns s → ScheduleIdle s → EventRoom 1 s → s.clk.running = false →
    validDate s.rqu.arg0.toNat s.rqu.arg1.toNat s.rqu.arg2.toNat = true → s.rqu.arg3.toNat ≤ 23 →
    s.rqu.arg4.toNat ≤ 59 → s.rqu.arg5.toNat ≤ 59 →
    let new : DateTime := ⟨s.rqu.arg0.toNat, s.rqu.arg1.toNat, s.rqu.arg2.toNat, s.rqu.arg3.toNat, s.rqu.arg4.toNat,
      s.rqu.arg5.toNat⟩
    ∃ t, exec .setTime s = .next t
      ∧ t.clk = { s.clk with time := new, sub := 0, limit := false, valid := true, sample := none }
      ∧ t.mem.read (windowBase s + 0x017) = 0x31
      ∧ (∀ a, a ≠ windowBase s + 0x017 → t.mem.read a = s.mem.read a)
      ∧ Appended [evClock 0x01 0x01 ((new.secs : Int) - s.clk.time.secs)] s t
      ∧ t.mpath.queue =
          [mkGroup (0x100 + 8 * ((s.rqu.head + s.rqu.count) % 32))
            (entryBytes ((s.rqu.headSeq + s.rqu.count) % 256)
              (evClock 0x01 0x01 ((new.secs : Int) - s.clk.time.secs)) new),
           resultGroup (answer .done) s.rqu.tag]
      ∧ SameBut [.clk, .mem, .mpath, .rqu] s t

/-! ### Timed recording (chapter 7) -/

/-- R120: CLAIM of an EMPTY or ENDED entry while none is claimed makes it DRAFT with the claim timer at 0 and its status
handed; DONE. With another entry in DRAFT it answers BUSY and changes nothing; an index above 15 answers BAD_ARG 0.
R121: the claim timer counts the seconds, and a claim that reaches 120 s expires: the entry is EMPTY, the claim is none, CLAIM
EXPIRED is posted and the status handed. It expires in the second that makes 120; the row CLAIM_EXPIRY says the same of a claim
whose timer stands there (log entry 23). -/
def Obligations.ClaimsBeginAndExpire : Prop :=
  ((∀ (s : State) (k : Fin 16), HostRuns s → ScheduleIdle s → NoneWaiting s → s.rqu.arg0.toNat = k.val →
      s.sch.claim = none → (entry k s).state ∈ [EntryState.empty, .ended] →
      ∃ t, exec .claim s = .next t ∧ t.sch.claim = some (k, 0)
        ∧ EntrySet k { entry k s with state := .draft, wait := .none } s t ∧ t.sch.queue = [] ∧ t.sch.run = none
        ∧ t.sch.prog = s.sch.prog ∧ t.sch.held = s.sch.held ∧ t.sch.logSeq = s.sch.logSeq
        ∧ Answered 0x41 [] [statusGroup k { entry k s with state := .draft, wait := .none }] (answer .done) s t
        ∧ SameBut [.sch, .mem, .mpath, .rqu] s t)
    ∧ (∀ (s : State) (j k : Fin 16) (n : Nat), HostRuns s → ScheduleIdle s → s.rqu.arg0.toNat = k.val →
      s.sch.claim = some (j, n) → j ≠ k →
      ∃ t, exec .claim s = .next t ∧ Answered 0x41 [] [] (answer .busy) s t ∧ SameBut [.mem, .mpath, .rqu] s t)
    ∧ (∀ s : State, HostRuns s → ScheduleIdle s → 16 ≤ s.rqu.arg0.toNat →
      ∃ t, exec .claim s = .next t ∧ Answered 0x41 [] [] (badArg 0) s t ∧ SameBut [.mem, .mpath, .rqu] s t))
  ∧ (∀ (s : State) (k : Fin 16) (n : Nat), ScheduleIdle s → NoneWaiting s → PowerSteady s → Drained s → EventRoom 1 s →
      s.sch.claim = some (k, n) → 120 ≤ n →
      ∃ t, exec .claimExpiry s = .next t ∧ t.sch.claim = none ∧ t.sch.queue = []
        ∧ EntrySet k { entry k s with state := .empty, wait := .none } s t
        ∧ Appended [evClaimExpired k] s t
        ∧ Handed (eventGroups s [evClaimExpired k]
            ++ [statusGroup k { entry k s with state := .empty, wait := .none }]) s t
        ∧ SameBut [.sch, .mpath, .rqu] s t)
  ∧ (∀ (s : State) (k : Fin 16) (n : Nat), ScheduleIdle s → NoneWaiting s → PowerSteady s → Drained s → LinesStand s →
      EventRoom 1 s → s.sch.claim = some (k, n) →
      (n < 119 → ∃ t, exec .secondAdvance s = .next t ∧ t.sch = { s.sch with claim := some (k, n + 1) }
        ∧ SameBut [.clk, .sch] s t)
      ∧ (n = 119 → ∃ t, exec .secondAdvance s = .next t ∧ t.sch.claim = none ∧ t.sch.queue = []
        ∧ EntrySet k { entry k s with state := .empty, wait := .none } s t
        ∧ Appended [evClaimExpired k] s t
        ∧ Handed (eventGroups (s.setClk t.clk) [evClaimExpired k]
            ++ [statusGroup k { entry k s with state := .empty, wait := .none }]) s t
        ∧ SameBut [.clk, .sch, .mpath, .rqu] s t))

/-- R124, whole: DISCARD and DELETE, for every entry and every state of it. The entry that becomes EMPTY leaves the timer
queue, its status is handed, and no log record is made. -/
def Obligations.DiscardAndDeleteEmptyAnEntry : Prop :=
  ∀ s : State, HostRuns s → NothingUntold s → startReady s = false →
    (16 ≤ s.rqu.arg0.toNat →
      (∃ t, exec .discard s = .next t ∧ Answered 0x43 [] [] (badArg 0) s t ∧ SameBut [.mem, .mpath, .rqu] s t)
      ∧ ∃ t, exec .delete s = .next t ∧ Answered 0x44 [] [] (badArg 0) s t ∧ SameBut [.mem, .mpath, .rqu] s t)
    ∧ ∀ k : Fin 16, s.rqu.arg0.toNat = k.val →
      ((∀ n, s.sch.claim ≠ some (k, n)) →
        ∃ t, exec .discard s = .next t ∧ Answered 0x43 [] [] (answer .state) s t ∧ SameBut [.mem, .mpath, .rqu] s t)
      ∧ (∀ n, s.sch.claim = some (k, n) → ∃ t, exec .discard s = .next t ∧ t.sch.claim = none
        ∧ EntrySet k { entry k s with state := .empty, wait := .none } s t ∧ k ∉ t.sch.queue
        ∧ t.sch.run = s.sch.run ∧ t.sch.prog = s.sch.prog ∧ t.sch.logSeq = s.sch.logSeq ∧ t.sch.held = s.sch.held
        ∧ Answered 0x43 [] [statusGroup k { entry k s with state := .empty, wait := .none }] (answer .done) s t
        ∧ SameBut [.sch, .mem, .mpath, .rqu] s t)
      ∧ ((entry k s).state ∈ [EntryState.waiting, .ended] → (∀ n, s.sch.claim ≠ some (k, n)) →
        ∃ t, exec .delete s = .next t ∧ t.sch.claim = s.sch.claim
        ∧ EntrySet k { entry k s with state := .empty, wait := .none } s t ∧ k ∉ t.sch.queue
        ∧ t.sch.run = s.sch.run ∧ t.sch.prog = s.sch.prog ∧ t.sch.logSeq = s.sch.logSeq ∧ t.sch.held = s.sch.held
        ∧ Answered 0x44 [] [statusGroup k { entry k s with state := .empty, wait := .none }] (answer .done) s t
        ∧ SameBut [.sch, .mem, .mpath, .rqu] s t)
      ∧ ((entry k s).state = .empty →
        ∃ t, exec .delete s = .next t ∧ Answered 0x44 [] [] (answer .done) s t ∧ SameBut [.mem, .mpath, .rqu] s t)
      ∧ ((entry k s).state ∈ [EntryState.draft, .preroll, .active, .paused] →
        ∃ t, exec .delete s = .next t ∧ Answered 0x44 [] [] (answer .state) s t ∧ SameBut [.mem, .mpath, .rqu] s t)

/-- R122, R123: COMMIT of the claimed entry: when its checks pass, the last-run date and the outcome are cleared, the next
occurrence is computed, the entry is WAITING and in the timer queue, the claim is none and the status is handed; DONE.
When a check fails it answers INVALID with the field's position and changes nothing. -/
def Obligations.CommitEntersTheQueue : Prop :=
  ∀ (s : State) (k : Fin 16) (n : Nat), HostRuns s → ScheduleIdle s → NoneWaiting s → s.rqu.arg0.toNat = k.val →
    s.sch.claim = some (k, n) →
    (∀ start, commitFails s.sch.prog k s.tun.presets (clockNow s) = none →
      nextOccurrence s.sch.prog k none (clockNow s) = some start →
      clockNow s + setLead s.mpath.settings < start →
      ∃ t, exec .commit s = .next t ∧ t.sch.claim = none ∧ t.sch.queue = [k] ∧ t.sch.run = none
        ∧ EntrySet k { Entry.start with state := .waiting, next := some start } s t
        ∧ t.sch.prog = s.sch.prog
        ∧ Answered 0x42 [] [statusGroup k { Entry.start with state := .waiting, next := some start }] (answer .done) s t
        ∧ SameBut [.sch, .mem, .mpath, .rqu] s t)
    ∧ (∀ field, commitFails s.sch.prog k s.tun.presets (clockNow s) = some field →
      ∃ t, exec .commit s = .next t ∧ Answered 0x42 [] [] ⟨.invalid, field⟩ s t ∧ SameBut [.mem, .mpath, .rqu] s t)

/-- R126: the occurrence that is found for an entry with a valid start time is one of its dates: its start is that date at
the start time, its stop lies later than the clock and within the clock's range, its date is later than the last-run date,
and for a repeat entry its weekday is in the mask. -/
def Obligations.NextOccurrenceQualifies : Prop :=
  ∀ (m : Memory) (k : Fin 16) (lastRun : Option Nat) (now start : Nat),
    nextOccurrence m k lastRun now = some start →
    ∃ day, start = occStart m k day ∧ now < occStop m k day ∧ occStop m k day ≤ limitTime.secs
      ∧ (∀ l, lastRun = some l → l < day)
      ∧ (progMask m k = 0 → onceDay m k = some day)
      ∧ (progMask m k ≠ 0 → (progMask m k).getLsbD (day % 7) = true)

/-- R127: the timer queue of the machine is that of its entries: so it is at reset, and every step keeps it so. It holds the
WAITING entries, each once, ordered by the start of their next occurrence, and two with the same start by the lower index. -/
def Obligations.TimerQueueIsOrdered : Prop :=
  (State.reset.sch.queue = queueOf State.reset.sch.entries)
  ∧ (∀ s t : State, s.sch.queue = queueOf s.sch.entries → step s = .next t → t.sch.queue = queueOf t.sch.entries)
  ∧ ∀ es : Vector Entry 16,
    (∀ k : Fin 16, k ∈ queueOf es ↔ (es.get k).state = .waiting) ∧ (queueOf es).Nodup
    ∧ (queueOf es).Pairwise fun j k => nextStart es j < nextStart es k ∨ (nextStart es j = nextStart es k ∧ j < k)

/-- R128, R129, R130, R131, R132, R184: in the second in which the one waiting entry comes due, with the clock valid, timer-on
set and the transport at rest under PANEL with a cassette and its tab, an entry of the line input pre-rolls: SCH takes the
transport and the tuner, tunes to the line, and hands RECORD with start paused; the tape threads; from STANDBY the deck wakes
with cause TIMER. With R unknown the entry's speed is used, flagged UNKNOWN_TAPE. With no cassette the occurrence of a once
entry ends MISSED, NO_CASSETTE, and with no tab MISSED, PROTECTED. With timer-on clear the entry waits with TIMER_OFF, and with
the clock not valid with CLOCK.
R134, R133: at the start of the occurrence in PREROLL start due becomes true; with the transport ready the entry becomes
ACTIVE, the retained record and the running report are set, catch-up begins by the scheduler's RESUME with the entry's mark
flag, and PROGRAMME is posted and the status handed. That a clear timer-on setting is met before an invalid clock is read from
the order of R128's table (log entry 32). That a once entry MISSED so has no next occurrence, though its occurrence is still
open, is the model's choice (log entry 68). -/
def Obligations.OccurrenceStarts : Prop :=
  (∀ (s : State) (k : Fin 16) (start : Nat), ComesDue k start s →
    (setTimerOn s.mpath.settings = true → s.clk.valid = true → s.trc.cassette = true → s.trc.tab = true →
      (∀ m, progKind s.sch.prog k = 3 → progFollow s.sch.prog k = false → speedOf (progSpeed s.sch.prog k) = some m →
      s.pos.r = none → s.tun.scan = none → s.tun.st ≠ .locked → s.tun.st ≠ .hold →
      ∃ t, exec .secondAdvance s = .next t
        ∧ t.sch.run = some { freshRun k start (stopOf s.sch.prog k start) false with speed := some m, unknownTape := true }
        ∧ t.sch.queue = [] ∧ t.sch.claim = s.sch.claim
        ∧ EntrySet k { entry k s with
            state := .preroll, wait := .none, speed := some m, late := false, short := false, unknownTape := true
            fallback := false } s t
        ∧ t.trc.owner = .schedule ∧ t.trc.st = .threading ∧ t.trc.pending = some ⟨.record m false true, ⟨0, .schedule⟩⟩
        ∧ t.trc.loadMotor = .forward ∧ t.pos.counter = s.pos.counter
        ∧ t.tun.owner = .schedule ∧ t.tun.st = .line ∧ t.tun.kind = .line
        ∧ t.pwr = (if s.pwr.power = .standby then
            { s.pwr with
              power := .on, phase := .rising, mainEn := true, railTimer := some s.now, cause := .timer, keySince := false
              wakeDue := some .timer }
          else s.pwr)
        ∧ Appended [evProgramme k .preroll .none .none] s t
        ∧ Handed (eventGroups (s.setClk t.clk) [evProgramme k .preroll .none .none] ++ [statusGroup k (entry k t)]) s t
        ∧ SameBut [.clk, .sch, .trc, .srv, .pos, .tun, .pwr, .mpath, .rqu] s t))
    ∧ (∀ reason, setTimerOn s.mpath.settings = true → s.clk.valid = true → progMask s.sch.prog k = 0 →
      (s.trc.cassette = false ∧ reason = .noCassette
        ∨ s.trc.cassette = true ∧ s.trc.tab = false ∧ reason = .protected_) →
      ∃ t, exec .secondAdvance s = .next t ∧ t.sch.run = none ∧ t.sch.queue = [] ∧ t.sch.claim = s.sch.claim
        ∧ EntrySet k { entry k s with state := .ended, next := none, wait := .none, outcome := .missed } s t
        ∧ t.sch.logSlot = (s.sch.logSlot + 1) % 16 ∧ t.sch.logSeq = (s.sch.logSeq + 1) % 65536
        ∧ Appended [evProgramme k .ended .missed reason, evLogged s.sch.logSlot s.sch.logSeq k] s t
        ∧ Handed [eventGroupAt (s.setClk t.clk) 0 (evProgramme k .ended .missed reason),
            mkGroup (0xC00 + 32 * s.sch.logSlot)
              (logBytes s.sch.prog k s.sch.logSeq (waitingFacts k (start / 86400) reason t)),
            eventGroupAt (s.setClk t.clk) 1 (evLogged s.sch.logSlot s.sch.logSeq k),
            statusGroup k (entry k t)] s t
        ∧ SameBut [.clk, .sch, .mpath, .rqu] s t)
    ∧ (∀ w, (setTimerOn s.mpath.settings = false ∧ w = WaitReason.timerOff
          ∨ setTimerOn s.mpath.settings = true ∧ s.clk.valid = false ∧ w = .clock) →
      ∃ t, exec .secondAdvance s = .next t ∧ t.sch.run = none ∧ t.sch.queue = [k]
        ∧ EntrySet k { entry k s with wait := w } s t ∧ SameBut [.clk, .sch] s t))
  ∧ (∀ (s : State) (c : Run), NothingUntold s → PowerSteady s → LinesStand s → s.sch.run = some c → c.label = false →
    c.ready = false → (entry c.entry s).state = .preroll → c.start ≤ clockNow s → clockNow s < c.stop →
    ∃ t, exec .occurrenceStartDue s = .next t ∧ t.sch = { s.sch with run := some { c with startDue := true } }
      ∧ SameBut [.sch] s t)
  ∧ (∀ (s : State) (c : Run) (m : Speed) (point : Int), NothingUntold s → PowerSteady s → Drained s → EventRoom 1 s →
    s.sch.run = some c → c.startDue = true → c.ready = true → c.speed = some m → (entry c.entry s).state = .preroll →
    s.trc.owner = .schedule → s.trc.st = .recPause → s.trc.phase = .atRest → s.trc.pausePoint = some point →
    s.pins.mainGood = true → s.pins.endSense = false → s.srv.row = .rest →
    ∃ t, exec .occurrenceStart s = .next t
      ∧ EntrySet c.entry { entry c.entry s with
          state := .active, lastRun := some c.date, speed := some m, late := c.late, short := c.short,
          unknownTape := c.unknownTape, fallback := c.fallback, wait := .none } s t
      ∧ t.sch.run = some { c with
          actualStart := some s.clk.time, counterAtStart := point, remaining := t.pos.quote m }
      ∧ t.clk = { s.clk with running := true, retained := ⟨true, c.entry, c.date, s.clk.time, point⟩ }
      ∧ t.trc.st = .recPause ∧ t.trc.phase = .catchUp ∧ t.trc.resumeBy = ⟨0, .schedule⟩
      ∧ t.trc.markDue = (s.trc.markDue || progMark s.sch.prog c.entry)
      ∧ t.srv.row = .catchUp ∧ t.srv.dir = .forward ∧ t.pos.counter = s.pos.counter
      ∧ Appended [evProgramme c.entry .active .none .none] s t
      ∧ Handed (eventGroups s [evProgramme c.entry .active .none .none] ++ [statusGroup c.entry (entry c.entry t)]) s t
      ∧ SameBut [.sch, .trc, .srv, .pos, .clk, .mpath, .rqu] s t)

/-- R125, R134, R139, R146: a run of a once entry that is ACTIVE ends by ABORT (ABORTED, HOST), at its stop (COMPLETE) or at
the label overrun limit (TRUNCATED, OVERRUN): PROGRAMME, the log record with LOGGED and the status go out in that order;
the entry is ENDED with the outcome and no next occurrence, which is the model's choice should its occurrence qualify still
(log entry 68); the tape stops with TRANSPORT; the transport and the tuner return to PANEL; the
retained record and the running report are cleared. -/
def Obligations.RunsEndWithTheirOutcome : Prop :=
  ∀ (cmd : Instr) (o : EndOutcome) (r : Reason) (s : State) (c : Run),
    (cmd, o, r) ∈
      [(Instr.abort, EndOutcome.aborted, Reason.host), (.occurrenceStopReached, .complete, .none),
       (.labelOverrunLimit, .truncated, .overrun)] →
    HostRuns s → NothingUntold s → EventRoom 3 s → s.rqu.held = [] → s.sch.run = some c →
    (entry c.entry s).state = .active → progMask s.sch.prog c.entry = 0 → s.sch.queue = [] → NoneWaiting s →
    s.trc.owner = .schedule → s.trc.st = .record → s.trc.pending = none → s.pins.mainGood = true →
    setAutoOff s.mpath.settings = false → s.clk.deferred = none → c.short = false →
    (cmd = .occurrenceStopReached → c.label = false ∧ c.stop ≤ clockNow s) →
    (cmd = .labelOverrunLimit → c.label = true ∧ c.stop + 10800 ≤ clockNow s) →
    ∃ t, exec cmd s = .next t
      ∧ t.sch.run = none ∧ t.sch.queue = [] ∧ t.sch.claim = s.sch.claim
      ∧ EntrySet c.entry { entry c.entry s with state := .ended, next := none, wait := .none, outcome := o } s t
      ∧ t.sch.logSlot = (s.sch.logSlot + 1) % 16 ∧ t.sch.logSeq = (s.sch.logSeq + 1) % 65536
      ∧ t.trc.st = .stop ∧ t.trc.owner = .panel ∧ t.trc.writing = false ∧ t.tun = { s.tun with owner := .panel }
      ∧ t.clk = { s.clk with running := false, retained := { s.clk.retained with valid := false } }
      ∧ t.pos.counter = s.pos.counter ∧ t.srv.row = .still
      ∧ t.mpath.queue =
          [eventGroupAt s 0 (evProgramme c.entry .ended o r),
           mkGroup (0xC00 + 32 * s.sch.logSlot) (logBytes s.sch.prog c.entry s.sch.logSeq (runFacts c o r 0 s)),
           eventGroupAt s 1 (evLogged s.sch.logSlot s.sch.logSeq c.entry),
           statusGroup c.entry (entry c.entry t)]
      ∧ t.rqu.held = eventGroupAt s 2 (evTransport .stop ⟨0, .schedule⟩)
          :: (if cmd = .abort then [resultGroup (answer .done) s.rqu.tag] else [])
      ∧ t.rqu.count = s.rqu.count + 3 ∧ t.rqu.newest = evTransport .stop ⟨0, .schedule⟩
      ∧ (cmd ≠ .abort → t.mem = s.mem)
      ∧ (cmd = .abort → RamWritten (windowBase s + 0x017) 0x45 s t)
      ∧ SameBut [.sch, .trc, .srv, .pos, .tun, .clk, .mem, .mpath, .rqu] s t

/-- R137, R138: with no packet of the network for 90 s from the label watch, or 60 s since the last one, a run before its
stop falls back to CLOCK mode, flagged LABEL_FALLBACK; in PREROLL start due becomes true, and an ACTIVE entry goes on. It does
so in the second that makes the 90 or the 60; the rows ABSENCE_TIMEOUT and LABEL_LOSS_TIMEOUT say the same of a timer that
stands there (log entry 23). -/
def Obligations.LabelTimeoutsFallBack : Prop :=
  ∀ (s : State) (c : Run), NothingUntold s → PowerSteady s → Drained s → LinesStand s → s.sch.run = some c →
    c.label = true → c.watch = true → c.ready = false → clockNow s < c.stop → (entry c.entry s).fallback = false →
    ((entry c.entry s).state = .preroll → c.seen = false → 90 ≤ c.absence →
      ∃ t, exec .absenceTimeout s = .next t
        ∧ t.sch.run = some { c with label := false, fallback := true, watch := false, startDue := true }
        ∧ EntrySet c.entry { entry c.entry s with fallback := true } s t
        ∧ Handed [statusGroup c.entry { entry c.entry s with fallback := true }] s t ∧ SameBut [.sch, .mpath] s t)
    ∧ ((entry c.entry s).state = .active → c.seen = true → 60 ≤ c.loss →
      ∃ t, exec .labelLossTimeout s = .next t
        ∧ t.sch.run = some { c with label := false, fallback := true, watch := false }
        ∧ EntrySet c.entry { entry c.entry s with fallback := true } s t
        ∧ Handed [statusGroup c.entry { entry c.entry s with fallback := true }] s t ∧ SameBut [.sch, .mpath] s t)
    ∧ (s.sch.queue = [] → s.sch.claim = none → clockNow s + 1 < c.stop → s.clk.time.wf = true → s.clk.time ≠ limitTime →
      NoneWaiting s →
      ((entry c.entry s).state = .preroll → c.seen = false → c.absence = 89 →
        ∃ t, exec .secondAdvance s = .next t
          ∧ t.sch.run = some { c with label := false, fallback := true, watch := false, startDue := true, absence := 90 }
          ∧ EntrySet c.entry { entry c.entry s with fallback := true } s t ∧ t.sch.queue = []
          ∧ Handed [statusGroup c.entry { entry c.entry s with fallback := true }] s t
          ∧ SameBut [.clk, .sch, .mpath] s t)
      ∧ ((entry c.entry s).state = .active → c.seen = true → c.loss = 59 →
        ∃ t, exec .secondAdvance s = .next t
          ∧ t.sch.run = some { c with label := false, fallback := true, watch := false, loss := 60 }
          ∧ EntrySet c.entry { entry c.entry s with fallback := true } s t ∧ t.sch.queue = []
          ∧ Handed [statusGroup c.entry { entry c.entry s with fallback := true }] s t
          ∧ SameBut [.clk, .sch, .mpath] s t))

/-! ### The memory path, requests and events (chapters 8 and 9) -/

/-- R152, R154, R155, R161: host writes. Above the RAM nothing happens; outside the window, and at a host-owned byte no
block takes, the byte lands in the RAM and the latch is released; at a part-owned or live byte the write is blocked and
PROTECT is posted. R168: at a request cell the byte lands in the RAM and in RQU's copy of it. -/
def Obligations.HostWritesByOwnerClass : Prop :=
  ∀ (s : State) (data : Byte), HostRuns s → ScheduleIdle s → LinesStand s →
    (∀ addr : BitVec 16, 0x8000 ≤ addr.toNat → exec (.hostWrite addr data) s = .next s)
    ∧ (∀ addr : BitVec 16, addr.toNat < 0x8000 →
        (addr.toNat < windowBase s ∨ windowBase s + 4096 ≤ addr.toNat
          ∨ windowBase s + 0xE00 ≤ addr.toNat
          ∨ (windowBase s + 0x400 ≤ addr.toNat ∧ addr.toNat < windowBase s + 0x410)
          ∨ (windowBase s + 0xA40 ≤ addr.toNat ∧ addr.toNat < windowBase s + 0xC00)
          ∨ (windowBase s + 0x01C ≤ addr.toNat ∧ addr.toNat < windowBase s + 0x020)) →
        ∃ t, exec (.hostWrite addr data) s = .next t ∧ RamWritten addr.toNat data s t
          ∧ t.mpath = { s.mpath with latch := none } ∧ SameBut [.mem, .mpath] s t)
    ∧ (∀ (n : Fin 7) (addr : BitVec 16), addr.toNat = windowBase s + 0x010 + n.val →
        ∃ t, exec (.hostWrite addr data) s = .next t ∧ RamWritten addr.toNat data s t
          ∧ t.mpath = { s.mpath with latch := none }
          ∧ t.rqu = (match n.val with
            | 0 => { s.rqu with tag := data }
            | 1 => { s.rqu with arg0 := data }
            | 2 => { s.rqu with arg1 := data }
            | 3 => { s.rqu with arg2 := data }
            | 4 => { s.rqu with arg3 := data }
            | 5 => { s.rqu with arg4 := data }
            | _ => { s.rqu with arg5 := data })
          ∧ SameBut [.mem, .mpath, .rqu] s t)
    ∧ (∀ off : Nat, ownerBlocked off = true → s.rqu.count = 0 → s.rqu.overflow = none →
        ∃ t, exec (.partOwnedWrite off data) s = .next t ∧ Blocked .owner off data s t ∧ SameBut [.mpath, .rqu] s t)

/-- R194, R58, R157, R156: host writes that shadows take: the settings, the profiles, a preset byte and a byte of the
claimed programme entry go to the RAM and to the shadow in one event. A preset's offset byte out of −24..+24 is blocked
with reason RANGE, and a programme byte without the claim with reason CLAIM. -/
def Obligations.ShadowsFollowHostWrites : Prop :=
  ∀ (s : State) (data : Byte), HostRuns s → ScheduleIdle s →
    (∀ off, off < 32 → s.pwr.held = [] → ∃ t, exec (.settingsWrite off data) s = .next t
      ∧ WritePassed (0x060 + off) data (s.mpath.settings.write off data) [] s t
      ∧ t.rqu = { s.rqu with irq := irqLevel t }
      ∧ t.lds.window = (if 6 ≤ off ∧ off ≤ 9 then setWindow (s.mpath.settings.write off data) else s.lds.window)
      ∧ t.lds.field = s.lds.field ∧ t.lds.fifo = s.lds.fifo ∧ SameBut [.mem, .mpath, .rqu, .lds] s t)
    ∧ (∀ off, off < 128 → s.pos.profile = none → ∃ t, exec (.profileWrite off data) s = .next t
      ∧ WritePassed (0x080 + off) data s.mpath.settings [] s t
      ∧ t.pos = { s.pos with profiles := s.pos.profiles.write off data } ∧ Appended [] s t
      ∧ SameBut [.mem, .mpath, .rqu, .pos] s t)
    ∧ (∀ off, off < 1584 → s.tun.held = [] → (off % 16 = 0 → data ≠ 0) →
      (off % 16 = 3 → -24 ≤ data.toInt ∧ data.toInt ≤ 24) → ∃ t, exec (.presetWrite off data) s = .next t
      ∧ WritePassed (0x410 + off) data s.mpath.settings [] s t
      ∧ t.tun = { s.tun with presets := s.tun.presets.write (16 + off) data } ∧ Appended [] s t
      ∧ SameBut [.mem, .mpath, .rqu, .tun] s t)
    ∧ (∀ off, off < 1584 → off % 16 = 3 → (data.toInt < -24 ∨ 24 < data.toInt) → s.rqu.count = 0 →
      s.rqu.overflow = none → ∃ t, exec (.presetWrite off data) s = .next t
      ∧ Blocked .range (0x410 + off) data s t ∧ SameBut [.mpath, .rqu] s t)
    ∧ (∀ (k : Fin 16) (n i : Nat), s.sch.claim = some (k, n) → i ≤ 16 →
      ∃ t, exec (.programmeWrite (32 * k.val + i) data) s = .next t
      ∧ WritePassed (0x200 + 32 * k.val + i) data s.mpath.settings [] s t
      ∧ t.sch = { s.sch with prog := s.sch.prog.write (32 * k.val + i) data } ∧ Appended [] s t
      ∧ SameBut [.mem, .mpath, .rqu, .sch] s t)
    ∧ (∀ off, off < 512 → s.sch.claim = none → s.rqu.count = 0 → s.rqu.overflow = none →
      ∃ t, exec (.programmeWrite off data) s = .next t
      ∧ Blocked .claim (0x200 + off) data s t ∧ SameBut [.mpath, .rqu] s t)

/-- R160, R161: a host read of the lowest byte of a live group answers from a fresh copy and latches it; of a later byte
of the latched group, from the copy, the highest byte releasing it; and outside the live block from the RAM. -/
def Obligations.LiveReadsGoThroughTheLatch : Prop :=
  ∀ s : State, HostRuns s → ScheduleIdle s → LinesStand s →
    (∀ (g : LiveGroup) (addr : BitVec 16), addr.toNat = windowBase s + g.range.1 →
      ∃ t, exec (.liveRead addr) s = .next t ∧ t.hd = some ((liveBytes g s).headD 0)
        ∧ t.mpath = { s.mpath with latch := some (g, liveBytes g s) } ∧ SameBut [.hd, .mpath] s t)
    ∧ (∀ (g : LiveGroup) (copy : List Byte) (i : Nat) (v : Byte) (addr : BitVec 16),
      s.mpath.latch = some (g, copy) → 0 < i → g.range.1 + i ≤ g.range.2 → copy[i]? = some v →
      addr.toNat = windowBase s + g.range.1 + i →
      ∃ t, exec (.liveRead addr) s = .next t ∧ t.hd = some v
        ∧ t.mpath = { s.mpath with latch := if g.range.1 + i = g.range.2 then none else some (g, copy) }
        ∧ SameBut [.hd, .mpath] s t)
    ∧ (∀ addr : BitVec 16, addr.toNat < 0x8000 → (addr.toNat < windowBase s + 0x020 ∨ windowBase s + 0x060 ≤ addr.toNat) →
      ∃ t, exec (.liveRead addr) s = .next t ∧ t.hd = some (s.mem.read addr.toNat) ∧ SameBut [.hd] s t)

/-- R168, R169: a code of no command answers UNKNOWN and changes nothing else.
R173: an acknowledgement of the head's sequence number removes the head, and with the OVERFLOW entry the overflow and
the refused count; any other value changes nothing of the event queue. The byte stands in the RAM either way. -/
def Obligations.AcknowledgementsAndUnknownCodes : Prop :=
  (∀ (s : State) (code : Byte), HostRuns s → ScheduleIdle s → knownCommand code = false →
      ∃ t, exec (.unknownCommand code) s = .next t ∧ Answered code [] [] (answer .unknown) s t
        ∧ SameBut [.mem, .mpath, .rqu] s t)
  ∧ (∀ (s : State) (seq : Byte), HostRuns s → ScheduleIdle s →
      (1 ≤ s.rqu.count → seq.toNat = s.rqu.headSeq → ∃ t, exec (.eventAck seq) s = .next t
        ∧ WritePassed 0x01B seq s.mpath.settings [] s t
        ∧ t.rqu = { s.rqu with
            head := (s.rqu.head + 1) % 32, headSeq := (s.rqu.headSeq + 1) % 256, count := s.rqu.count - 1,
            overflow := if s.rqu.overflow = some s.rqu.head then none else s.rqu.overflow,
            refused := if s.rqu.overflow = some s.rqu.head then 0 else s.rqu.refused, irq := irqLevel t }
        ∧ SameBut [.mem, .mpath, .rqu] s t)
      ∧ (s.rqu.count = 0 ∨ seq.toNat ≠ s.rqu.headSeq → ∃ t, exec (.eventAck seq) s = .next t
        ∧ WritePassed 0x01B seq s.mpath.settings [] s t ∧ t.rqu = { s.rqu with irq := irqLevel t }
        ∧ SameBut [.mem, .mpath, .rqu] s t))

/-- R162, R163: a drain writes the lowest pending byte of the oldest group to the RAM and nothing else there; the group
leaves the queue with its last pending byte. A free slot is granted to the block at the head of the grant list, which
hands its oldest held group: RQU, SCH (R118), TUN (R77, R85), whose shadow takes it at the handing, or PWR (R182, R190), whose
toggle the settings shadow takes at the handing. -/
def Obligations.PostedWritesDrainAndSlotsAreGranted : Prop :=
  (∀ (s : State) (g : WriteGroup) (rest : List WriteGroup) (i : Nat) (v : Byte), ScheduleIdle s → PowerSteady s →
    s.mem.wf = true → s.mpath.queue = g :: rest → s.mpath.grants = [] → firstPending g.bytes = some (i, v) → g.start ≠ 0 →
    ∃ t, exec .postedWriteDrain s = .next t ∧ RamWritten (windowBase s + (g.start + i)) v s t
      ∧ t.mpath = { s.mpath with
          queue := (if (g.bytes.drop (i + 1)).any (fun b => b.pending)
            then { g with bytes := passByte g.bytes i } :: rest else rest)
          urgent := urgentLevel t, hwait := urgentLevel t, cycleOpen := openAfter (closeCycle s) t }
      ∧ t.rqu = { s.rqu with irq := irqLevel t } ∧ SameBut [.mem, .mpath, .rqu] s t)
  ∧ (∀ (s : State) (g : WriteGroup) (held : List WriteGroup), ScheduleIdle s → PowerSteady s →
    s.mpath.queue.length < 4 → s.mpath.grants = [.rqu] → s.rqu.held = g :: held →
    ∃ t, exec .slotGrant s = .next t
      ∧ t.mpath = { s.mpath with
          queue := s.mpath.queue ++ [g], grants := [], urgent := urgentLevel t, hwait := urgentLevel t,
          cycleOpen := openAfter s t }
      ∧ t.rqu = { s.rqu with held := held, irq := irqLevel t } ∧ SameBut [.mpath, .rqu] s t)
  ∧ (∀ (s : State) (k : Fin 16) (bytes : List Byte) (held : List SchHeld), ScheduleIdle s → PowerSteady s → LinesStand s →
    s.mpath.queue.length < 4 → s.mpath.grants = [.sch] → s.sch.held = .status k bytes :: held →
    ∃ t, exec .slotGrant s = .next t
      ∧ t.mpath = { s.mpath with
          queue := s.mpath.queue ++ [mkGroup (0x214 + 32 * k.val) bytes], grants := [], urgent := urgentLevel t
          hwait := urgentLevel t, cycleOpen := openAfter s t }
      ∧ t.sch = { s.sch with held := held } ∧ SameBut [.mpath, .sch] s t)
  ∧ (∀ (s : State) (n : Nat) (v : Byte) (bytes : List Byte) (held : List TunHeld), ScheduleIdle s → PowerSteady s →
    LinesStand s → s.mpath.queue.length < 4 → s.mpath.grants = [.tun] →
    (s.tun.held = .offset n v :: held →
      ∃ t, exec .slotGrant s = .next t
        ∧ t.mpath = { s.mpath with
            queue := s.mpath.queue ++ [mkGroup (0x403 + 16 * n) [v]], grants := [], urgent := urgentLevel t
            hwait := urgentLevel t, cycleOpen := openAfter s t }
        ∧ t.tun = { s.tun with held := held, presets := s.tun.presets.write (16 * n + 3) v } ∧ SameBut [.mpath, .tun] s t)
    ∧ (s.tun.held = .record n bytes :: held →
      ∃ t, exec .slotGrant s = .next t
        ∧ t.mpath = { s.mpath with
            queue := s.mpath.queue ++ [mkGroup (0x400 + 16 * n) bytes], grants := [], urgent := urgentLevel t
            hwait := urgentLevel t, cycleOpen := openAfter s t }
        ∧ t.tun = { s.tun with held := held, presets := s.tun.presets.writeAll (16 * n) bytes }
        ∧ SameBut [.mpath, .tun] s t))
  ∧ (∀ (s : State) (g : WriteGroup) (flags : Byte) (held : List PwrHeld), ScheduleIdle s → PowerSteady s → LinesStand s →
    s.mpath.queue.length < 4 → s.mpath.grants = [.pwr] →
    (s.pwr.held = .init g :: held →
      ∃ t, exec .slotGrant s = .next t
        ∧ t.mpath = { s.mpath with
            queue := s.mpath.queue ++ [g], grants := [], urgent := urgentLevel t, hwait := urgentLevel t
            cycleOpen := openAfter s t }
        ∧ t.pwr = { s.pwr with held := held } ∧ SameBut [.mpath, .pwr] s t)
    ∧ (s.pwr.held = .toggle flags :: held →
      ∃ t, exec .slotGrant s = .next t
        ∧ t.mpath = { s.mpath with
            queue := s.mpath.queue ++ [mkGroup 0x060 [flags]], grants := [], settings := s.mpath.settings.write 0 flags
            urgent := urgentLevel t, hwait := urgentLevel t, cycleOpen := openAfter s t }
        ∧ t.rqu = { s.rqu with irq := irqLevel t }
        ∧ t.pwr = { s.pwr with held := held } ∧ SameBut [.mpath, .pwr, .rqu] s t))
end

