-- ==== Sys2Proof/Laws/Memory.lean ====
section
/-! SUPPORT. Laws/Memory.lean: a read after a write, and the canonical form kept by every memory operation. -/

namespace Sys2Proof.Machine

@[simp] theorem Memory.read_nil (a : Nat) : Memory.read [] a = 0 := rfl

theorem Memory.read_cons (k : Nat) (v : Byte) (m : Memory) (a : Nat) :
    Memory.read ((k, v) :: m) a = if k = a then v else Memory.read m a := rfl

/-- In a canonical memory nothing is listed at or below the low bound. -/
theorem Memory.read_of_wfFrom {l : Nat} {m : Memory} (h : Memory.wfFrom (some l) m = true) {a : Nat} (ha : a ≤ l) :
    m.read a = 0 := by
  induction m generalizing l with
  | nil => rfl
  | cons c m ih =>
    obtain ⟨k, v⟩ := c
    simp only [Memory.wfFrom, Bool.and_eq_true, decide_eq_true_eq] at h
    rw [Memory.read_cons, if_neg (by omega)]
    exact ih h.2 (by omega)

theorem Memory.wfFrom_mono {l l' : Nat} {m : Memory} (hl : l' ≤ l) (h : Memory.wfFrom (some l) m = true) :
    Memory.wfFrom (some l') m = true := by
  cases m with
  | nil => rfl
  | cons c m =>
    obtain ⟨k, v⟩ := c
    simp only [Memory.wfFrom, Bool.and_eq_true, decide_eq_true_eq] at h ⊢
    exact ⟨⟨by omega, h.1.2⟩, h.2⟩

theorem Memory.wfFrom_none {l : Nat} {m : Memory} (h : Memory.wfFrom (some l) m = true) : m.wf = true := by
  cases m with
  | nil => rfl
  | cons c m =>
    obtain ⟨k, v⟩ := c
    simp only [Memory.wf, Memory.wfFrom, Bool.and_eq_true] at h ⊢
    exact ⟨⟨trivial, h.1.2⟩, h.2⟩

/-- A write leaves every other byte alone. -/
theorem Memory.read_write_other (m : Memory) {a x : Nat} (v : Byte) (h : x ≠ a) : (m.write a v).read x = m.read x := by
  induction m with
  | nil => unfold Memory.write; split <;> simp [Memory.read_cons, Ne.symm h]
  | cons c m ih =>
    obtain ⟨k, w⟩ := c
    unfold Memory.write
    split_ifs with h1 h2 h3 h4 <;> (try subst h3) <;> simp [Memory.read_cons, Ne.symm h, ih]

/-- A read after a write of the same address. -/
theorem Memory.read_write_same {m : Memory} (h : m.wf = true) (a : Nat) (v : Byte) : (m.write a v).read a = v := by
  suffices ∀ low, Memory.wfFrom low m = true → (m.write a v).read a = v from this none h
  clear h
  induction m with
  | nil => intro _ _; unfold Memory.write; split <;> simp_all [Memory.read_cons]
  | cons c m ih =>
    obtain ⟨k, w⟩ := c
    intro low h
    simp only [Memory.wfFrom, Bool.and_eq_true] at h
    unfold Memory.write
    split_ifs with h1 h2 h3 h4
    · rw [Memory.read_cons, if_neg (by omega), Memory.read_of_wfFrom h.2 (by omega), h2]
    · simp [Memory.read_cons]
    · rw [Memory.read_of_wfFrom h.2 (by omega), h4]
    · simp [Memory.read_cons]
    · rw [Memory.read_cons, if_neg (by omega)]; exact ih _ h.2

theorem Memory.read_write {m : Memory} (h : m.wf = true) (a x : Nat) (v : Byte) :
    (m.write a v).read x = if x = a then v else m.read x := by
  split
  · subst x; exact Memory.read_write_same h a v
  · exact Memory.read_write_other m v ‹_›

theorem Memory.wfFrom_write {m : Memory} {low : Option Nat} (h : Memory.wfFrom low m = true) (a : Nat) (v : Byte)
    (ha : ∀ l, low = some l → l < a) : Memory.wfFrom low (m.write a v) = true := by
  induction m generalizing low with
  | nil =>
    unfold Memory.write
    split
    · rfl
    · cases low with
      | none => simpa [Memory.wfFrom] using ‹_›
      | some l => simpa [Memory.wfFrom, ha l rfl] using ‹¬ v = 0›
  | cons c m ih =>
    obtain ⟨k, w⟩ := c
    have h' := h
    simp only [Memory.wfFrom, Bool.and_eq_true] at h
    unfold Memory.write
    split_ifs with h1 h2 h3 h4
    · exact h'
    · cases low with
      | none => simp_all [Memory.wfFrom]
      | some l => have := ha l rfl; simp_all [Memory.wfFrom]
    · cases low with
      | none => exact Memory.wfFrom_none h.2
      | some l =>
        have : l < k := by simpa using h.1.1
        exact Memory.wfFrom_mono (by omega) h.2
    · subst h3; simp_all [Memory.wfFrom]
    · have := ih h.2 (fun l hl => by cases hl; omega)
      simp only [Memory.wfFrom, Bool.and_eq_true]
      exact ⟨h.1, this⟩

/-- A write keeps the canonical form. -/
theorem Memory.wf_write {m : Memory} (h : m.wf = true) (a : Nat) (v : Byte) : (m.write a v).wf = true :=
  Memory.wfFrom_write h a v (by simp)

/-- Successive writes keep the canonical form. -/
theorem Memory.wf_writeAll {m : Memory} (h : m.wf = true) (a : Nat) (bytes : List Byte) :
    (m.writeAll a bytes).wf = true := by
  induction bytes generalizing m a with
  | nil => exact h
  | cons v rest ih => exact ih (Memory.wf_write h a v) (a + 1)

/-- A part of a canonical memory is canonical. -/
theorem Memory.wfFrom_filter {m : Memory} {low : Option Nat} (p : Host.Cell → Bool) (h : Memory.wfFrom low m = true) :
    Memory.wfFrom low (m.filter p) = true := by
  induction m generalizing low with
  | nil => rfl
  | cons c m ih =>
    obtain ⟨k, v⟩ := c
    simp only [Memory.wfFrom, Bool.and_eq_true] at h
    rw [List.filter_cons]
    split
    · simp only [Memory.wfFrom, Bool.and_eq_true]; exact ⟨h.1, ih h.2⟩
    · refine ih ?_
      cases low with
      | none => exact Memory.wfFrom_none h.2
      | some l =>
        have : l < k := by simpa using h.1.1
        exact Memory.wfFrom_mono (by omega) h.2

theorem Memory.wf_filter {m : Memory} (p : Host.Cell → Bool) (h : m.wf = true) : Memory.wf (m.filter p) = true :=
  Memory.wfFrom_filter p h

theorem Memory.wfFrom_slice {m : Memory} (start len : Nat) {low : Option Nat} (h : Memory.wfFrom low m = true)
    {low' : Option Nat} (hl : ∀ l, low' = some l → ∃ k, low = some k ∧ l + start ≤ k) :
    Memory.wfFrom low' (m.slice start len) = true := by
  induction m generalizing low low' with
  | nil => rfl
  | cons c m ih =>
    obtain ⟨k, v⟩ := c
    simp only [Memory.wfFrom, Bool.and_eq_true] at h
    unfold Memory.slice
    split
    · rename_i hk
      simp only [Bool.and_eq_true, decide_eq_true_eq] at hk
      simp only [Memory.wfFrom, Bool.and_eq_true]
      refine ⟨⟨?_, h.1.2⟩, ih h.2 fun l hl => ⟨k, rfl, by cases hl; omega⟩⟩
      cases low' with
      | none => rfl
      | some l =>
        obtain ⟨j, hj, hle⟩ := hl l rfl
        subst hj
        have : j < k := by simpa using h.1.1
        simp only [decide_eq_true_eq]
        omega
    · refine ih h.2 fun l hl' => ?_
      obtain ⟨j, hj, hle⟩ := hl l hl'
      subst hj
      have : j < k := by simpa using h.1.1
      exact ⟨k, rfl, by omega⟩

/-- A shadow loaded from a canonical memory is canonical. -/
theorem Memory.wf_slice {m : Memory} (h : m.wf = true) (start len : Nat) : (m.slice start len).wf = true :=
  Memory.wfFrom_slice start len h (by simp)

end Sys2Proof.Machine
end

