-- ==== Sys2Proof/Laws/State.lean ====
section
/-! SUPPORT. Laws/State.lean: what each update of one field of the machine does to each field. -/

namespace Sys2Proof.Machine

/-! `setPending` -/

@[simp] theorem State.setPending_pending (s : State) (x : List Instr) : (s.setPending x).pending = x := rfl
@[simp] theorem State.setPending_now (s : State) (x : List Instr) : (s.setPending x).now = s.now := rfl
@[simp] theorem State.setPending_free (s : State) (x : List Instr) : (s.setPending x).free = s.free := rfl
@[simp] theorem State.setPending_notices (s : State) (x : List Instr) : (s.setPending x).notices = s.notices := rfl
@[simp] theorem State.setPending_taken (s : State) (x : List Instr) : (s.setPending x).taken = s.taken := rfl
@[simp] theorem State.setPending_mem (s : State) (x : List Instr) : (s.setPending x).mem = s.mem := rfl
@[simp] theorem State.setPending_hd (s : State) (x : List Instr) : (s.setPending x).hd = s.hd := rfl
@[simp] theorem State.setPending_ctlOut (s : State) (x : List Instr) : (s.setPending x).ctlOut = s.ctlOut := rfl
@[simp] theorem State.setPending_pins (s : State) (x : List Instr) : (s.setPending x).pins = s.pins := rfl
@[simp] theorem State.setPending_straps (s : State) (x : List Instr) : (s.setPending x).straps = s.straps := rfl
@[simp] theorem State.setPending_trc (s : State) (x : List Instr) : (s.setPending x).trc = s.trc := rfl
@[simp] theorem State.setPending_srv (s : State) (x : List Instr) : (s.setPending x).srv = s.srv := rfl
@[simp] theorem State.setPending_pos (s : State) (x : List Instr) : (s.setPending x).pos = s.pos := rfl
@[simp] theorem State.setPending_tun (s : State) (x : List Instr) : (s.setPending x).tun = s.tun := rfl
@[simp] theorem State.setPending_lds (s : State) (x : List Instr) : (s.setPending x).lds = s.lds := rfl
@[simp] theorem State.setPending_clk (s : State) (x : List Instr) : (s.setPending x).clk = s.clk := rfl
@[simp] theorem State.setPending_sch (s : State) (x : List Instr) : (s.setPending x).sch = s.sch := rfl
@[simp] theorem State.setPending_mpath (s : State) (x : List Instr) : (s.setPending x).mpath = s.mpath := rfl
@[simp] theorem State.setPending_rqu (s : State) (x : List Instr) : (s.setPending x).rqu = s.rqu := rfl
@[simp] theorem State.setPending_pwr (s : State) (x : List Instr) : (s.setPending x).pwr = s.pwr := rfl

/-! `setNow` -/

@[simp] theorem State.setNow_pending (s : State) (x : Nat) : (s.setNow x).pending = s.pending := rfl
@[simp] theorem State.setNow_now (s : State) (x : Nat) : (s.setNow x).now = x := rfl
@[simp] theorem State.setNow_free (s : State) (x : Nat) : (s.setNow x).free = s.free := rfl
@[simp] theorem State.setNow_notices (s : State) (x : Nat) : (s.setNow x).notices = s.notices := rfl
@[simp] theorem State.setNow_taken (s : State) (x : Nat) : (s.setNow x).taken = s.taken := rfl
@[simp] theorem State.setNow_mem (s : State) (x : Nat) : (s.setNow x).mem = s.mem := rfl
@[simp] theorem State.setNow_hd (s : State) (x : Nat) : (s.setNow x).hd = s.hd := rfl
@[simp] theorem State.setNow_ctlOut (s : State) (x : Nat) : (s.setNow x).ctlOut = s.ctlOut := rfl
@[simp] theorem State.setNow_pins (s : State) (x : Nat) : (s.setNow x).pins = s.pins := rfl
@[simp] theorem State.setNow_straps (s : State) (x : Nat) : (s.setNow x).straps = s.straps := rfl
@[simp] theorem State.setNow_trc (s : State) (x : Nat) : (s.setNow x).trc = s.trc := rfl
@[simp] theorem State.setNow_srv (s : State) (x : Nat) : (s.setNow x).srv = s.srv := rfl
@[simp] theorem State.setNow_pos (s : State) (x : Nat) : (s.setNow x).pos = s.pos := rfl
@[simp] theorem State.setNow_tun (s : State) (x : Nat) : (s.setNow x).tun = s.tun := rfl
@[simp] theorem State.setNow_lds (s : State) (x : Nat) : (s.setNow x).lds = s.lds := rfl
@[simp] theorem State.setNow_clk (s : State) (x : Nat) : (s.setNow x).clk = s.clk := rfl
@[simp] theorem State.setNow_sch (s : State) (x : Nat) : (s.setNow x).sch = s.sch := rfl
@[simp] theorem State.setNow_mpath (s : State) (x : Nat) : (s.setNow x).mpath = s.mpath := rfl
@[simp] theorem State.setNow_rqu (s : State) (x : Nat) : (s.setNow x).rqu = s.rqu := rfl
@[simp] theorem State.setNow_pwr (s : State) (x : Nat) : (s.setNow x).pwr = s.pwr := rfl

/-! `setFree` -/

@[simp] theorem State.setFree_pending (s : State) (x : Nat) : (s.setFree x).pending = s.pending := rfl
@[simp] theorem State.setFree_now (s : State) (x : Nat) : (s.setFree x).now = s.now := rfl
@[simp] theorem State.setFree_free (s : State) (x : Nat) : (s.setFree x).free = x := rfl
@[simp] theorem State.setFree_notices (s : State) (x : Nat) : (s.setFree x).notices = s.notices := rfl
@[simp] theorem State.setFree_taken (s : State) (x : Nat) : (s.setFree x).taken = s.taken := rfl
@[simp] theorem State.setFree_mem (s : State) (x : Nat) : (s.setFree x).mem = s.mem := rfl
@[simp] theorem State.setFree_hd (s : State) (x : Nat) : (s.setFree x).hd = s.hd := rfl
@[simp] theorem State.setFree_ctlOut (s : State) (x : Nat) : (s.setFree x).ctlOut = s.ctlOut := rfl
@[simp] theorem State.setFree_pins (s : State) (x : Nat) : (s.setFree x).pins = s.pins := rfl
@[simp] theorem State.setFree_straps (s : State) (x : Nat) : (s.setFree x).straps = s.straps := rfl
@[simp] theorem State.setFree_trc (s : State) (x : Nat) : (s.setFree x).trc = s.trc := rfl
@[simp] theorem State.setFree_srv (s : State) (x : Nat) : (s.setFree x).srv = s.srv := rfl
@[simp] theorem State.setFree_pos (s : State) (x : Nat) : (s.setFree x).pos = s.pos := rfl
@[simp] theorem State.setFree_tun (s : State) (x : Nat) : (s.setFree x).tun = s.tun := rfl
@[simp] theorem State.setFree_lds (s : State) (x : Nat) : (s.setFree x).lds = s.lds := rfl
@[simp] theorem State.setFree_clk (s : State) (x : Nat) : (s.setFree x).clk = s.clk := rfl
@[simp] theorem State.setFree_sch (s : State) (x : Nat) : (s.setFree x).sch = s.sch := rfl
@[simp] theorem State.setFree_mpath (s : State) (x : Nat) : (s.setFree x).mpath = s.mpath := rfl
@[simp] theorem State.setFree_rqu (s : State) (x : Nat) : (s.setFree x).rqu = s.rqu := rfl
@[simp] theorem State.setFree_pwr (s : State) (x : Nat) : (s.setFree x).pwr = s.pwr := rfl

/-! `setNotices` -/

@[simp] theorem State.setNotices_pending (s : State) (x : List Notice) : (s.setNotices x).pending = s.pending := rfl
@[simp] theorem State.setNotices_now (s : State) (x : List Notice) : (s.setNotices x).now = s.now := rfl
@[simp] theorem State.setNotices_free (s : State) (x : List Notice) : (s.setNotices x).free = s.free := rfl
@[simp] theorem State.setNotices_notices (s : State) (x : List Notice) : (s.setNotices x).notices = x := rfl
@[simp] theorem State.setNotices_taken (s : State) (x : List Notice) : (s.setNotices x).taken = s.taken := rfl
@[simp] theorem State.setNotices_mem (s : State) (x : List Notice) : (s.setNotices x).mem = s.mem := rfl
@[simp] theorem State.setNotices_hd (s : State) (x : List Notice) : (s.setNotices x).hd = s.hd := rfl
@[simp] theorem State.setNotices_ctlOut (s : State) (x : List Notice) : (s.setNotices x).ctlOut = s.ctlOut := rfl
@[simp] theorem State.setNotices_pins (s : State) (x : List Notice) : (s.setNotices x).pins = s.pins := rfl
@[simp] theorem State.setNotices_straps (s : State) (x : List Notice) : (s.setNotices x).straps = s.straps := rfl
@[simp] theorem State.setNotices_trc (s : State) (x : List Notice) : (s.setNotices x).trc = s.trc := rfl
@[simp] theorem State.setNotices_srv (s : State) (x : List Notice) : (s.setNotices x).srv = s.srv := rfl
@[simp] theorem State.setNotices_pos (s : State) (x : List Notice) : (s.setNotices x).pos = s.pos := rfl
@[simp] theorem State.setNotices_tun (s : State) (x : List Notice) : (s.setNotices x).tun = s.tun := rfl
@[simp] theorem State.setNotices_lds (s : State) (x : List Notice) : (s.setNotices x).lds = s.lds := rfl
@[simp] theorem State.setNotices_clk (s : State) (x : List Notice) : (s.setNotices x).clk = s.clk := rfl
@[simp] theorem State.setNotices_sch (s : State) (x : List Notice) : (s.setNotices x).sch = s.sch := rfl
@[simp] theorem State.setNotices_mpath (s : State) (x : List Notice) : (s.setNotices x).mpath = s.mpath := rfl
@[simp] theorem State.setNotices_rqu (s : State) (x : List Notice) : (s.setNotices x).rqu = s.rqu := rfl
@[simp] theorem State.setNotices_pwr (s : State) (x : List Notice) : (s.setNotices x).pwr = s.pwr := rfl

/-! `setTaken` -/

@[simp] theorem State.setTaken_pending (s : State) (x : List (Fin 16)) : (s.setTaken x).pending = s.pending := rfl
@[simp] theorem State.setTaken_now (s : State) (x : List (Fin 16)) : (s.setTaken x).now = s.now := rfl
@[simp] theorem State.setTaken_free (s : State) (x : List (Fin 16)) : (s.setTaken x).free = s.free := rfl
@[simp] theorem State.setTaken_notices (s : State) (x : List (Fin 16)) : (s.setTaken x).notices = s.notices := rfl
@[simp] theorem State.setTaken_taken (s : State) (x : List (Fin 16)) : (s.setTaken x).taken = x := rfl
@[simp] theorem State.setTaken_mem (s : State) (x : List (Fin 16)) : (s.setTaken x).mem = s.mem := rfl
@[simp] theorem State.setTaken_hd (s : State) (x : List (Fin 16)) : (s.setTaken x).hd = s.hd := rfl
@[simp] theorem State.setTaken_ctlOut (s : State) (x : List (Fin 16)) : (s.setTaken x).ctlOut = s.ctlOut := rfl
@[simp] theorem State.setTaken_pins (s : State) (x : List (Fin 16)) : (s.setTaken x).pins = s.pins := rfl
@[simp] theorem State.setTaken_straps (s : State) (x : List (Fin 16)) : (s.setTaken x).straps = s.straps := rfl
@[simp] theorem State.setTaken_trc (s : State) (x : List (Fin 16)) : (s.setTaken x).trc = s.trc := rfl
@[simp] theorem State.setTaken_srv (s : State) (x : List (Fin 16)) : (s.setTaken x).srv = s.srv := rfl
@[simp] theorem State.setTaken_pos (s : State) (x : List (Fin 16)) : (s.setTaken x).pos = s.pos := rfl
@[simp] theorem State.setTaken_tun (s : State) (x : List (Fin 16)) : (s.setTaken x).tun = s.tun := rfl
@[simp] theorem State.setTaken_lds (s : State) (x : List (Fin 16)) : (s.setTaken x).lds = s.lds := rfl
@[simp] theorem State.setTaken_clk (s : State) (x : List (Fin 16)) : (s.setTaken x).clk = s.clk := rfl
@[simp] theorem State.setTaken_sch (s : State) (x : List (Fin 16)) : (s.setTaken x).sch = s.sch := rfl
@[simp] theorem State.setTaken_mpath (s : State) (x : List (Fin 16)) : (s.setTaken x).mpath = s.mpath := rfl
@[simp] theorem State.setTaken_rqu (s : State) (x : List (Fin 16)) : (s.setTaken x).rqu = s.rqu := rfl
@[simp] theorem State.setTaken_pwr (s : State) (x : List (Fin 16)) : (s.setTaken x).pwr = s.pwr := rfl

/-! `setMem` -/

@[simp] theorem State.setMem_pending (s : State) (x : Memory) : (s.setMem x).pending = s.pending := rfl
@[simp] theorem State.setMem_now (s : State) (x : Memory) : (s.setMem x).now = s.now := rfl
@[simp] theorem State.setMem_free (s : State) (x : Memory) : (s.setMem x).free = s.free := rfl
@[simp] theorem State.setMem_notices (s : State) (x : Memory) : (s.setMem x).notices = s.notices := rfl
@[simp] theorem State.setMem_taken (s : State) (x : Memory) : (s.setMem x).taken = s.taken := rfl
@[simp] theorem State.setMem_mem (s : State) (x : Memory) : (s.setMem x).mem = x := rfl
@[simp] theorem State.setMem_hd (s : State) (x : Memory) : (s.setMem x).hd = s.hd := rfl
@[simp] theorem State.setMem_ctlOut (s : State) (x : Memory) : (s.setMem x).ctlOut = s.ctlOut := rfl
@[simp] theorem State.setMem_pins (s : State) (x : Memory) : (s.setMem x).pins = s.pins := rfl
@[simp] theorem State.setMem_straps (s : State) (x : Memory) : (s.setMem x).straps = s.straps := rfl
@[simp] theorem State.setMem_trc (s : State) (x : Memory) : (s.setMem x).trc = s.trc := rfl
@[simp] theorem State.setMem_srv (s : State) (x : Memory) : (s.setMem x).srv = s.srv := rfl
@[simp] theorem State.setMem_pos (s : State) (x : Memory) : (s.setMem x).pos = s.pos := rfl
@[simp] theorem State.setMem_tun (s : State) (x : Memory) : (s.setMem x).tun = s.tun := rfl
@[simp] theorem State.setMem_lds (s : State) (x : Memory) : (s.setMem x).lds = s.lds := rfl
@[simp] theorem State.setMem_clk (s : State) (x : Memory) : (s.setMem x).clk = s.clk := rfl
@[simp] theorem State.setMem_sch (s : State) (x : Memory) : (s.setMem x).sch = s.sch := rfl
@[simp] theorem State.setMem_mpath (s : State) (x : Memory) : (s.setMem x).mpath = s.mpath := rfl
@[simp] theorem State.setMem_rqu (s : State) (x : Memory) : (s.setMem x).rqu = s.rqu := rfl
@[simp] theorem State.setMem_pwr (s : State) (x : Memory) : (s.setMem x).pwr = s.pwr := rfl

/-! `setHd` -/

@[simp] theorem State.setHd_pending (s : State) (x : Option Byte) : (s.setHd x).pending = s.pending := rfl
@[simp] theorem State.setHd_now (s : State) (x : Option Byte) : (s.setHd x).now = s.now := rfl
@[simp] theorem State.setHd_free (s : State) (x : Option Byte) : (s.setHd x).free = s.free := rfl
@[simp] theorem State.setHd_notices (s : State) (x : Option Byte) : (s.setHd x).notices = s.notices := rfl
@[simp] theorem State.setHd_taken (s : State) (x : Option Byte) : (s.setHd x).taken = s.taken := rfl
@[simp] theorem State.setHd_mem (s : State) (x : Option Byte) : (s.setHd x).mem = s.mem := rfl
@[simp] theorem State.setHd_hd (s : State) (x : Option Byte) : (s.setHd x).hd = x := rfl
@[simp] theorem State.setHd_ctlOut (s : State) (x : Option Byte) : (s.setHd x).ctlOut = s.ctlOut := rfl
@[simp] theorem State.setHd_pins (s : State) (x : Option Byte) : (s.setHd x).pins = s.pins := rfl
@[simp] theorem State.setHd_straps (s : State) (x : Option Byte) : (s.setHd x).straps = s.straps := rfl
@[simp] theorem State.setHd_trc (s : State) (x : Option Byte) : (s.setHd x).trc = s.trc := rfl
@[simp] theorem State.setHd_srv (s : State) (x : Option Byte) : (s.setHd x).srv = s.srv := rfl
@[simp] theorem State.setHd_pos (s : State) (x : Option Byte) : (s.setHd x).pos = s.pos := rfl
@[simp] theorem State.setHd_tun (s : State) (x : Option Byte) : (s.setHd x).tun = s.tun := rfl
@[simp] theorem State.setHd_lds (s : State) (x : Option Byte) : (s.setHd x).lds = s.lds := rfl
@[simp] theorem State.setHd_clk (s : State) (x : Option Byte) : (s.setHd x).clk = s.clk := rfl
@[simp] theorem State.setHd_sch (s : State) (x : Option Byte) : (s.setHd x).sch = s.sch := rfl
@[simp] theorem State.setHd_mpath (s : State) (x : Option Byte) : (s.setHd x).mpath = s.mpath := rfl
@[simp] theorem State.setHd_rqu (s : State) (x : Option Byte) : (s.setHd x).rqu = s.rqu := rfl
@[simp] theorem State.setHd_pwr (s : State) (x : Option Byte) : (s.setHd x).pwr = s.pwr := rfl

/-! `setCtlOut` -/

@[simp] theorem State.setCtlOut_pending (s : State) (x : Option Nat) : (s.setCtlOut x).pending = s.pending := rfl
@[simp] theorem State.setCtlOut_now (s : State) (x : Option Nat) : (s.setCtlOut x).now = s.now := rfl
@[simp] theorem State.setCtlOut_free (s : State) (x : Option Nat) : (s.setCtlOut x).free = s.free := rfl
@[simp] theorem State.setCtlOut_notices (s : State) (x : Option Nat) : (s.setCtlOut x).notices = s.notices := rfl
@[simp] theorem State.setCtlOut_taken (s : State) (x : Option Nat) : (s.setCtlOut x).taken = s.taken := rfl
@[simp] theorem State.setCtlOut_mem (s : State) (x : Option Nat) : (s.setCtlOut x).mem = s.mem := rfl
@[simp] theorem State.setCtlOut_hd (s : State) (x : Option Nat) : (s.setCtlOut x).hd = s.hd := rfl
@[simp] theorem State.setCtlOut_ctlOut (s : State) (x : Option Nat) : (s.setCtlOut x).ctlOut = x := rfl
@[simp] theorem State.setCtlOut_pins (s : State) (x : Option Nat) : (s.setCtlOut x).pins = s.pins := rfl
@[simp] theorem State.setCtlOut_straps (s : State) (x : Option Nat) : (s.setCtlOut x).straps = s.straps := rfl
@[simp] theorem State.setCtlOut_trc (s : State) (x : Option Nat) : (s.setCtlOut x).trc = s.trc := rfl
@[simp] theorem State.setCtlOut_srv (s : State) (x : Option Nat) : (s.setCtlOut x).srv = s.srv := rfl
@[simp] theorem State.setCtlOut_pos (s : State) (x : Option Nat) : (s.setCtlOut x).pos = s.pos := rfl
@[simp] theorem State.setCtlOut_tun (s : State) (x : Option Nat) : (s.setCtlOut x).tun = s.tun := rfl
@[simp] theorem State.setCtlOut_lds (s : State) (x : Option Nat) : (s.setCtlOut x).lds = s.lds := rfl
@[simp] theorem State.setCtlOut_clk (s : State) (x : Option Nat) : (s.setCtlOut x).clk = s.clk := rfl
@[simp] theorem State.setCtlOut_sch (s : State) (x : Option Nat) : (s.setCtlOut x).sch = s.sch := rfl
@[simp] theorem State.setCtlOut_mpath (s : State) (x : Option Nat) : (s.setCtlOut x).mpath = s.mpath := rfl
@[simp] theorem State.setCtlOut_rqu (s : State) (x : Option Nat) : (s.setCtlOut x).rqu = s.rqu := rfl
@[simp] theorem State.setCtlOut_pwr (s : State) (x : Option Nat) : (s.setCtlOut x).pwr = s.pwr := rfl

/-! `setPins` -/

@[simp] theorem State.setPins_pending (s : State) (x : Pins) : (s.setPins x).pending = s.pending := rfl
@[simp] theorem State.setPins_now (s : State) (x : Pins) : (s.setPins x).now = s.now := rfl
@[simp] theorem State.setPins_free (s : State) (x : Pins) : (s.setPins x).free = s.free := rfl
@[simp] theorem State.setPins_notices (s : State) (x : Pins) : (s.setPins x).notices = s.notices := rfl
@[simp] theorem State.setPins_taken (s : State) (x : Pins) : (s.setPins x).taken = s.taken := rfl
@[simp] theorem State.setPins_mem (s : State) (x : Pins) : (s.setPins x).mem = s.mem := rfl
@[simp] theorem State.setPins_hd (s : State) (x : Pins) : (s.setPins x).hd = s.hd := rfl
@[simp] theorem State.setPins_ctlOut (s : State) (x : Pins) : (s.setPins x).ctlOut = s.ctlOut := rfl
@[simp] theorem State.setPins_pins (s : State) (x : Pins) : (s.setPins x).pins = x := rfl
@[simp] theorem State.setPins_straps (s : State) (x : Pins) : (s.setPins x).straps = s.straps := rfl
@[simp] theorem State.setPins_trc (s : State) (x : Pins) : (s.setPins x).trc = s.trc := rfl
@[simp] theorem State.setPins_srv (s : State) (x : Pins) : (s.setPins x).srv = s.srv := rfl
@[simp] theorem State.setPins_pos (s : State) (x : Pins) : (s.setPins x).pos = s.pos := rfl
@[simp] theorem State.setPins_tun (s : State) (x : Pins) : (s.setPins x).tun = s.tun := rfl
@[simp] theorem State.setPins_lds (s : State) (x : Pins) : (s.setPins x).lds = s.lds := rfl
@[simp] theorem State.setPins_clk (s : State) (x : Pins) : (s.setPins x).clk = s.clk := rfl
@[simp] theorem State.setPins_sch (s : State) (x : Pins) : (s.setPins x).sch = s.sch := rfl
@[simp] theorem State.setPins_mpath (s : State) (x : Pins) : (s.setPins x).mpath = s.mpath := rfl
@[simp] theorem State.setPins_rqu (s : State) (x : Pins) : (s.setPins x).rqu = s.rqu := rfl
@[simp] theorem State.setPins_pwr (s : State) (x : Pins) : (s.setPins x).pwr = s.pwr := rfl

/-! `setStraps` -/

@[simp] theorem State.setStraps_pending (s : State) (x : Straps) : (s.setStraps x).pending = s.pending := rfl
@[simp] theorem State.setStraps_now (s : State) (x : Straps) : (s.setStraps x).now = s.now := rfl
@[simp] theorem State.setStraps_free (s : State) (x : Straps) : (s.setStraps x).free = s.free := rfl
@[simp] theorem State.setStraps_notices (s : State) (x : Straps) : (s.setStraps x).notices = s.notices := rfl
@[simp] theorem State.setStraps_taken (s : State) (x : Straps) : (s.setStraps x).taken = s.taken := rfl
@[simp] theorem State.setStraps_mem (s : State) (x : Straps) : (s.setStraps x).mem = s.mem := rfl
@[simp] theorem State.setStraps_hd (s : State) (x : Straps) : (s.setStraps x).hd = s.hd := rfl
@[simp] theorem State.setStraps_ctlOut (s : State) (x : Straps) : (s.setStraps x).ctlOut = s.ctlOut := rfl
@[simp] theorem State.setStraps_pins (s : State) (x : Straps) : (s.setStraps x).pins = s.pins := rfl
@[simp] theorem State.setStraps_straps (s : State) (x : Straps) : (s.setStraps x).straps = x := rfl
@[simp] theorem State.setStraps_trc (s : State) (x : Straps) : (s.setStraps x).trc = s.trc := rfl
@[simp] theorem State.setStraps_srv (s : State) (x : Straps) : (s.setStraps x).srv = s.srv := rfl
@[simp] theorem State.setStraps_pos (s : State) (x : Straps) : (s.setStraps x).pos = s.pos := rfl
@[simp] theorem State.setStraps_tun (s : State) (x : Straps) : (s.setStraps x).tun = s.tun := rfl
@[simp] theorem State.setStraps_lds (s : State) (x : Straps) : (s.setStraps x).lds = s.lds := rfl
@[simp] theorem State.setStraps_clk (s : State) (x : Straps) : (s.setStraps x).clk = s.clk := rfl
@[simp] theorem State.setStraps_sch (s : State) (x : Straps) : (s.setStraps x).sch = s.sch := rfl
@[simp] theorem State.setStraps_mpath (s : State) (x : Straps) : (s.setStraps x).mpath = s.mpath := rfl
@[simp] theorem State.setStraps_rqu (s : State) (x : Straps) : (s.setStraps x).rqu = s.rqu := rfl
@[simp] theorem State.setStraps_pwr (s : State) (x : Straps) : (s.setStraps x).pwr = s.pwr := rfl

/-! `setTrc` -/

@[simp] theorem State.setTrc_pending (s : State) (x : Trc) : (s.setTrc x).pending = s.pending := rfl
@[simp] theorem State.setTrc_now (s : State) (x : Trc) : (s.setTrc x).now = s.now := rfl
@[simp] theorem State.setTrc_free (s : State) (x : Trc) : (s.setTrc x).free = s.free := rfl
@[simp] theorem State.setTrc_notices (s : State) (x : Trc) : (s.setTrc x).notices = s.notices := rfl
@[simp] theorem State.setTrc_taken (s : State) (x : Trc) : (s.setTrc x).taken = s.taken := rfl
@[simp] theorem State.setTrc_mem (s : State) (x : Trc) : (s.setTrc x).mem = s.mem := rfl
@[simp] theorem State.setTrc_hd (s : State) (x : Trc) : (s.setTrc x).hd = s.hd := rfl
@[simp] theorem State.setTrc_ctlOut (s : State) (x : Trc) : (s.setTrc x).ctlOut = s.ctlOut := rfl
@[simp] theorem State.setTrc_pins (s : State) (x : Trc) : (s.setTrc x).pins = s.pins := rfl
@[simp] theorem State.setTrc_straps (s : State) (x : Trc) : (s.setTrc x).straps = s.straps := rfl
@[simp] theorem State.setTrc_trc (s : State) (x : Trc) : (s.setTrc x).trc = x := rfl
@[simp] theorem State.setTrc_srv (s : State) (x : Trc) : (s.setTrc x).srv = s.srv := rfl
@[simp] theorem State.setTrc_pos (s : State) (x : Trc) : (s.setTrc x).pos = s.pos := rfl
@[simp] theorem State.setTrc_tun (s : State) (x : Trc) : (s.setTrc x).tun = s.tun := rfl
@[simp] theorem State.setTrc_lds (s : State) (x : Trc) : (s.setTrc x).lds = s.lds := rfl
@[simp] theorem State.setTrc_clk (s : State) (x : Trc) : (s.setTrc x).clk = s.clk := rfl
@[simp] theorem State.setTrc_sch (s : State) (x : Trc) : (s.setTrc x).sch = s.sch := rfl
@[simp] theorem State.setTrc_mpath (s : State) (x : Trc) : (s.setTrc x).mpath = s.mpath := rfl
@[simp] theorem State.setTrc_rqu (s : State) (x : Trc) : (s.setTrc x).rqu = s.rqu := rfl
@[simp] theorem State.setTrc_pwr (s : State) (x : Trc) : (s.setTrc x).pwr = s.pwr := rfl

/-! `setSrv` -/

@[simp] theorem State.setSrv_pending (s : State) (x : Srv) : (s.setSrv x).pending = s.pending := rfl
@[simp] theorem State.setSrv_now (s : State) (x : Srv) : (s.setSrv x).now = s.now := rfl
@[simp] theorem State.setSrv_free (s : State) (x : Srv) : (s.setSrv x).free = s.free := rfl
@[simp] theorem State.setSrv_notices (s : State) (x : Srv) : (s.setSrv x).notices = s.notices := rfl
@[simp] theorem State.setSrv_taken (s : State) (x : Srv) : (s.setSrv x).taken = s.taken := rfl
@[simp] theorem State.setSrv_mem (s : State) (x : Srv) : (s.setSrv x).mem = s.mem := rfl
@[simp] theorem State.setSrv_hd (s : State) (x : Srv) : (s.setSrv x).hd = s.hd := rfl
@[simp] theorem State.setSrv_ctlOut (s : State) (x : Srv) : (s.setSrv x).ctlOut = s.ctlOut := rfl
@[simp] theorem State.setSrv_pins (s : State) (x : Srv) : (s.setSrv x).pins = s.pins := rfl
@[simp] theorem State.setSrv_straps (s : State) (x : Srv) : (s.setSrv x).straps = s.straps := rfl
@[simp] theorem State.setSrv_trc (s : State) (x : Srv) : (s.setSrv x).trc = s.trc := rfl
@[simp] theorem State.setSrv_srv (s : State) (x : Srv) : (s.setSrv x).srv = x := rfl
@[simp] theorem State.setSrv_pos (s : State) (x : Srv) : (s.setSrv x).pos = s.pos := rfl
@[simp] theorem State.setSrv_tun (s : State) (x : Srv) : (s.setSrv x).tun = s.tun := rfl
@[simp] theorem State.setSrv_lds (s : State) (x : Srv) : (s.setSrv x).lds = s.lds := rfl
@[simp] theorem State.setSrv_clk (s : State) (x : Srv) : (s.setSrv x).clk = s.clk := rfl
@[simp] theorem State.setSrv_sch (s : State) (x : Srv) : (s.setSrv x).sch = s.sch := rfl
@[simp] theorem State.setSrv_mpath (s : State) (x : Srv) : (s.setSrv x).mpath = s.mpath := rfl
@[simp] theorem State.setSrv_rqu (s : State) (x : Srv) : (s.setSrv x).rqu = s.rqu := rfl
@[simp] theorem State.setSrv_pwr (s : State) (x : Srv) : (s.setSrv x).pwr = s.pwr := rfl

/-! `setPos` -/

@[simp] theorem State.setPos_pending (s : State) (x : Pos) : (s.setPos x).pending = s.pending := rfl
@[simp] theorem State.setPos_now (s : State) (x : Pos) : (s.setPos x).now = s.now := rfl
@[simp] theorem State.setPos_free (s : State) (x : Pos) : (s.setPos x).free = s.free := rfl
@[simp] theorem State.setPos_notices (s : State) (x : Pos) : (s.setPos x).notices = s.notices := rfl
@[simp] theorem State.setPos_taken (s : State) (x : Pos) : (s.setPos x).taken = s.taken := rfl
@[simp] theorem State.setPos_mem (s : State) (x : Pos) : (s.setPos x).mem = s.mem := rfl
@[simp] theorem State.setPos_hd (s : State) (x : Pos) : (s.setPos x).hd = s.hd := rfl
@[simp] theorem State.setPos_ctlOut (s : State) (x : Pos) : (s.setPos x).ctlOut = s.ctlOut := rfl
@[simp] theorem State.setPos_pins (s : State) (x : Pos) : (s.setPos x).pins = s.pins := rfl
@[simp] theorem State.setPos_straps (s : State) (x : Pos) : (s.setPos x).straps = s.straps := rfl
@[simp] theorem State.setPos_trc (s : State) (x : Pos) : (s.setPos x).trc = s.trc := rfl
@[simp] theorem State.setPos_srv (s : State) (x : Pos) : (s.setPos x).srv = s.srv := rfl
@[simp] theorem State.setPos_pos (s : State) (x : Pos) : (s.setPos x).pos = x := rfl
@[simp] theorem State.setPos_tun (s : State) (x : Pos) : (s.setPos x).tun = s.tun := rfl
@[simp] theorem State.setPos_lds (s : State) (x : Pos) : (s.setPos x).lds = s.lds := rfl
@[simp] theorem State.setPos_clk (s : State) (x : Pos) : (s.setPos x).clk = s.clk := rfl
@[simp] theorem State.setPos_sch (s : State) (x : Pos) : (s.setPos x).sch = s.sch := rfl
@[simp] theorem State.setPos_mpath (s : State) (x : Pos) : (s.setPos x).mpath = s.mpath := rfl
@[simp] theorem State.setPos_rqu (s : State) (x : Pos) : (s.setPos x).rqu = s.rqu := rfl
@[simp] theorem State.setPos_pwr (s : State) (x : Pos) : (s.setPos x).pwr = s.pwr := rfl

/-! `setTun` -/

@[simp] theorem State.setTun_pending (s : State) (x : Tun) : (s.setTun x).pending = s.pending := rfl
@[simp] theorem State.setTun_now (s : State) (x : Tun) : (s.setTun x).now = s.now := rfl
@[simp] theorem State.setTun_free (s : State) (x : Tun) : (s.setTun x).free = s.free := rfl
@[simp] theorem State.setTun_notices (s : State) (x : Tun) : (s.setTun x).notices = s.notices := rfl
@[simp] theorem State.setTun_taken (s : State) (x : Tun) : (s.setTun x).taken = s.taken := rfl
@[simp] theorem State.setTun_mem (s : State) (x : Tun) : (s.setTun x).mem = s.mem := rfl
@[simp] theorem State.setTun_hd (s : State) (x : Tun) : (s.setTun x).hd = s.hd := rfl
@[simp] theorem State.setTun_ctlOut (s : State) (x : Tun) : (s.setTun x).ctlOut = s.ctlOut := rfl
@[simp] theorem State.setTun_pins (s : State) (x : Tun) : (s.setTun x).pins = s.pins := rfl
@[simp] theorem State.setTun_straps (s : State) (x : Tun) : (s.setTun x).straps = s.straps := rfl
@[simp] theorem State.setTun_trc (s : State) (x : Tun) : (s.setTun x).trc = s.trc := rfl
@[simp] theorem State.setTun_srv (s : State) (x : Tun) : (s.setTun x).srv = s.srv := rfl
@[simp] theorem State.setTun_pos (s : State) (x : Tun) : (s.setTun x).pos = s.pos := rfl
@[simp] theorem State.setTun_tun (s : State) (x : Tun) : (s.setTun x).tun = x := rfl
@[simp] theorem State.setTun_lds (s : State) (x : Tun) : (s.setTun x).lds = s.lds := rfl
@[simp] theorem State.setTun_clk (s : State) (x : Tun) : (s.setTun x).clk = s.clk := rfl
@[simp] theorem State.setTun_sch (s : State) (x : Tun) : (s.setTun x).sch = s.sch := rfl
@[simp] theorem State.setTun_mpath (s : State) (x : Tun) : (s.setTun x).mpath = s.mpath := rfl
@[simp] theorem State.setTun_rqu (s : State) (x : Tun) : (s.setTun x).rqu = s.rqu := rfl
@[simp] theorem State.setTun_pwr (s : State) (x : Tun) : (s.setTun x).pwr = s.pwr := rfl

/-! `setLds` -/

@[simp] theorem State.setLds_pending (s : State) (x : Lds) : (s.setLds x).pending = s.pending := rfl
@[simp] theorem State.setLds_now (s : State) (x : Lds) : (s.setLds x).now = s.now := rfl
@[simp] theorem State.setLds_free (s : State) (x : Lds) : (s.setLds x).free = s.free := rfl
@[simp] theorem State.setLds_notices (s : State) (x : Lds) : (s.setLds x).notices = s.notices := rfl
@[simp] theorem State.setLds_taken (s : State) (x : Lds) : (s.setLds x).taken = s.taken := rfl
@[simp] theorem State.setLds_mem (s : State) (x : Lds) : (s.setLds x).mem = s.mem := rfl
@[simp] theorem State.setLds_hd (s : State) (x : Lds) : (s.setLds x).hd = s.hd := rfl
@[simp] theorem State.setLds_ctlOut (s : State) (x : Lds) : (s.setLds x).ctlOut = s.ctlOut := rfl
@[simp] theorem State.setLds_pins (s : State) (x : Lds) : (s.setLds x).pins = s.pins := rfl
@[simp] theorem State.setLds_straps (s : State) (x : Lds) : (s.setLds x).straps = s.straps := rfl
@[simp] theorem State.setLds_trc (s : State) (x : Lds) : (s.setLds x).trc = s.trc := rfl
@[simp] theorem State.setLds_srv (s : State) (x : Lds) : (s.setLds x).srv = s.srv := rfl
@[simp] theorem State.setLds_pos (s : State) (x : Lds) : (s.setLds x).pos = s.pos := rfl
@[simp] theorem State.setLds_tun (s : State) (x : Lds) : (s.setLds x).tun = s.tun := rfl
@[simp] theorem State.setLds_lds (s : State) (x : Lds) : (s.setLds x).lds = x := rfl
@[simp] theorem State.setLds_clk (s : State) (x : Lds) : (s.setLds x).clk = s.clk := rfl
@[simp] theorem State.setLds_sch (s : State) (x : Lds) : (s.setLds x).sch = s.sch := rfl
@[simp] theorem State.setLds_mpath (s : State) (x : Lds) : (s.setLds x).mpath = s.mpath := rfl
@[simp] theorem State.setLds_rqu (s : State) (x : Lds) : (s.setLds x).rqu = s.rqu := rfl
@[simp] theorem State.setLds_pwr (s : State) (x : Lds) : (s.setLds x).pwr = s.pwr := rfl

/-! `setClk` -/

@[simp] theorem State.setClk_pending (s : State) (x : Clk) : (s.setClk x).pending = s.pending := rfl
@[simp] theorem State.setClk_now (s : State) (x : Clk) : (s.setClk x).now = s.now := rfl
@[simp] theorem State.setClk_free (s : State) (x : Clk) : (s.setClk x).free = s.free := rfl
@[simp] theorem State.setClk_notices (s : State) (x : Clk) : (s.setClk x).notices = s.notices := rfl
@[simp] theorem State.setClk_taken (s : State) (x : Clk) : (s.setClk x).taken = s.taken := rfl
@[simp] theorem State.setClk_mem (s : State) (x : Clk) : (s.setClk x).mem = s.mem := rfl
@[simp] theorem State.setClk_hd (s : State) (x : Clk) : (s.setClk x).hd = s.hd := rfl
@[simp] theorem State.setClk_ctlOut (s : State) (x : Clk) : (s.setClk x).ctlOut = s.ctlOut := rfl
@[simp] theorem State.setClk_pins (s : State) (x : Clk) : (s.setClk x).pins = s.pins := rfl
@[simp] theorem State.setClk_straps (s : State) (x : Clk) : (s.setClk x).straps = s.straps := rfl
@[simp] theorem State.setClk_trc (s : State) (x : Clk) : (s.setClk x).trc = s.trc := rfl
@[simp] theorem State.setClk_srv (s : State) (x : Clk) : (s.setClk x).srv = s.srv := rfl
@[simp] theorem State.setClk_pos (s : State) (x : Clk) : (s.setClk x).pos = s.pos := rfl
@[simp] theorem State.setClk_tun (s : State) (x : Clk) : (s.setClk x).tun = s.tun := rfl
@[simp] theorem State.setClk_lds (s : State) (x : Clk) : (s.setClk x).lds = s.lds := rfl
@[simp] theorem State.setClk_clk (s : State) (x : Clk) : (s.setClk x).clk = x := rfl
@[simp] theorem State.setClk_sch (s : State) (x : Clk) : (s.setClk x).sch = s.sch := rfl
@[simp] theorem State.setClk_mpath (s : State) (x : Clk) : (s.setClk x).mpath = s.mpath := rfl
@[simp] theorem State.setClk_rqu (s : State) (x : Clk) : (s.setClk x).rqu = s.rqu := rfl
@[simp] theorem State.setClk_pwr (s : State) (x : Clk) : (s.setClk x).pwr = s.pwr := rfl

/-! `setSch` -/

@[simp] theorem State.setSch_pending (s : State) (x : Sch) : (s.setSch x).pending = s.pending := rfl
@[simp] theorem State.setSch_now (s : State) (x : Sch) : (s.setSch x).now = s.now := rfl
@[simp] theorem State.setSch_free (s : State) (x : Sch) : (s.setSch x).free = s.free := rfl
@[simp] theorem State.setSch_notices (s : State) (x : Sch) : (s.setSch x).notices = s.notices := rfl
@[simp] theorem State.setSch_taken (s : State) (x : Sch) : (s.setSch x).taken = s.taken := rfl
@[simp] theorem State.setSch_mem (s : State) (x : Sch) : (s.setSch x).mem = s.mem := rfl
@[simp] theorem State.setSch_hd (s : State) (x : Sch) : (s.setSch x).hd = s.hd := rfl
@[simp] theorem State.setSch_ctlOut (s : State) (x : Sch) : (s.setSch x).ctlOut = s.ctlOut := rfl
@[simp] theorem State.setSch_pins (s : State) (x : Sch) : (s.setSch x).pins = s.pins := rfl
@[simp] theorem State.setSch_straps (s : State) (x : Sch) : (s.setSch x).straps = s.straps := rfl
@[simp] theorem State.setSch_trc (s : State) (x : Sch) : (s.setSch x).trc = s.trc := rfl
@[simp] theorem State.setSch_srv (s : State) (x : Sch) : (s.setSch x).srv = s.srv := rfl
@[simp] theorem State.setSch_pos (s : State) (x : Sch) : (s.setSch x).pos = s.pos := rfl
@[simp] theorem State.setSch_tun (s : State) (x : Sch) : (s.setSch x).tun = s.tun := rfl
@[simp] theorem State.setSch_lds (s : State) (x : Sch) : (s.setSch x).lds = s.lds := rfl
@[simp] theorem State.setSch_clk (s : State) (x : Sch) : (s.setSch x).clk = s.clk := rfl
@[simp] theorem State.setSch_sch (s : State) (x : Sch) : (s.setSch x).sch = x := rfl
@[simp] theorem State.setSch_mpath (s : State) (x : Sch) : (s.setSch x).mpath = s.mpath := rfl
@[simp] theorem State.setSch_rqu (s : State) (x : Sch) : (s.setSch x).rqu = s.rqu := rfl
@[simp] theorem State.setSch_pwr (s : State) (x : Sch) : (s.setSch x).pwr = s.pwr := rfl

/-! `setMpath` -/

@[simp] theorem State.setMpath_pending (s : State) (x : Mpath) : (s.setMpath x).pending = s.pending := rfl
@[simp] theorem State.setMpath_now (s : State) (x : Mpath) : (s.setMpath x).now = s.now := rfl
@[simp] theorem State.setMpath_free (s : State) (x : Mpath) : (s.setMpath x).free = s.free := rfl
@[simp] theorem State.setMpath_notices (s : State) (x : Mpath) : (s.setMpath x).notices = s.notices := rfl
@[simp] theorem State.setMpath_taken (s : State) (x : Mpath) : (s.setMpath x).taken = s.taken := rfl
@[simp] theorem State.setMpath_mem (s : State) (x : Mpath) : (s.setMpath x).mem = s.mem := rfl
@[simp] theorem State.setMpath_hd (s : State) (x : Mpath) : (s.setMpath x).hd = s.hd := rfl
@[simp] theorem State.setMpath_ctlOut (s : State) (x : Mpath) : (s.setMpath x).ctlOut = s.ctlOut := rfl
@[simp] theorem State.setMpath_pins (s : State) (x : Mpath) : (s.setMpath x).pins = s.pins := rfl
@[simp] theorem State.setMpath_straps (s : State) (x : Mpath) : (s.setMpath x).straps = s.straps := rfl
@[simp] theorem State.setMpath_trc (s : State) (x : Mpath) : (s.setMpath x).trc = s.trc := rfl
@[simp] theorem State.setMpath_srv (s : State) (x : Mpath) : (s.setMpath x).srv = s.srv := rfl
@[simp] theorem State.setMpath_pos (s : State) (x : Mpath) : (s.setMpath x).pos = s.pos := rfl
@[simp] theorem State.setMpath_tun (s : State) (x : Mpath) : (s.setMpath x).tun = s.tun := rfl
@[simp] theorem State.setMpath_lds (s : State) (x : Mpath) : (s.setMpath x).lds = s.lds := rfl
@[simp] theorem State.setMpath_clk (s : State) (x : Mpath) : (s.setMpath x).clk = s.clk := rfl
@[simp] theorem State.setMpath_sch (s : State) (x : Mpath) : (s.setMpath x).sch = s.sch := rfl
@[simp] theorem State.setMpath_mpath (s : State) (x : Mpath) : (s.setMpath x).mpath = x := rfl
@[simp] theorem State.setMpath_rqu (s : State) (x : Mpath) : (s.setMpath x).rqu = s.rqu := rfl
@[simp] theorem State.setMpath_pwr (s : State) (x : Mpath) : (s.setMpath x).pwr = s.pwr := rfl

/-! `setRqu` -/

@[simp] theorem State.setRqu_pending (s : State) (x : Rqu) : (s.setRqu x).pending = s.pending := rfl
@[simp] theorem State.setRqu_now (s : State) (x : Rqu) : (s.setRqu x).now = s.now := rfl
@[simp] theorem State.setRqu_free (s : State) (x : Rqu) : (s.setRqu x).free = s.free := rfl
@[simp] theorem State.setRqu_notices (s : State) (x : Rqu) : (s.setRqu x).notices = s.notices := rfl
@[simp] theorem State.setRqu_taken (s : State) (x : Rqu) : (s.setRqu x).taken = s.taken := rfl
@[simp] theorem State.setRqu_mem (s : State) (x : Rqu) : (s.setRqu x).mem = s.mem := rfl
@[simp] theorem State.setRqu_hd (s : State) (x : Rqu) : (s.setRqu x).hd = s.hd := rfl
@[simp] theorem State.setRqu_ctlOut (s : State) (x : Rqu) : (s.setRqu x).ctlOut = s.ctlOut := rfl
@[simp] theorem State.setRqu_pins (s : State) (x : Rqu) : (s.setRqu x).pins = s.pins := rfl
@[simp] theorem State.setRqu_straps (s : State) (x : Rqu) : (s.setRqu x).straps = s.straps := rfl
@[simp] theorem State.setRqu_trc (s : State) (x : Rqu) : (s.setRqu x).trc = s.trc := rfl
@[simp] theorem State.setRqu_srv (s : State) (x : Rqu) : (s.setRqu x).srv = s.srv := rfl
@[simp] theorem State.setRqu_pos (s : State) (x : Rqu) : (s.setRqu x).pos = s.pos := rfl
@[simp] theorem State.setRqu_tun (s : State) (x : Rqu) : (s.setRqu x).tun = s.tun := rfl
@[simp] theorem State.setRqu_lds (s : State) (x : Rqu) : (s.setRqu x).lds = s.lds := rfl
@[simp] theorem State.setRqu_clk (s : State) (x : Rqu) : (s.setRqu x).clk = s.clk := rfl
@[simp] theorem State.setRqu_sch (s : State) (x : Rqu) : (s.setRqu x).sch = s.sch := rfl
@[simp] theorem State.setRqu_mpath (s : State) (x : Rqu) : (s.setRqu x).mpath = s.mpath := rfl
@[simp] theorem State.setRqu_rqu (s : State) (x : Rqu) : (s.setRqu x).rqu = x := rfl
@[simp] theorem State.setRqu_pwr (s : State) (x : Rqu) : (s.setRqu x).pwr = s.pwr := rfl

/-! `setPwr` -/

@[simp] theorem State.setPwr_pending (s : State) (x : Pwr) : (s.setPwr x).pending = s.pending := rfl
@[simp] theorem State.setPwr_now (s : State) (x : Pwr) : (s.setPwr x).now = s.now := rfl
@[simp] theorem State.setPwr_free (s : State) (x : Pwr) : (s.setPwr x).free = s.free := rfl
@[simp] theorem State.setPwr_notices (s : State) (x : Pwr) : (s.setPwr x).notices = s.notices := rfl
@[simp] theorem State.setPwr_taken (s : State) (x : Pwr) : (s.setPwr x).taken = s.taken := rfl
@[simp] theorem State.setPwr_mem (s : State) (x : Pwr) : (s.setPwr x).mem = s.mem := rfl
@[simp] theorem State.setPwr_hd (s : State) (x : Pwr) : (s.setPwr x).hd = s.hd := rfl
@[simp] theorem State.setPwr_ctlOut (s : State) (x : Pwr) : (s.setPwr x).ctlOut = s.ctlOut := rfl
@[simp] theorem State.setPwr_pins (s : State) (x : Pwr) : (s.setPwr x).pins = s.pins := rfl
@[simp] theorem State.setPwr_straps (s : State) (x : Pwr) : (s.setPwr x).straps = s.straps := rfl
@[simp] theorem State.setPwr_trc (s : State) (x : Pwr) : (s.setPwr x).trc = s.trc := rfl
@[simp] theorem State.setPwr_srv (s : State) (x : Pwr) : (s.setPwr x).srv = s.srv := rfl
@[simp] theorem State.setPwr_pos (s : State) (x : Pwr) : (s.setPwr x).pos = s.pos := rfl
@[simp] theorem State.setPwr_tun (s : State) (x : Pwr) : (s.setPwr x).tun = s.tun := rfl
@[simp] theorem State.setPwr_lds (s : State) (x : Pwr) : (s.setPwr x).lds = s.lds := rfl
@[simp] theorem State.setPwr_clk (s : State) (x : Pwr) : (s.setPwr x).clk = s.clk := rfl
@[simp] theorem State.setPwr_sch (s : State) (x : Pwr) : (s.setPwr x).sch = s.sch := rfl
@[simp] theorem State.setPwr_mpath (s : State) (x : Pwr) : (s.setPwr x).mpath = s.mpath := rfl
@[simp] theorem State.setPwr_rqu (s : State) (x : Pwr) : (s.setPwr x).rqu = s.rqu := rfl
@[simp] theorem State.setPwr_pwr (s : State) (x : Pwr) : (s.setPwr x).pwr = x := rfl

end Sys2Proof.Machine
end

