-- ==== Sys2Proof/Laws/Event.lean ====
section
/-! SUPPORT. Laws/Event.lean: what an event does once its own work is done, and how a host write reaches its owner. -/

namespace Sys2Proof.Machine

/-! ### Frames -/

/-- The frame of each part, from that of the whole. -/
theorem SameBut.refl (ps : List Part) (s : State) : SameBut ps s s := by
  intro p _; cases p <;> simp [Part.same]

theorem SameBut.trans {ps qs : List Part} {s t u : State} (h : SameBut ps s t) (h' : SameBut qs t u) :
    SameBut (ps ++ qs) s u := by
  intro p hp
  have h1 := h p fun m => hp (List.mem_append_left _ m)
  have h2 := h' p fun m => hp (List.mem_append_right _ m)
  cases p <;> simp_all [Part.same]

theorem SameBut.mono {ps qs : List Part} {s t : State} (h : SameBut ps s t) (hs : ∀ p ∈ ps, p ∈ qs) : SameBut qs s t :=
  fun p hp => h p fun m => hp (hs p m)

/-! ### The window base -/

theorem windowBase_lt (s : State) : windowBase s + 4096 ≤ 0x8000 := by
  have := s.straps.base.isLt
  unfold windowBase
  omega

/-! ### Notices -/

theorem startReady_of_run {s : State} (h : s.sch.run = none) : startReady s = false := by simp [startReady, h]

@[simp] theorem nextNotice_nil : nextNotice [] = none := rfl
@[simp] theorem nextNotice_check : nextNotice [.check] = some (.check, []) := rfl

/-- With no run and nothing in the timer queue, the pre-roll check does nothing. -/
theorem prerollCheck_idle {s : State} (hr : s.sch.run = none) (hq : s.sch.queue = []) : prerollCheck s = s := by
  have : checkDue 17 s = s := by simp [checkDue, dueEntries, hq]
  simp [prerollCheck, runTests, hr, hq, endPassedAll, this]

/-- With nothing untold and no run, an event ends as its own work left it. -/
theorem settle_idle {s : State} (n : Nat) (hn : s.notices = []) (hr : s.sch.run = none) : settle n s = s := by
  cases n with
  | zero => rfl
  | succ n => simp [settle, hn, startReady_of_run hr]

/-- With no run and nothing in the timer queue, a check that was asked for does nothing. -/
theorem settle_check {s : State} (n : Nat) (hn : s.notices = [.check]) (hr : s.sch.run = none)
    (hq : s.sch.queue = []) : settle (n + 1) s = s.setNotices [] := by
  simp only [settle, hn, nextNotice_check, takeNotice]
  rw [prerollCheck_idle (by simpa using hr) (by simpa using hq)]
  exact settle_idle n rfl (by simpa using hr)

/-! ### The end of an event -/

theorem completeOff_steady {s : State} (h : s.pwr.phase ≠ .stopping) : completeOff s = s := by
  simp [completeOff, h]

theorem releaseHost_steady {s : State} (h : s.pwr.phase ≠ .resetHold) : releaseHost s = s := by
  simp [releaseHost, h]

/-- An event that completes no power-off and releases no host ends by the lines. -/
theorem finish_steady {ran : Bool} {s : State} (h : s.pwr.phase ≠ .stopping) (h' : s.pwr.phase ≠ .resetHold) :
    finish ran s = setLines ran ((s.setNotices []).setTaken []) := by
  rw [finish, completeOff_steady (by simpa using h), releaseHost_steady (by simpa using h')]

/-- A command of the powered part. -/
theorem command_powered {f : State → State} {s : State} (h : s.pwr.power ≠ .backup) :
    command f s = .next (finish (hostRuns s) (settle Config.chainFuel (f s))) := by
  simp [command, event, powered, h]

/-- A host cycle of the powered part. -/
theorem hostCycle_powered {f : State → State} {s : State} (h : s.pwr.power ≠ .backup) :
    hostCycle f s = .next (closeCycle (finish (hostRuns s) (settle Config.chainFuel (f s)))) := by
  simp [hostCycle, event, powered, h]

/-- A host cycle of the unpowered part. -/
theorem hostCycle_backup {f : State → State} {s : State} (h : s.pwr.power = .backup) : hostCycle f s = .next s := by
  simp [hostCycle, powered, h]

/-- A command of the unpowered part. -/
theorem command_backup {f : State → State} {s : State} (h : s.pwr.power = .backup) : command f s = .next s := by
  simp [command, event, powered, h]

/-! ### Host cycles -/

theorem hostRuns_of {s : State} (h : HostRuns s) : hostRuns s = true := by simp [hostRuns, h.power, h.phase]

theorem urgentLevel_drained {s : State} (h : s.mpath.queue = []) : urgentLevel s = false := by
  simp [urgentLevel, h]

theorem holdCycle_drained {s : State} (h : s.mpath.queue = []) (n : Nat) : holdCycle n s = s := by
  cases n with
  | zero => rfl
  | succ n => simp [holdCycle, urgentLevel_drained h]

/-- R165: a host cycle is not held while nothing waits to drain. -/
theorem holdOrServe_drained {s : State} (h : s.mpath.queue = []) : holdOrServe s = s := by
  simp [holdOrServe, urgentLevel_drained h]

/-- A host write at an offset of the region, while nothing waits to drain, is served by the owner class of the offset. -/
theorem hostWriteAt_drained {s : State} (h : HostRuns s) {off : Nat} (ho : off < 4096) (data : Byte) :
    hostWriteAt off data s = regionWrite off data (releaseLatch s) := by
  have hb := windowBase_lt s
  have hw : windowOffset (releaseLatch s) (windowBase s + off) = some off := by
    have : windowBase (releaseLatch s) = windowBase s := rfl
    simp [windowOffset, this, ho]
  have h8 : ¬ 0x8000 ≤ windowBase s + off := by omega
  simp [hostWriteAt, hostWrite, hostRuns_of h, holdOrServe_drained h.drained.queue, h8, hw]

/-- With nothing waiting, a host write that passes writes its byte and nothing else. -/
theorem passWrite_drained {s : State} (hq : s.mpath.queue = []) (hg : s.mpath.grants = []) (off : Nat) (data : Byte) :
    passWrite off data s = writeRegion off data s := by
  have : (writeRegion off data s).mpath = s.mpath := rfl
  simp only [passWrite, clearPending, groupsLeft, grantSlots, grants, this, hq, hg, List.map_nil, List.filter_nil]
  cases s; rename_i m _ _; cases m; simp_all [writeRegion, State.setMem, State.setMpath]

/-- R168: the state in which a request's owner acts, when nothing waits: the code stands in COMMAND, and the latch is
released. -/
def atRequest (code : Byte) (s : State) : State := writeRegion offCommand code (releaseLatch s)

/-- A request while nothing waits to drain. -/
theorem hostCycle_request {s : State} (h : HostRuns s) (code : Byte) :
    hostCycle (hostWriteAt offCommand code) s =
      .next (closeCycle (finish true (settle Config.chainFuel (request code (atRequest code s))))) := by
  rw [hostCycle_powered (by simp [h.power]), hostWriteAt_drained h (by decide), hostRuns_of h]
  rw [regionWrite, if_neg (by decide), if_neg (by decide), if_pos rfl,
    passWrite_drained (s := releaseLatch s) h.drained.queue h.drained.grants]
  rfl

end Sys2Proof.Machine
end

