-- ==== Sys2Proof/Laws/Ops.lean ====
section
/-! SUPPORT. Laws/Ops.lean: what each shared operation over the queues does, and the nearest PG pulse, said once. -/

namespace Sys2Proof.Machine

/-! ### The lines -/

@[simp] theorem irqLevel_setLines (ran : Bool) (s : State) : irqLevel (setLines ran s) = irqLevel s := rfl
@[simp] theorem urgentLevel_setLines (ran : Bool) (s : State) : urgentLevel (setLines ran s) = urgentLevel s := rfl

theorem setLines_rqu (ran : Bool) (s : State) : (setLines ran s).rqu = { s.rqu with irq := irqLevel s } := rfl

theorem setLines_mpath (ran : Bool) (s : State) :
    (setLines ran s).mpath =
      { s.mpath with urgent := urgentLevel s, hwait := urgentLevel s, cycleOpen := openLevel ran s } := rfl

/-- The lines alone change. -/
theorem setLines_frame (ran : Bool) (s : State) : SameBut [.rqu, .mpath] s (setLines ran s) := by
  intro p hp; cases p <;> simp_all [Part.same, setLines]

/-- Lines that stand are left as they are. -/
theorem setLines_stand {ran : Bool} {s : State} (h : LinesStand s) : setLines ran s = s := by
  have h1 := h.irq
  have h2 := h.urgent
  have h3 := h.hwait
  unfold setLines
  simp only [State.setRqu, State.setMpath]
  have e1 : ({ s.rqu with irq := irqLevel s } : Rqu) = s.rqu := by rw [← h1]
  rw [e1]
  have h4 : openLevel ran s = s.mpath.cycleOpen := by
    have := h.cycleOpen
    cases hc : s.mpath.cycleOpen <;> cases hu : urgentLevel s <;> simp_all [openLevel]
  have e2 : ({ s.mpath with urgent := urgentLevel s, hwait := urgentLevel s, cycleOpen := openLevel ran s } : Mpath)
      = s.mpath := by
    rw [h4]; cases hm : s.mpath; simp_all
  show ({ s with mpath := { s.mpath with
    urgent := urgentLevel s, hwait := urgentLevel s, cycleOpen := openLevel ran s } } : State) = s
  rw [e2]

/-! ### The end of a command -/

/-- A command whose own work leaves `u`, with at most a check asked for, no run and an empty timer queue. -/
theorem command_ends {f : State → State} {s u : State} (hf : f s = u) (hp : s.pwr.power ≠ .backup)
    (hn : u.notices = [] ∨ u.notices = [.check]) (hr : u.sch.run = none) (hq : u.sch.queue = [])
    (hs : u.pwr.phase ≠ .stopping) (hh : u.pwr.phase ≠ .resetHold) :
    command f s = .next (setLines (hostRuns s) ((u.setNotices []).setTaken [])) := by
  rw [command_powered hp, hf]
  rcases hn with hn | hn
  · rw [settle_idle _ hn hr, finish_steady hs hh]
  · rw [show Config.chainFuel = 127 + 1 from rfl, settle_check 127 hn hr hq, finish_steady (by simpa using hs) (by simpa using hh)]
    rfl

/-- A command whose own work leaves `u` with nothing untold and with the lines standing ends in `u`. -/
theorem command_quiet {f : State → State} {s u : State} (hf : f s = u) (hp : s.pwr.power ≠ .backup)
    (hn : u.notices = []) (ht : u.taken = []) (hr : startReady u = false)
    (hs : u.pwr.phase ≠ .stopping) (hh : u.pwr.phase ≠ .resetHold) (hl : LinesStand u) :
    command f s = .next u := by
  have hset : settle Config.chainFuel u = u := by
    rw [show Config.chainFuel = 127 + 1 from rfl, settle, hn]
    simp [hr]
  rw [command_powered hp, hf, hset, finish_steady hs hh]
  have : (u.setNotices []).setTaken [] = u := by cases u; simp_all [State.setNotices, State.setTaken]
  rw [this, setLines_stand hl]

/-- Lines that stand go on standing while RQU, MPATH and PWR stay. -/
theorem LinesStand.of_same {s t : State} (h : LinesStand s) (hr : t.rqu = s.rqu) (hm : t.mpath = s.mpath)
    (hp : t.pwr = s.pwr) : LinesStand t := by
  have e1 : irqLevel t = irqLevel s := by simp [irqLevel, hostRuns, hr, hm, hp]
  have e2 : urgentLevel t = urgentLevel s := by simp [urgentLevel, hm, hp]
  exact ⟨by rw [e1, hr]; exact h.irq, by rw [e2, hm]; exact h.urgent, by rw [e2, hm]; exact h.hwait,
    by rw [hm]; exact h.cycleOpen⟩

/-- A command that touches no queue, no power state and tells SCH nothing ends where its own work left it. -/
theorem command_frame {f : State → State} {s : State} {ps : List Part} (hp : PowerSteady s) (hl : LinesStand s)
    (hu : NothingUntold s) (hf : SameBut ps s (f s))
    (hps : Part.rqu ∉ ps ∧ Part.mpath ∉ ps ∧ Part.pwr ∉ ps ∧ Part.untold ∉ ps) (hr : startReady (f s) = false) :
    command f s = .next (f s) := by
  obtain ⟨h1, h2, h3, h4⟩ := hps
  have r1 : (f s).rqu = s.rqu := hf _ h1
  have r2 : (f s).mpath = s.mpath := hf _ h2
  have r3 : (f s).pwr = s.pwr := hf _ h3
  have r4 : (f s).notices = s.notices ∧ (f s).taken = s.taken := hf _ h4
  exact command_quiet rfl hp.powered (by rw [r4.1, hu.1]) (by rw [r4.2, hu.2]) hr (by rw [r3]; exact hp.notStopping)
    (by rw [r3]; exact hp.notResetHold) (hl.of_same r1 r2 r3)

/-- The same with no run: nothing can be ready to start. -/
theorem command_frame_idle {f : State → State} {s : State} {ps : List Part} (hp : PowerSteady s) (hl : LinesStand s)
    (hi : ScheduleIdle s) (hf : SameBut ps s (f s))
    (hps : Part.rqu ∉ ps ∧ Part.mpath ∉ ps ∧ Part.pwr ∉ ps ∧ Part.untold ∉ ps ∧ Part.sch ∉ ps) :
    command f s = .next (f s) :=
  command_frame hp hl ⟨hi.notices, hi.taken⟩ hf ⟨hps.1, hps.2.1, hps.2.2.1, hps.2.2.2.1⟩
    (startReady_of_run (by rw [show (f s).sch = s.sch from hf _ hps.2.2.2.2]; exact hi.run))

/-- What an event leaves once its own work left `u`; `ran` says that the host ran as the event came. -/
def ended (ran : Bool) (u : State) : State := setLines ran ((u.setNotices []).setTaken [])

theorem ended_mpath (ran : Bool) (u : State) :
    (ended ran u).mpath =
      { u.mpath with urgent := urgentLevel u, hwait := urgentLevel u, cycleOpen := openLevel ran u } := rfl

theorem ended_rqu (ran : Bool) (u : State) : (ended ran u).rqu = { u.rqu with irq := irqLevel u } := rfl

@[simp] theorem irqLevel_ended (ran : Bool) (u : State) : irqLevel (ended ran u) = irqLevel u := rfl
@[simp] theorem urgentLevel_ended (ran : Bool) (u : State) : urgentLevel (ended ran u) = urgentLevel u := rfl
@[simp] theorem hostRuns_ended (ran : Bool) (u : State) : hostRuns (ended ran u) = hostRuns u := rfl

/-- The end of an event changes nothing but the lines and what is untold. -/
theorem ended_frame {ran : Bool} {ps : List Part} {s u : State} (hu : NothingUntold s) (h : SameBut ps s u)
    (hr : Part.rqu ∈ ps) (hm : Part.mpath ∈ ps) : SameBut (ps.erase .untold) s (ended ran u) := by
  intro p hp
  by_cases hpu : p = .untold
  · subst hpu; exact ⟨hu.1.symm, hu.2.symm⟩
  · have : p ∉ ps := fun m => hp ((List.mem_erase_of_ne hpu).2 m)
    have h1 := h p this
    cases p <;> simp_all [Part.same, ended, setLines]

/-- What an event posted, from what its own work left. -/
theorem posted_of {evs : List Event} {s u : State}
    (hr : u.rqu = { s.rqu with count := s.rqu.count + evs.length, newest := evs.getLastD s.rqu.newest })
    (hm : u.mpath = { s.mpath with queue := eventGroups s evs }) : Posted evs s (ended (hostRuns s) u) := by
  refine ⟨?_, ?_⟩
  · rw [Appended, ended_rqu, hr]; rfl
  · rw [Handed, ended_mpath, hm]; simp [openLevel, openAfter, hm]

/-! ### Groups and events -/

@[simp] theorem enqueue_mpath (g : WriteGroup) (s : State) :
    (enqueue g s).mpath = { s.mpath with queue := s.mpath.queue ++ [g] } := rfl

theorem enqueue_frame (g : WriteGroup) (s : State) : SameBut [.mpath] s (enqueue g s) := by
  intro p hp; cases p <;> simp_all [Part.same, enqueue]

/-- R171: an event posted while the event queue and the posted-write queue have room. -/
theorem post_room {e : Event} {s : State} (ho : s.rqu.overflow = none) (hc : s.rqu.count ≤ 30)
    (hq : s.mpath.queue.length < 4) :
    post e s = (s.setRqu { s.rqu with count := s.rqu.count + 1, newest := e }).setMpath
      { s.mpath with queue := s.mpath.queue ++ [eventGroupAt s 0 e] } := by
  simp [post, ho, hc, appendEvent, offerRqu, queueHasRoom, hq, enqueue, eventGroupAt, tailSlot, tailSeq]

/-- R171, R172: whatever the queues hold, a posted event touches RQU and MPATH alone. -/
theorem post_frame (e : Event) (s : State) : SameBut [.rqu, .mpath] s (post e s) := by
  intro p hp
  unfold post
  split
  · cases p <;> simp_all [Part.same]
  · split <;> cases p <;> simp_all [Part.same, appendEvent, offerRqu] <;> split <;> simp_all [enqueue, askSlot]

/-- R169: a result made while the posted-write queue has room. -/
theorem makeResult_room {a : Answer} {tag : Byte} {s : State} (hq : s.mpath.queue.length < 4) :
    makeResult a tag s = enqueue (resultGroup a tag) s := by
  simp [makeResult, queueHasRoom, hq, resultGroup]

/-- R118: a status group made while the posted-write queue has room. -/
theorem writeStatus_room {k : Fin 16} {s : State} (hq : s.mpath.queue.length < 4) :
    writeStatus k s = enqueue (statusGroup k (entry k s)) s := by
  simp [writeStatus, queueHasRoom, hq, handSch, statusGroup]

/-! ### The nearest PG pulse (R36) -/

theorem nearer_cases (t : Nat) (tie : Bool) (p q : Nat) :
    (nearer t tie p q = p ∨ nearer t tie p q = q)
    ∧ ((t : Int) - nearer t tie p q).natAbs ≤ ((t : Int) - p).natAbs
    ∧ ((t : Int) - nearer t tie p q).natAbs ≤ ((t : Int) - q).natAbs := by
  simp only [nearer]
  split <;> simp_all
  omega

/-- It is one of the pulses, and none of them is nearer. -/
theorem nearestSeen_spec (t : Nat) (tie : Bool) (p : Nat) (older : List Nat) :
    nearestSeen t tie p older ∈ p :: older
    ∧ ∀ y ∈ p :: older, ((t : Int) - nearestSeen t tie p older).natAbs ≤ ((t : Int) - y).natAbs := by
  unfold nearestSeen
  induction older generalizing p with
  | nil => simp
  | cons q older ih =>
    obtain ⟨hc, hp, hq⟩ := nearer_cases t tie p q
    obtain ⟨hm, hn⟩ := ih (nearer t tie p q)
    have h0 := hn _ List.mem_cons_self
    refine ⟨?_, fun y hy => ?_⟩
    · rcases List.mem_cons.mp hm with h | h
      · rw [List.foldl_cons, h]
        rcases hc with e | e <;> simp [e]
      · simp [h]
    · rcases List.mem_cons.mp hy with rfl | hy
      · exact h0.trans hp
      · rcases List.mem_cons.mp hy with rfl | hy
        · exact h0.trans hq
        · exact hn y (List.mem_cons_of_mem _ hy)

end Sys2Proof.Machine
end

