-- ==== Sys2Proof/Tests/Slice0.lean ====
section
/-! SUPPORT. Tests/Slice0.lean: the smoke test of WellFormed, a few single-step checks against the manual's own
figures, and for every statement with hypotheses a witness that concrete states and operands meet them. -/

open Sys2Proof Sys2Proof.Machine

namespace Sys2Proof.Tests

/-! ### WellFormed refuses an ill-formed term of each check -/

theorem test_wellFormed_profileWrite : WellFormed (.profileWrite 127 0) = true ∧ WellFormed (.profileWrite 128 0) = false := by
  decide

theorem test_wellFormed_presetWrite : WellFormed (.presetWrite 1583 0) = true ∧ WellFormed (.presetWrite 1584 0) = false := by
  decide

theorem test_wellFormed_programmeWrite :
    WellFormed (.programmeWrite 511 0) = true ∧ WellFormed (.programmeWrite 512 0) = false := by decide

theorem test_wellFormed_settingsWrite : WellFormed (.settingsWrite 31 0) = true ∧ WellFormed (.settingsWrite 32 0) = false := by
  decide

theorem test_wellFormed_partOwnedWrite :
    WellFormed (.partOwnedWrite 0x05F 0) = true ∧ WellFormed (.partOwnedWrite 0x060 0) = false
    ∧ WellFormed (.partOwnedWrite 0x01B 0) = false := by decide

theorem test_wellFormed_unknownCommand :
    WellFormed (.unknownCommand 0x0F) = true ∧ WellFormed (.unknownCommand 0x51) = false := by decide

theorem test_wellFormed_linePacketComplete :
    WellFormed (.linePacketComplete [0]) = true ∧ WellFormed (.linePacketComplete []) = false
    ∧ WellFormed (.linePacketComplete (List.replicate 17 0)) = false := by decide

theorem test_wellFormed_framingCodeFound :
    WellFormed (.framingCodeFound (List.replicate 24 true)) = true
    ∧ WellFormed (.framingCodeFound (List.replicate 23 true)) = false := by decide

theorem test_wellFormed_keyPress : WellFormed (.keyPress [1]) = true ∧ WellFormed (.keyPress []) = false := by decide

/-! ### States the tests start from -/

/-- The deck on, its host running, nothing waiting, one second after its start. -/
def deck : State :=
  { State.reset with
    now := 1000000
    pins := { Pins.start with mainGood := true, stbyGood := true }
    pwr := { Pwr.start with power := .on, phase := .running, regionReady := true, mainEn := true, hrst := false } }

/-- The deck with a tape, in a transport state and a row of the servo. -/
def taped (st : TransportState) (row : Row) : State :=
  { deck with
    trc := { Trc.start with st := st, cassette := true, tab := true }
    srv := { Srv.start 0 with row := row, origin := .detected } }

/-- The deck with the servo in a row. -/
def driven (row : Row) : State := { deck with srv := { Srv.start 0 with row := row } }

/-- The deck with the tuner in a state, tuned to a divider. -/
def tuned (st : TunerState) (kind : TuningKind) (base : Nat) (offset : Int) : State :=
  { deck with tun := { Tun.start with st := st, kind := kind, base := base, offset := offset } }

/-- The deck with a request's arguments. -/
def asked (a0 a1 a2 a3 a4 a5 : Byte) (s : State) : State :=
  { s with rqu := { s.rqu with arg0 := a0, arg1 := a1, arg2 := a2, arg3 := a3, arg4 := a4, arg5 := a5 } }

/-- What a command leads to from a state. -/
def after (c : Instr) (s : State) : State :=
  match exec c s with
  | .next t => t
  | .fault _ => s
  | .refused _ => s

/-! ### Single steps against the manual's figures -/

/-- R31: a drum FG interval of 6,660 µs at 25 frames a second: e = 6 × 6,660 − 40,000 = −40, and
floor(−40 × 64 / 4096) = −1. -/
theorem test_drumFgPulse_lowers_duty :
    (after (.drumFgPulse 1006660)
      ((driven .play).setSrv { (driven .play).srv with drumFg := some 1000000, drumDuty := 512 })).srv.drumDuty = 511 := by
  decide

/-- R105: 1999-12-31 23:59:59 (year offset 9) is followed by 2000-01-01 00:00:00. -/
theorem test_secondAdvance_new_year :
    (after .secondAdvance (deck.setClk { deck.clk with time := ⟨9, 12, 31, 23, 59, 59⟩ })).clk.time
      = ⟨10, 1, 1, 0, 0, 0⟩ := by decide

/-- R106: 2000 is a leap year: 28 February is followed by the 29th. -/
theorem test_secondAdvance_leap_day :
    (after .secondAdvance (deck.setClk { deck.clk with time := ⟨10, 2, 28, 23, 59, 59⟩ })).clk.time
      = ⟨10, 2, 29, 0, 0, 0⟩ := by decide

/-- R106, its own example: 2024-01-01 lies 12,418 days after 1990-01-01 and is a Monday. -/
theorem test_weekday_example : daysOf 34 1 1 = 12418 ∧ weekdayOf (daysOf 34 1 1) = 0 := by decide

/-- R58: a profile byte goes to the RAM at 0x080 and to the shadow. -/
theorem test_profileWrite_shadow :
    (after (.profileWrite 127 0xA5) deck).mem = [(0x0FF, 0xA5)]
    ∧ (after (.profileWrite 127 0xA5) deck).pos.profiles = [(127, 0xA5)] := by decide

/-- R161: a host read outside the live block answers from the RAM. -/
theorem test_liveRead_ram : (after (.liveRead 0x7FFF) (deck.setMem [(0x7FFF, 0x5A)])).hd = some 0x5A := by decide

/-- R91: the 255th line is the last that is counted. -/
theorem test_lineStart_saturates :
    (after .lineStart ((tuned .locked .direct 5000 0).setLds { Lds.start with st := .run, line := 255 })).lds.line = 255 := by
  decide

/-- R30: a new duty shows on the output from the next PWM period on. -/
theorem test_pwm_period :
    let s := deck.setSrv { deck.srv with drumDuty := 300, drumPwm := 200 }
    pwmLevel s.srv.drumPwm 200 = false ∧ pwmLevel (pwmPeriod s).srv.drumPwm 299 = true := by decide

/-- R126: on Monday 1990-01-01 at noon, a Monday entry from 10:00 to 11:00 has no day left among the eight. -/
theorem test_nextOccurrence_eight_days :
    nextOccurrence [(0, 3), (3, 1), (7, 10), (9, 11), (11, 1)] 0 none 43200 = none := by decide

/-- R76, R70: a LINE tune clears tracking hold. -/
theorem test_tuneLine_clears_hold :
    (after .tune (asked 3 0 0 0 0 0 (deck.setTun { (tuned .locked .preset 5000 3).tun with preset := some 1, hold := true }))).tun.hold
      = false := by decide

/-- R88, R89: a tuner LOCKED leaves LOCKED at a loss of the main rail, and its FIFO is emptied. -/
theorem test_mainGoodFall_leaves_locked :
    let s := (tuned .locked .scan 5000 3).setLds { Lds.start with st := .run, fifo := [.name 5 [0x41]] }
    (after .mainGoodFall s).tun.st = .hold ∧ (after .mainGoodFall s).tun.base = 5003 ∧ (after .mainGoodFall s).lds.fifo = [] := by
  decide

/-- R53: 1:02:03 and 4 frames at 25 frames a second. -/
theorem test_display_form : displayOf 25 93079 = (1, 2, 3, 4) := by decide

/-- R52: the counter is reset in STOP. -/
theorem test_counterReset_zero :
    (after .counterReset ((taped .stop .still).setPos { Pos.start with counter := -7, unsure := true })).pos.counter = 0 := by
  decide

/-! ### A witness for every statement with hypotheses -/

/-- StepRunsFrontCommand. -/
theorem witness_step : ∃ (c : Instr) (rest : List Instr) (s : State), s.pending = c :: rest :=
  ⟨.play, [.stop], deck.setPending [.play, .stop], rfl⟩

/-- IdleStepIsOneCrystalPeriod: the last period before the wrap, and the wrap. -/
theorem witness_idleStep :
    (∃ s : State, s.pending = [] ∧ s.clk.sub < 32767) ∧ ∃ s : State, s.pending = [] ∧ s.clk.sub = 32767 :=
  ⟨⟨deck.setClk { deck.clk with sub := 32766 }, by decide⟩, ⟨deck.setClk { deck.clk with sub := 32767 }, by decide⟩⟩

/-- EveryStepKeepsMemoriesCanonical, with a byte in the RAM. -/
theorem witness_memories : ∃ s t : State, MemoriesWf s ∧ step s = .next t :=
  ⟨deck.setMem [(3, 7)], _, by constructor <;> decide, rfl⟩

/-- EveryStepKeepsQueueBounds, with a full event queue. -/
theorem witness_queues : ∃ s t : State, QueuesWf s ∧ NothingUntold s ∧ step s = .next t :=
  ⟨deck.setRqu { deck.rqu with count := 32, overflow := some 31 }, _, by constructor <;> decide, ⟨rfl, rfl⟩, rfl⟩

/-- EveryStepKeepsServoAndCounterBounds, at the limits. -/
theorem witness_servo : ∃ s t : State, ServoWf s ∧ step s = .next t :=
  ⟨(deck.setPos { deck.pos with counter := Config.counterLimit false }).setSrv { deck.srv with drumDuty := 1023 }, _,
    by constructor <;> decide, rfl⟩

/-- EveryStepKeepsClockValid, at the clock's limit. -/
theorem witness_clock : ∃ s t : State, ClockWf s ∧ step s = .next t :=
  ⟨deck.setClk { deck.clk with time := limitTime, sub := 32766 }, _, by constructor <;> decide, rfl⟩

/-- EveryStepKeepsSlicerAndFifo, with a packet in the FIFO. -/
theorem witness_fifo : ∃ s t : State, FifoWf s ∧ SlicerWf s ∧ step s = .next t :=
  ⟨(tuned .locked .direct 5000 0).setLds { Lds.start with st := .run, fifo := [.name 1 [0x41]] }, _,
    by constructor <;> decide, by constructor <;> decide, rfl⟩

/-- EveryStepKeepsTransportRules, writing in RECORD. -/
theorem witness_transport : ∃ s t : State, TransportWf s ∧ step s = .next t :=
  ⟨(taped .record .record).setTrc { (taped .record .record).trc with writing := true }, _,
    by constructor <;> decide, rfl⟩

/-- BackupDomainOutlivesTheSupply: a backup reset; another command in BACKUP; the three cases of the drain. -/
theorem witness_backupDomain :
    (∃ s : State, s.pwr.power = .backup)
    ∧ (∃ (c : Instr) (s : State), s.pwr.power = .backup ∧ c ≠ .backupReset ∧ c ≠ .secondAdvance ∧
      ∀ l, c ≠ .standbyStart l)
    ∧ (∃ (b : Bool) (s : State), b = false ∧ s.pwr.power ≠ .backup ∧ s.mem.wf = true)
    ∧ (∃ (b : Bool) (s : State), b = true ∧ s.pwr.power ≠ .backup ∧ s.mem.wf = true ∧ nextDrain s = none)
    ∧ (∃ (b : Bool) (s : State) (a : Nat) (v : Byte), b = true ∧ s.pwr.power ≠ .backup ∧ s.mem.wf = true ∧
      nextDrain s = some (a, v)) :=
  ⟨⟨State.reset, by repeat' first | decide | constructor⟩,
   ⟨.play, State.reset, rfl, nofun, nofun, nofun⟩,
   ⟨false, deck, by repeat' first | decide | constructor⟩,
   ⟨true, deck, by repeat' first | decide | constructor⟩,
   ⟨true, deck.setMpath { deck.mpath with queue := [mkGroup 0x100 [5]] }, 0x100, 5,
     by repeat' first | decide | constructor⟩⟩

/-- The levels at a standby start with a cassette in and the highest base strap. -/
def levels : PinLevels := ⟨true, true, true, false, false, false, 0, false, 7, true, false⟩

/-- The part in BACKUP at 1995-01-01 over a region at 0x7000 with the signature, one preset's offset byte, and entry 15 of the
line input on 1995-01-02 from 10:00 to 11:00 in a state, its next occurrence that one. -/
def found (offset state : Byte) (time : DateTime) : State :=
  let m := Memory.writeAll [] 0x7000 signature
  let m := (m.write 0x7433 offset).writeAll 0x73E0 [3, 0, 0, 0, 5, 1, 2, 10, 0, 11, 0, 1, 0, 0]
  let m := m.writeAll 0x73F4 [state, 0, 0xFF, 0, 0, 5, 1, 2, 10, 0, 0]
  { State.reset with mem := m, clk := { State.reset.clk with valid := true, time } }

theorem offsetsGood_of_bound {l : PinLevels} {s : State}
    (h : ∀ n, n < 100 → 1 ≤ n → -24 ≤ (s.mem.read (4096 * l.wb.toNat + 0x403 + 16 * n)).toInt
      ∧ (s.mem.read (4096 * l.wb.toNat + 0x403 + 16 * n)).toInt ≤ 24) : OffsetsGood l s :=
  fun n h1 h2 => h n (by omega) h1

theorem oneBadOffset_of_bound {n : Nat} {l : PinLevels} {s : State}
    (h : ∀ i, i < 100 → 1 ≤ i → (i = n ↔ ¬ (-24 ≤ (s.mem.read (4096 * l.wb.toNat + 0x403 + 16 * i)).toInt
      ∧ (s.mem.read (4096 * l.wb.toNat + 0x403 + 16 * i)).toInt ≤ 24))) : OneBadOffset n l s :=
  fun i h1 h2 => h i (by omega) h1

/-- StandbyStartInitialisesBlankRegion: blank RAM. -/
theorem witness_standbyStart :
    ∃ (l : PinLevels) (s : State), s.pwr.power = .backup ∧ s.mem.bytes (4096 * l.wb.toNat) 16 ≠ signature :=
  ⟨levels, State.reset, by repeat' first | decide | constructor⟩

/-- Its clauses over a region that is found: with the offset of each preset good, and with the third one's alone bad. -/
theorem witness_regionFound :
    (∃ (l : PinLevels) (s : State), RegionFound l s ∧ OffsetsGood l s ∧
      ∀ k : Fin 16, (foundEntry l s k).state ∈ [EntryState.empty, .ended])
    ∧ ∃ (l : PinLevels) (s : State) (n : Nat), RegionFound l s ∧ 1 ≤ n ∧ n ≤ 99 ∧ OneBadOffset n l s ∧
      ∀ k : Fin 16, (foundEntry l s k).state ∈ [EntryState.empty, .ended] :=
  ⟨⟨levels, found 24 6 ⟨5, 1, 1, 0, 0, 0⟩, by repeat' first | decide | exact offsetsGood_of_bound (by decide) | constructor⟩,
   ⟨levels, found 25 0 ⟨5, 1, 1, 0, 0, 0⟩, 3, by repeat' first | decide | exact oneBadOffset_of_bound (by decide) | constructor⟩⟩

/-- Its clauses with one entry left: in DRAFT, in ACTIVE, and WAITING for an occurrence that passed and for one ahead. -/
theorem witness_entryFound :
    (∃ (l : PinLevels) (s : State) (k : Fin 16), RegionFound l s ∧ OffsetsGood l s ∧
      (∀ j : Fin 16, j ≠ k → (foundEntry l s j).state ∈ [EntryState.empty, .ended]) ∧ (foundEntry l s k).state = .draft)
    ∧ (∃ (l : PinLevels) (s : State) (k : Fin 16), RegionFound l s ∧ OffsetsGood l s ∧
      (∀ j : Fin 16, j ≠ k → (foundEntry l s j).state ∈ [EntryState.empty, .ended]) ∧
      (foundEntry l s k).state ∈ [EntryState.preroll, .active, .paused] ∧
      progMask (s.mem.slice (4096 * l.wb.toNat + 0x200) 512) k = 0)
    ∧ (∃ (l : PinLevels) (s : State) (k : Fin 16) (start : Nat), RegionFound l s ∧ OffsetsGood l s ∧
      (∀ j : Fin 16, j ≠ k → (foundEntry l s j).state ∈ [EntryState.empty, .ended]) ∧
      (foundEntry l s k).state = .waiting ∧ (foundEntry l s k).next = some start ∧
      progMask (s.mem.slice (4096 * l.wb.toNat + 0x200) 512) k = 0 ∧
      stopOf (s.mem.slice (4096 * l.wb.toNat + 0x200) 512) k start ≤ s.clk.time.secs ∧
      ∀ day, (foundEntry l s k).lastRun = some day → day < start / 86400)
    ∧ (∃ (l : PinLevels) (s : State) (k : Fin 16) (start : Nat), RegionFound l s ∧ OffsetsGood l s ∧
      (∀ j : Fin 16, j ≠ k → (foundEntry l s j).state ∈ [EntryState.empty, .ended]) ∧
      (foundEntry l s k).state = .waiting ∧ (foundEntry l s k).next = some start ∧
      nextOccurrence (s.mem.slice (4096 * l.wb.toNat + 0x200) 512) k (foundEntry l s k).lastRun s.clk.time.secs = some start ∧
      s.clk.time.secs < stopOf (s.mem.slice (4096 * l.wb.toNat + 0x200) 512) k start ∧
      s.clk.time.secs + setLead (s.mem.slice (4096 * l.wb.toNat + 0x060) 32) < start) :=
  ⟨⟨levels, found 0 1 ⟨5, 1, 1, 0, 0, 0⟩, 15, by repeat' first | decide | exact offsetsGood_of_bound (by decide) | constructor⟩,
   ⟨levels, found 0 4 ⟨5, 1, 1, 0, 0, 0⟩, 15, by repeat' first | decide | exact offsetsGood_of_bound (by decide) | constructor⟩,
   ⟨levels, found 0 2 ⟨5, 1, 2, 11, 0, 0⟩, 15, 157888800,
     by repeat' first | decide | exact offsetsGood_of_bound (by decide) | (intro day h; rw [show (foundEntry levels (found 0 2 ⟨5, 1, 2, 11, 0, 0⟩) 15).lastRun = none by decide] at h; cases h) | constructor⟩,
   ⟨levels, found 0 2 ⟨5, 1, 1, 0, 0, 0⟩, 15, 157888800,
     by repeat' first | decide | exact offsetsGood_of_bound (by decide) | constructor⟩⟩

/-- MainRailRiseAndHostRelease. -/
theorem witness_mainRailRise :
    (∃ s : State, ScheduleIdle s ∧ LinesStand s ∧ s.pwr.power = .on ∧ s.pwr.phase = .rising ∧
      s.pins.mainGood = false ∧ s.srv.row = .allOff ∧ s.srv.reelDuty = 0 ∧ s.trc.st = .unthreaded ∧ s.tun.st ≠ .hold)
    ∧ (∃ (s : State) (since : Nat) (c : WakeCause), ScheduleIdle s ∧ Drained s ∧ EventRoom 1 s ∧ s.pwr.power = .on ∧
      s.pwr.phase = .resetHold ∧ s.pwr.holdTimer = .running since ∧ s.pwr.regionReady = true ∧
      s.pwr.wakeDue = some c)
    ∧ (∃ (s : State) (since : Nat), ScheduleIdle s ∧ LinesStand s ∧ s.pwr.power = .on ∧ s.pwr.phase = .resetHold ∧
      s.pwr.holdTimer = .running since ∧ s.pwr.regionReady = false) :=
  ⟨⟨((taped .unthreaded .allOff).setPins Pins.start).setPwr { deck.pwr with phase := .rising },
     by repeat' first | decide | constructor⟩,
   ⟨(deck.setRqu { deck.rqu with count := 30 }).setPwr
     { deck.pwr with phase := .resetHold, holdTimer := .running 950000, wakeDue := some .timer }, 950000, .timer,
     by repeat' first | decide | constructor⟩,
   ⟨deck.setPwr { deck.pwr with phase := .resetHold, holdTimer := .running 950000, regionReady := false }, 950000,
     by repeat' first | decide | constructor⟩⟩

/-- MainRailLossEndsOn. -/
theorem witness_mainRailLoss :
    (∃ s : State, ScheduleIdle s ∧ Drained s ∧ EventRoom 2 s ∧ s.pwr.power = .on ∧ s.pwr.phase = .running ∧
      s.pins.mainGood = true ∧ s.trc.st = .play ∧ s.trc.owner = .panel ∧ s.trc.writing = false ∧ s.trc.search = none ∧
      s.tun.scan = none ∧ s.tun.kind = .preset ∧ s.tun.st = .locked)
    ∧ (∃ (s : State) (since : Nat), ScheduleIdle s ∧ Drained s ∧ EventRoom 1 s ∧ s.pwr.power = .on ∧
      s.pwr.phase = .rising ∧ s.pwr.railTimer = some since) :=
  ⟨⟨(taped .play .play).setTun { Tun.start with st := .locked, kind := .preset, base := 5000 },
     by repeat' first | decide | constructor⟩,
   ⟨deck.setPwr { deck.pwr with phase := .rising, railTimer := some 0 }, 0, by repeat' first | decide | constructor⟩⟩

/-- PowerOffStopsTheHost. -/
theorem witness_powerOff :
    (∃ s : State, HostRuns s ∧ ScheduleIdle s ∧ s.trc.owner = .panel ∧ s.trc.st = .unthreaded)
    ∧ (∃ s : State, ScheduleIdle s ∧ Drained s ∧ LinesStand s ∧ s.pwr.power = .on ∧ s.pwr.phase = .stopping ∧
      s.trc.st = .unthreaded) :=
  ⟨⟨taped .unthreaded .allOff, by repeat' first | decide | constructor⟩,
   ⟨(taped .unthreaded .allOff).setPwr { deck.pwr with phase := .stopping }, by repeat' first | decide | constructor⟩⟩

/-- The deck in STANDBY, with or without a cassette in. -/
def asleep (cassette : Bool) : State :=
  { deck with
    pins := { deck.pins with mainGood := false, cassSw := cassette }
    pwr := { Pwr.start with regionReady := true }
    trc := { Trc.start with st := if cassette then .unthreaded else .noCassette, cassette := cassette, tab := cassette } }

/-- KeyPressQualifiesAtThreeSamples: the highest key. -/
theorem witness_keyPress :
    ∃ (n : Fin 4) (s : State), n.val = 3 ∧ ScheduleIdle s ∧ Drained s ∧ EventRoom 1 s ∧ LinesStand s ∧
      s.pwr.power = .on ∧ s.pwr.phase = .running ∧ s.pwr.off = .none ∧ s.pwr.key0 = .start ∧ s.pwr.key1 = .start ∧
      s.pwr.key2 = .start ∧ s.pwr.key3 = .start :=
  ⟨3, deck, by repeat' first | decide | constructor⟩

/-- Its clauses of STANDBY: with a cassette unthreaded, and with none. -/
theorem witness_keyWakes :
    (∃ s : State, ScheduleIdle s ∧ Drained s ∧ LinesStand s ∧ s.pwr.power = .standby ∧ s.pwr.key0 = .start ∧
      s.pwr.key1 = .start ∧ s.pwr.key2 = .start ∧ s.pwr.key3 = .start ∧ s.trc.owner = .panel ∧
      s.trc.st = .unthreaded ∧ s.trc.cassette = true ∧ s.srv.row = .allOff)
    ∧ (∃ s : State, ScheduleIdle s ∧ Drained s ∧ LinesStand s ∧ s.pwr.power = .standby ∧ s.pwr.key0 = .start ∧
      s.pwr.key1 = .start ∧ s.pwr.key2 = .start ∧ s.pwr.key3 = .start ∧ s.trc.cassette = false) :=
  ⟨⟨asleep true, by repeat' first | decide | constructor⟩, ⟨asleep false, by repeat' first | decide | constructor⟩⟩

/-- MotionRequestsFromStop. -/
theorem witness_motionRequests :
    ∃ s : State, HostRuns s ∧ ScheduleIdle s ∧ s.trc.owner = .panel ∧ s.trc.st = .stop ∧ s.trc.pending = none ∧
      s.pins.mainGood = true ∧ s.pins.endSense = false ∧ s.pins.startSense = false ∧ s.srv.row = .still ∧
      s.srv.origin ≠ .default :=
  ⟨taped .stop .still, by repeat' first | decide | constructor⟩

/-- StopEndsMotion: a motion, and STILL. -/
theorem witness_stop :
    (∃ s : State, HostRuns s ∧ ScheduleIdle s ∧ s.rqu.arg0 = 0 ∧ s.trc.owner = .panel ∧ s.trc.pending = none ∧
      s.trc.st = .ff ∧ s.trc.writing = false ∧ s.pins.mainGood = true ∧ s.srv.row = rowOf s.trc)
    ∧ (∃ s : State, HostRuns s ∧ ScheduleIdle s ∧ s.rqu.arg0 = 0 ∧ s.trc.owner = .panel ∧ s.trc.pending = none ∧
      s.trc.st = .still ∧ s.trc.writing = false ∧ s.pins.mainGood = true ∧ s.srv.row = rowOf s.trc) :=
  ⟨⟨taped .ff .ff, by repeat' first | decide | constructor⟩,
   ⟨taped .still .still, by repeat' first | decide | constructor⟩⟩

/-- RecordFromStop: at once, and paused. -/
theorem witness_record :
    (∃ (s : State) (m : Speed), HostRuns s ∧ ScheduleIdle s ∧ s.trc.owner = .panel ∧ s.trc.st = .stop ∧
      s.trc.pending = none ∧ s.trc.tab = true ∧ s.pins.mainGood = true ∧ s.srv.row = .still ∧ s.srv.capOn = false ∧
      s.srv.drumLock ≠ .phase ∧ s.pins.endSense = false ∧ s.pins.startSense = false ∧ s.trc.writing = false ∧
      s.rqu.arg0 = 0 ∧ s.rqu.arg3 = Byte.of m.m ∧ s.rqu.arg4.toNat < 2 ∧ s.rqu.arg5 = 0)
    ∧ (∃ (s : State) (m : Speed), HostRuns s ∧ ScheduleIdle s ∧ s.trc.owner = .panel ∧ s.trc.st = .stop ∧
      s.trc.pending = none ∧ s.trc.tab = true ∧ s.pins.mainGood = true ∧ s.srv.row = .still ∧ s.srv.capOn = false ∧
      s.srv.drumLock ≠ .phase ∧ s.pins.endSense = false ∧ s.pins.startSense = false ∧ s.trc.writing = false ∧
      s.rqu.arg0 = 0 ∧ s.rqu.arg3 = Byte.of m.m ∧ s.rqu.arg4.toNat < 2 ∧ s.rqu.arg5 = 1) :=
  ⟨⟨asked 0 0 0 (Byte.of Speed.ep.m) 1 0 (taped .stop .still), .ep, by repeat' first | decide | constructor⟩,
   ⟨asked 0 0 0 (Byte.of Speed.sp.m) 0 1 (taped .stop .still), .sp, by repeat' first | decide | constructor⟩⟩

/-- PauseAndResume. -/
theorem witness_pauseResume :
    (∃ s : State, HostRuns s ∧ ScheduleIdle s ∧ s.trc.owner = .panel ∧ s.trc.st = .play ∧ s.pins.mainGood = true ∧
      s.srv.row = .play)
    ∧ (∃ s : State, HostRuns s ∧ ScheduleIdle s ∧ s.trc.owner = .panel ∧ s.trc.st = .record ∧ s.trc.writing = true ∧
      s.pins.mainGood = true ∧ s.pins.startSense = false ∧ s.srv.row = .record ∧ s.srv.capOn = true)
    ∧ (∃ s : State, HostRuns s ∧ ScheduleIdle s ∧ s.trc.owner = .panel ∧ s.trc.st = .recPause ∧
      s.trc.phase = .atRest ∧ s.pins.mainGood = true ∧ s.pins.endSense = false ∧ s.srv.row = .rest) :=
  ⟨⟨taped .play .play, by repeat' first | decide | constructor⟩,
   ⟨((taped .record .record).setTrc { (taped .record .record).trc with writing := true }).setSrv
     { (taped .record .record).srv with capOn := true },
     by repeat' first | decide | constructor⟩,
   ⟨taped .recPause .rest, by repeat' first | decide | constructor⟩⟩

/-- EjectBegins. -/
theorem witness_eject :
    (∃ s : State, HostRuns s ∧ ScheduleIdle s ∧ s.trc.owner = .panel ∧ s.trc.st = .unthreaded ∧ s.srv.row = .allOff)
    ∧ (∃ s : State, HostRuns s ∧ ScheduleIdle s ∧ s.trc.owner = .panel ∧ s.trc.st = .stop ∧ s.trc.writing = false ∧
      s.pins.mainGood = true ∧ s.srv.row = .still) :=
  ⟨⟨taped .unthreaded .allOff, by repeat' first | decide | constructor⟩,
   ⟨taped .stop .still, by repeat' first | decide | constructor⟩⟩

/-- SearchesStart: a GOTO to the counter, to 250 and to 251 frames back, and searches of 1 and of 20 marks. -/
theorem witness_searches :
    (∃ (s : State) (d : Int), HostRuns s ∧ ScheduleIdle s ∧ s.trc.owner = .panel ∧ s.trc.st = .stop ∧
      s.trc.pending = none ∧ s.pins.mainGood = true ∧ s.pins.endSense = false ∧ s.pins.startSense = false ∧
      s.srv.row = .still ∧ s.srv.origin ≠ .default ∧ -(Config.counterLimit s.straps.fr30) ≤ s.rqu.arg24 ∧
      s.rqu.arg24 ≤ Config.counterLimit s.straps.fr30 ∧ s.rqu.arg24 = s.pos.counter + d ∧ d = 0 ∧ EventRoom 1 s)
    ∧ (∃ (s : State) (d : Int), HostRuns s ∧ ScheduleIdle s ∧ s.trc.owner = .panel ∧ s.trc.st = .stop ∧
      s.trc.pending = none ∧ s.pins.mainGood = true ∧ s.pins.endSense = false ∧ s.pins.startSense = false ∧
      s.srv.row = .still ∧ s.srv.origin ≠ .default ∧ -(Config.counterLimit s.straps.fr30) ≤ s.rqu.arg24 ∧
      s.rqu.arg24 ≤ Config.counterLimit s.straps.fr30 ∧ s.rqu.arg24 = s.pos.counter + d ∧ d ≠ 0)
    ∧ (∃ (s : State) (d : Int), HostRuns s ∧ ScheduleIdle s ∧ s.trc.owner = .panel ∧ s.trc.st = .stop ∧
      s.trc.pending = none ∧ s.pins.mainGood = true ∧ s.pins.endSense = false ∧ s.pins.startSense = false ∧
      s.srv.row = .still ∧ s.srv.origin ≠ .default ∧ -(Config.counterLimit s.straps.fr30) ≤ s.rqu.arg24 ∧
      s.rqu.arg24 ≤ Config.counterLimit s.straps.fr30 ∧ s.rqu.arg24 = s.pos.counter + d ∧ d ≠ 0)
    ∧ (∃ s : State, HostRuns s ∧ ScheduleIdle s ∧ s.trc.owner = .panel ∧ s.trc.st = .stop ∧ s.trc.pending = none ∧
      s.pins.mainGood = true ∧ s.pins.endSense = false ∧ s.pins.startSense = false ∧ s.srv.row = .still ∧
      s.srv.origin ≠ .default ∧ s.rqu.arg0 = 0 ∧ s.rqu.arg1.toNat = 1)
    ∧ (∃ s : State, HostRuns s ∧ ScheduleIdle s ∧ s.trc.owner = .panel ∧ s.trc.st = .stop ∧ s.trc.pending = none ∧
      s.pins.mainGood = true ∧ s.pins.endSense = false ∧ s.pins.startSense = false ∧ s.srv.row = .still ∧
      s.srv.origin ≠ .default ∧ s.rqu.arg0 = 1 ∧ s.rqu.arg1.toNat = 20) :=
  ⟨⟨taped .stop .still, 0, by repeat' first | decide | constructor⟩,
   ⟨asked 0xFA 0 0 0 0 0 (taped .stop .still), 250, by repeat' first | decide | constructor⟩,
   ⟨asked 0x05 0xFF 0xFF 0 0 0 (taped .stop .still), -251, by repeat' first | decide | constructor⟩,
   ⟨asked 0 1 0 0 0 0 (taped .stop .still), by repeat' first | decide | constructor⟩,
   ⟨asked 1 20 0 0 0 0 (taped .stop .still), by repeat' first | decide | constructor⟩⟩

/-- CounterResetAndRecover: the reset with the blank timer running and stopped; RECOVER taken with the
UNTHREADED switch closed and open, and refused by each input. -/
theorem witness_counterReset :
    (∃ (s : State) (since : Nat), HostRuns s ∧ ScheduleIdle s ∧ s.trc.owner = .panel ∧
      s.trc.st ∉ [TransportState.unthreading, .ejecting, .seek] ∧ s.pos.blank = .running since)
    ∧ (∃ s : State, HostRuns s ∧ ScheduleIdle s ∧ s.trc.owner = .panel ∧
      s.trc.st ∉ [TransportState.unthreading, .ejecting, .seek] ∧ s.pos.blank = .stopped)
    ∧ (∃ s : State, HostRuns s ∧ ScheduleIdle s ∧ s.trc.owner = .panel ∧ s.trc.st = .fault ∧ s.srv.row = .allOff ∧
      s.pins.motorOc = 0 ∧ s.pins.thermal = false ∧ s.pins.unthreadedSw = true)
    ∧ (∃ s : State, HostRuns s ∧ ScheduleIdle s ∧ s.trc.owner = .panel ∧ s.trc.st = .fault ∧ s.srv.row = .allOff ∧
      s.pins.motorOc = 0 ∧ s.pins.thermal = false ∧ s.pins.unthreadedSw = false)
    ∧ (∃ s : State, HostRuns s ∧ ScheduleIdle s ∧ s.trc.owner = .panel ∧ s.trc.st = .fault ∧ s.srv.row = .allOff ∧
      s.pins.motorOc ≠ 0)
    ∧ (∃ s : State, HostRuns s ∧ ScheduleIdle s ∧ s.trc.owner = .panel ∧ s.trc.st = .fault ∧ s.srv.row = .allOff ∧
      s.pins.thermal = true) :=
  ⟨⟨(taped .play .play).setPos { Pos.start with blank := .running 5 }, 5, by repeat' first | decide | constructor⟩,
   ⟨taped .stop .still, by repeat' first | decide | constructor⟩,
   ⟨taped .fault .allOff, by repeat' first | decide | constructor⟩,
   ⟨(taped .fault .allOff).setPins { deck.pins with unthreadedSw := false }, by repeat' first | decide | constructor⟩,
   ⟨(taped .fault .allOff).setPins { deck.pins with motorOc := 8 }, by repeat' first | decide | constructor⟩,
   ⟨(taped .fault .allOff).setPins { deck.pins with thermal := true }, by repeat' first | decide | constructor⟩⟩

/-- CassetteInAndOut: an insertion in ON and in STANDBY, and a removal. -/
theorem witness_cassette :
    (∃ s : State, ScheduleIdle s ∧ Drained s ∧ EventRoom 2 s ∧ s.pwr.power = .on ∧ s.pwr.phase = .running ∧
      s.trc.owner = .panel ∧ s.trc.st = .noCassette ∧ s.srv.row = .allOff)
    ∧ (∃ s : State, ScheduleIdle s ∧ Drained s ∧ EventRoom 2 s ∧ s.pwr.power = .standby ∧ s.trc.owner = .panel ∧
      s.trc.st = .noCassette ∧ s.srv.row = .allOff)
    ∧ (∃ s : State, ScheduleIdle s ∧ Drained s ∧ EventRoom 2 s ∧ s.pwr.power = .on ∧ s.pwr.phase = .running ∧
      s.trc.owner = .panel ∧ s.trc.st = .unthreaded ∧ s.srv.row = .allOff) :=
  ⟨⟨deck.setRqu { deck.rqu with count := 29 }, by repeat' first | decide | constructor⟩,
   ⟨asleep false, by repeat' first | decide | constructor⟩,
   ⟨taped .unthreaded .allOff, by repeat' first | decide | constructor⟩⟩

/-- ThreadingAndUnthreadingComplete. -/
theorem witness_threading :
    (∃ (o : Origin) (s : State), ScheduleIdle s ∧ Drained s ∧ EventRoom 1 s ∧ PowerSteady s ∧ s.trc.owner = .panel ∧
      s.trc.st = .threading ∧ s.trc.loadMotor = .forward ∧ s.trc.pending = some ⟨.play, o⟩ ∧ s.pins.mainGood = true ∧
      s.pins.endSense = false ∧ s.srv.row = .allOff)
    ∧ (∃ s : State, ScheduleIdle s ∧ Drained s ∧ EventRoom 1 s ∧ PowerSteady s ∧ s.trc.owner = .panel ∧
      s.trc.st = .unthreading ∧ s.trc.pending = none ∧ s.srv.row = .allOff) :=
  ⟨⟨⟨7, .request⟩, (taped .threading .allOff).setTrc
     { Trc.start with st := .threading, loadMotor := .forward, pending := some ⟨.play, ⟨7, .request⟩⟩ },
     by repeat' first | decide | constructor⟩,
   ⟨taped .unthreading .allOff, by repeat' first | decide | constructor⟩⟩

/-- FaultsAreLatched: each cause. -/
theorem witness_faults :
    (∃ s : State, ScheduleIdle s ∧ Drained s ∧ EventRoom 1 s ∧ PowerSteady s ∧ s.trc.owner = .panel ∧
      s.pins.motorOc = 0 ∧ s.pins.thermal = false ∧ s.trc.st ≠ .fault ∧ s.trc.st = .unthreading ∧
      s.trc.loadTimer.isSome = true)
    ∧ (∃ s : State, ScheduleIdle s ∧ Drained s ∧ EventRoom 1 s ∧ PowerSteady s ∧ s.trc.owner = .panel ∧
      s.pins.motorOc = 0 ∧ s.pins.thermal = false ∧ s.trc.st ≠ .fault ∧ s.trc.st = .ejecting ∧
      s.trc.loadTimer.isSome = true)
    ∧ (∃ s : State, ScheduleIdle s ∧ Drained s ∧ EventRoom 1 s ∧ PowerSteady s ∧ s.trc.owner = .panel ∧
      s.pins.motorOc = 0 ∧ s.pins.thermal = false ∧ s.trc.st ≠ .fault ∧ s.trc.st = .threading ∧
      s.trc.loadTimer.isSome = true ∧ s.trc.attempt = 2)
    ∧ (∃ s : State, ScheduleIdle s ∧ Drained s ∧ EventRoom 1 s ∧ PowerSteady s ∧ s.trc.owner = .panel ∧
      s.pins.motorOc = 0 ∧ s.pins.thermal = false ∧ s.trc.st ≠ .fault ∧ s.trc.drumAllow.isSome = true ∧
      s.trc.capAllow.isSome = true ∧ s.trc.st ≠ .threading) :=
  ⟨⟨(taped .unthreading .allOff).setTrc { Trc.start with st := .unthreading, loadTimer := some 0 },
     by repeat' first | decide | constructor⟩,
   ⟨(taped .ejecting .allOff).setTrc { Trc.start with st := .ejecting, loadTimer := some 0 },
     by repeat' first | decide | constructor⟩,
   ⟨(taped .threading .allOff).setTrc { Trc.start with st := .threading, loadTimer := some 0, attempt := 2 },
     by repeat' first | decide | constructor⟩,
   ⟨(taped .play .play).setTrc { Trc.start with st := .play, drumAllow := some 0, capAllow := some 0 },
     by repeat' first | decide | constructor⟩⟩

/-- TransportTimersEnd. -/
theorem witness_timers :
    (∃ (s : State) (since : Nat), ScheduleIdle s ∧ PowerSteady s ∧ LinesStand s ∧ s.trc.owner = .panel ∧
      s.trc.st = .stop ∧ s.trc.writing = false ∧ s.trc.idle = some since)
    ∧ (∃ (s : State) (since : Nat), ScheduleIdle s ∧ PowerSteady s ∧ Drained s ∧ EventRoom 1 s ∧
      s.trc.owner = .panel ∧ s.trc.st = .recPause ∧ s.trc.pending = none ∧ s.trc.pauseT = some since)
    ∧ (∃ (s : State) (since : Nat), ScheduleIdle s ∧ PowerSteady s ∧ LinesStand s ∧ s.trc.st = .threading ∧
      s.trc.attempt = 1 ∧ s.trc.reverseRun = false ∧ s.trc.loadTimer = some since)
    ∧ (∃ (k : Search) (s : State), ScheduleIdle s ∧ Drained s ∧ EventRoom 2 s ∧ PowerSteady s ∧ s.trc.owner = .panel ∧
      s.trc.st = .seek ∧ s.trc.search = some k ∧ k.kind = .goto ∧ s.trc.pending = none) :=
  ⟨⟨(taped .stop .still).setTrc { Trc.start with st := .stop, idle := some 0 }, 0,
     by repeat' first | decide | constructor⟩,
   ⟨(taped .recPause .rest).setTrc { Trc.start with st := .recPause, pauseT := some 0 }, 0,
     by repeat' first | decide | constructor⟩,
   ⟨(taped .threading .allOff).setTrc { Trc.start with st := .threading, loadTimer := some 0 }, 0,
     by repeat' first | decide | constructor⟩,
   ⟨⟨.goto, 7, .forward, .wind, 5000, 0, 0, 0, 0⟩, (taped .seek (.seekWind .forward)).setTrc
     { Trc.start with st := .seek, search := some ⟨.goto, 7, .forward, .wind, 5000, 0, 0, 0, 0⟩ },
     by repeat' first | decide | constructor⟩⟩

/-- TapeEndStopsTheTape: without and with auto-rewind. -/
theorem witness_tapeEnd :
    (∃ s : State, ScheduleIdle s ∧ Drained s ∧ EventRoom 2 s ∧ PowerSteady s ∧ s.trc.owner = .panel ∧
      s.trc.st ∈ [TransportState.play, .record, .cue, .ff] ∧ s.trc.pending = none ∧
      setAutoRewind s.mpath.settings = false)
    ∧ (∃ s : State, ScheduleIdle s ∧ Drained s ∧ EventRoom 3 s ∧ PowerSteady s ∧ s.trc.owner = .panel ∧
      s.trc.st ∈ [TransportState.play, .record, .cue, .ff] ∧ s.trc.pending = none ∧ s.pins.startSense = false ∧
      setAutoRewind s.mpath.settings = true) :=
  ⟨⟨(taped .ff .ff).setMpath { Mpath.start with settings := [] }, by repeat' first | decide | constructor⟩,
   ⟨(taped .play .play).setMpath { Mpath.start with settings := [(0, 0xFF)] },
     by repeat' first | decide | constructor⟩⟩

/-- FgMeasurementsUpdateDuty: an interval at the cap of 65,535 µs, the gaps, and the first pulse. -/
theorem witness_fg :
    (∃ (s : State) (at_ last : Nat), ScheduleIdle s ∧ PowerSteady s ∧ LinesStand s ∧ s.pins.mainGood = true ∧
      s.srv.row ≠ .allOff ∧ s.srv.drumFg = some last ∧ last ≤ s.now ∧ s.now ≤ at_)
    ∧ (∃ s : State, ScheduleIdle s ∧ PowerSteady s ∧ LinesStand s ∧ s.pins.mainGood = true ∧ s.srv.row ≠ .allOff)
    ∧ (∃ (s : State) (at_ last : Nat), ScheduleIdle s ∧ PowerSteady s ∧ LinesStand s ∧ s.pins.mainGood = true ∧
      s.srv.row = .play ∧ s.srv.run = none ∧ s.srv.capFg = some last ∧ last ≤ s.now ∧ s.now ≤ at_)
    ∧ (∃ s : State, ScheduleIdle s ∧ PowerSteady s ∧ LinesStand s ∧ s.pins.mainGood = true ∧ s.srv.row = .play)
    ∧ (∃ (s : State) (at_ : Nat), ScheduleIdle s ∧ PowerSteady s ∧ LinesStand s ∧ s.pins.mainGood = true ∧
      s.srv.row ≠ .allOff ∧ s.srv.drumFg = none ∧ s.now ≤ at_) :=
  ⟨⟨(driven .play).setSrv { (driven .play).srv with drumFg := some 1000000 }, 1065535, 1000000,
     by repeat' first | decide | constructor⟩,
   ⟨driven .still, by repeat' first | decide | constructor⟩,
   ⟨(driven .play).setSrv { (driven .play).srv with capFg := some 1000000 }, 1000000, 1000000,
     by repeat' first | decide | constructor⟩,
   ⟨driven .play, by repeat' first | decide | constructor⟩,
   ⟨driven .play, 1000000, by repeat' first | decide | constructor⟩⟩

/-- LockTakesEightAndIsLostAtFour: seven and an eighth at the inner window; three and a fourth beyond the outer one.
-/
theorem witness_lock :
    (∃ (target : Nat) (es : List Int) (e : Int), (∀ x ∈ es, x.natAbs ≤ target / 256) ∧ e.natAbs ≤ target / 256 ∧
      es.length = 7)
    ∧ (∃ (target : Nat) (es : List Int) (e : Int), (∀ x ∈ es, target / 256 < x.natAbs) ∧ target / 64 < e.natAbs ∧
      (es.filter fun x => target / 64 < x.natAbs).length = 3) :=
  ⟨⟨25600, [100, -100, 0, 1, -1, 50, 100], -100, by repeat' first | decide | constructor⟩,
   ⟨25600, [401, 101, -401, -400, 401], 401, by repeat' first | decide | constructor⟩⟩

/-- DrumPhaseTermAddsToDuty: an error at the limit, and an unlocked drum; a PG pulse kept from before `since`; and a CTL pulse
nearest to the last PG pulse, to the one before it, to the one still to come, and in catch-up. -/
theorem witness_drumPhase :
    (∃ (s : State) (at_ : Nat) (p : Int), ScheduleIdle s ∧ PowerSteady s ∧ LinesStand s ∧ s.pins.mainGood = true ∧
      s.srv.row ≠ .allOff ∧ s.now ≤ at_ ∧ s.srv.drumLock = .phase ∧ p.natAbs * 2 < Config.framePeriod s.straps.fr30 ∧
      p.natAbs ≤ Config.framePeriod s.straps.fr30 / 32 ∧
      ∃ n : Int, (at_ : Int) = s.srv.reference + n * Config.framePeriod s.straps.fr30 + p)
    ∧ (∃ (s : State) (at_ : Nat), ScheduleIdle s ∧ PowerSteady s ∧ LinesStand s ∧ s.pins.mainGood = true ∧
      s.srv.row ≠ .allOff ∧ s.now ≤ at_ ∧ s.srv.drumLock = .unlocked)
    ∧ (∃ (since p : Nat) (older : List Nat) (t x : Nat), (p :: older).Pairwise (fun a b => b < a) ∧ since < t ∧
      x ∈ p :: older ∧ x ≤ since ∧ ∀ y ∈ p :: older, y ≠ x → ((t : Int) - x).natAbs < ((t : Int) - y).natAbs)
    ∧ (∀ (row : Row) (rise x : Nat) (n d : Int), (row, rise, x, n, d) ∈
        [(.play, 990000, 1000000, 0, -10000), (.play, 975000, 960000, 0, 15000), (.play, 1030000, 1000000, 1, -10000),
         (.catchUp, 990000, 1000000, 0, -10000)] →
      ∃ (s : State) (p : Nat), ScheduleIdle s ∧ PowerSteady s ∧ LinesStand s ∧ s.trc.writing = false ∧
        s.trc.search = none ∧ s.now ≤ rise + 25000 ∧ s.pos.counter.natAbs < 100000 ∧ s.pos.window = [] ∧
        s.pos.lastPulse = none ∧ s.srv.row = row ∧ s.srv.capLock = true ∧ s.srv.pg = some p ∧ x ∈ p :: s.srv.pgBefore ∧
        (∀ y ∈ p :: s.srv.pgBefore, y ≠ x → ((rise : Int) - x).natAbs < ((rise : Int) - y).natAbs) ∧
        (rise : Int) = x + n * Config.framePeriod s.straps.fr30 + d ∧
        d.natAbs * 2 < Config.framePeriod s.straps.fr30) := by
  refine ⟨⟨(driven .play).setSrv { (driven .play).srv with drumLock := .phase, drumDuty := 500 }, 1001250, 1250,
     by repeat' first | exact ⟨25, by decide⟩ | decide | constructor⟩,
   ⟨driven .play, 1000000, by repeat' first | decide | constructor⟩,
   ⟨970000, 1000000, [960000, 920000], 975000, 960000, by decide⟩, ?_⟩
  intro row rise x n d h
  refine ⟨(driven row).setSrv { (driven row).srv with capLock := true, pg := some 1000000, pgBefore := [960000] },
    1000000, ?_⟩
  simp only [List.mem_cons, List.not_mem_nil, or_false, Prod.mk.injEq] at h
  rcases h with ⟨rfl, rfl, rfl, rfl, rfl⟩ | ⟨rfl, rfl, rfl, rfl, rfl⟩ | ⟨rfl, rfl, rfl, rfl, rfl⟩ |
    ⟨rfl, rfl, rfl, rfl, rfl⟩ <;> repeat' first | decide | constructor

/-- R36: a CTL pulse that rises 14,000 µs after a PG pulse is measured from that one, though the next has come, after
39,000 µs, before its falling edge: floor(14,000 × 8 / 4096) = 27 is added. -/
theorem test_trackingFromPulseBefore :
    (({ (driven .play).srv with capLock := true, capDuty := 500, pg := some 1000000, pgBefore := [961000] }
      : Srv).track false 975000 true 0).capDuty = 527 := by decide

/-- FrameReferenceRunsAndWrites: with no frame written, a plain one, the last two of a mark, and the timeout. -/
theorem witness_frameReference :
    (∃ s : State, ScheduleIdle s ∧ PowerSteady s ∧ LinesStand s ∧ s.trc.writing = false)
    ∧ (∃ s : State, ScheduleIdle s ∧ PowerSteady s ∧ LinesStand s ∧ s.trc.writing = true ∧ s.srv.row = .record ∧
      s.srv.source = .internal ∧ s.pos.markWrite = none ∧ s.pos.counter < Config.counterLimit s.straps.fr30 ∧
      -(Config.counterLimit s.straps.fr30) ≤ s.pos.counter)
    ∧ (∃ (s : State) (first : Int) (n : Nat), ScheduleIdle s ∧ PowerSteady s ∧ LinesStand s ∧ s.trc.writing = true ∧
      s.srv.row = .record ∧ s.srv.source = .internal ∧ s.pos.markWrite = some ⟨first, n⟩ ∧ n = 59 ∧
      s.pos.counter < Config.counterLimit s.straps.fr30 ∧ -(Config.counterLimit s.straps.fr30) ≤ s.pos.counter)
    ∧ (∃ (s : State) (first : Int) (n : Nat), ScheduleIdle s ∧ PowerSteady s ∧ LinesStand s ∧ s.trc.writing = true ∧
      s.srv.row = .record ∧ s.srv.source = .internal ∧ s.pos.markWrite = some ⟨first, n⟩ ∧ n = 58 ∧
      s.pos.counter < Config.counterLimit s.straps.fr30 ∧ -(Config.counterLimit s.straps.fr30) ≤ s.pos.counter)
    ∧ (∃ (s : State) (last : Nat), ScheduleIdle s ∧ PowerSteady s ∧ LinesStand s ∧ s.srv.row = .record ∧
      s.srv.source = .external ∧ s.srv.frameStart = some last) :=
  ⟨⟨driven .play, by repeat' first | decide | constructor⟩,
   ⟨((taped .record .record).setTrc { Trc.start with st := .record, writing := true }).setPos
     { Pos.start with counter := -1 },
     by repeat' first | decide | constructor⟩,
   ⟨((taped .record .record).setTrc { Trc.start with st := .record, writing := true }).setPos
     { Pos.start with counter := 60, markWrite := some ⟨1, 59⟩ }, 1, 59, by repeat' first | decide | constructor⟩,
   ⟨((taped .record .record).setTrc { Trc.start with st := .record, writing := true }).setPos
     { Pos.start with counter := 59, markWrite := some ⟨1, 58⟩ }, 1, 58, by repeat' first | decide | constructor⟩,
   ⟨(driven .record).setSrv { (driven .record).srv with source := .external, frameStart := some 0 }, 0,
     by repeat' first | decide | constructor⟩⟩

/-- ReelMarksAndStall. -/
theorem witness_reels :
    (∃ (s : State) (at_ last due : Nat) (older : List Nat), ScheduleIdle s ∧ PowerSteady s ∧ LinesStand s ∧
      s.srv.row = .play ∧ s.now ≤ at_ ∧ s.srv.supply.stall = some due ∧ s.srv.supply.times = last :: older ∧
      older.length < 3 ∧ last ≤ at_ / 1000)
    ∧ (∃ (s : State) (at_ a b c d due : Nat), ScheduleIdle s ∧ PowerSteady s ∧ LinesStand s ∧ s.srv.row = .play ∧
      s.now ≤ at_ ∧ s.srv.supply.stall = some due ∧ s.srv.supply.times = [a, b, c, d] ∧ d < at_ / 1000 ∧
      s.srv.takeup.period = none)
    ∧ (∃ (s : State) (reel : ReelName), ScheduleIdle s ∧ PowerSteady s ∧ LinesStand s ∧ (s.srv.reel reel).stall = none)
    ∧ (∃ (s : State) (due : Nat), ScheduleIdle s ∧ Drained s ∧ EventRoom 2 s ∧ PowerSteady s ∧ s.trc.owner = .panel ∧
      s.trc.st = .play ∧ s.trc.pending = none ∧ setAutoRewind s.mpath.settings = false ∧ s.srv.row = .play ∧
      s.srv.supply.stall = some due) :=
  ⟨⟨(driven .play).setSrv { (driven .play).srv with supply := ⟨1, [1000], none, none, some 5000⟩ }, 1000000, 1000,
     5000, [],
     by repeat' first | decide | constructor⟩,
   ⟨(driven .play).setSrv
     { (driven .play).srv with supply := ⟨4, [990, 980, 970, 960], some 10, none, some 5000⟩ }, 1000000, 990, 980,
     970, 960, 5000,
     by repeat' first | decide | constructor⟩,
   ⟨driven .still, .takeup, by repeat' first | decide | constructor⟩,
   ⟨((taped .play .play).setSrv { (driven .play).srv with supply := ⟨1, [1000], none, none, some 1400⟩ }).setMpath
     { Mpath.start with settings := [] }, 1400,
     by repeat' first | decide | constructor⟩⟩

/-- A tape that plays, its supply reel four marks from a period of 2,000 ms, its take-up period 2,000 ms, and a profile with
the U of those periods, 122, in the shadow where `matching` holds. -/
def reeling (matching : Bool) (p : Pos) : State :=
  let s := taped .play .play
  let s := s.setSrv { s.srv with
    capLock := true, takeup := { s.srv.takeup with period := some 2000 }
    supply := ⟨4, [9500, 9000, 8500, 8000], some 500, none, some 20000⟩ }
  (s.setNow 10000000).setPos { p with
    profiles := if matching then [(0, 1), (2, 122), (4, 122), (6, 10), (9, 8)] else [] }

/-- ReelMarksAndStall, the clauses of the profile: identified; found as the candidate and anew; and not found, once and
twice. -/
theorem witness_profiles :
    ∀ (known candidate : Option Nat) (count : Nat) (matching : Bool),
      (known, candidate, count, matching) ∈
        [(some 1, none, 0, true), (none, some 1, 0, true), (none, none, 1, true), (none, none, 0, false),
         (none, none, 1, false)] →
      ∃ (s : State) (at_ a b c d due tt : Nat), ScheduleIdle s ∧ PowerSteady s ∧ LinesStand s ∧ s.srv.row = .play ∧
        s.trc.st = .play ∧ s.srv.capLock = true ∧ s.now ≤ at_ ∧ s.srv.supply.stall = some due ∧
        s.srv.supply.times = [a, b, c, d] ∧ d < at_ / 1000 ∧ s.srv.takeup.period = some tt ∧ s.pos.profile = known ∧
        s.pos.candidate = candidate ∧ s.pos.noMatchCount = count ∧
        cassetteU s.srv.speed (min 65535 (at_ / 1000 - d)) tt ≤ 65535 ∧
        matchProfile s.pos.profiles (cassetteU s.srv.speed (min 65535 (at_ / 1000 - d)) tt) [1, 2, 3, 4, 5, 6, 7, 8]
          = if matching then some 1 else none := by
  intro known candidate count matching h
  refine ⟨reeling matching { Pos.start with profile := known, candidate := candidate, noMatchCount := count }, 10000000,
    9500, 9000, 8500, 8000, 20000, 2000, ?_⟩
  simp only [List.mem_cons, List.not_mem_nil, or_false, Prod.mk.injEq] at h
  rcases h with ⟨rfl, rfl, rfl, rfl⟩ | ⟨rfl, rfl, rfl, rfl⟩ | ⟨rfl, rfl, rfl, rfl⟩ | ⟨rfl, rfl, rfl, rfl⟩ | ⟨rfl, rfl, rfl, rfl⟩ <;>
    repeat' first | decide | constructor

/-- ReadPulsesCountFrames: in CUE, in REVIEW and at the end of a run-down; the pulse began before `now`. -/
theorem witness_readPulses :
    (∃ (s : State) (rise high : Nat), ScheduleIdle s ∧ PowerSteady s ∧ LinesStand s ∧ s.trc.writing = false ∧
      s.trc.search = none ∧ s.now ≤ rise + high ∧ s.pos.window = [] ∧ s.pos.pendingMark = none ∧
      s.pos.counter.natAbs < 100000 ∧ s.srv.row = .cue)
    ∧ (∃ (s : State) (rise high : Nat), ScheduleIdle s ∧ PowerSteady s ∧ LinesStand s ∧ s.trc.writing = false ∧
      s.trc.search = none ∧ s.now ≤ rise + high ∧ s.pos.window = [] ∧ s.pos.pendingMark = none ∧
      s.pos.counter.natAbs < 100000 ∧ s.srv.row = .review)
    ∧ (∃ (s : State) (d : RunDown), ScheduleIdle s ∧ PowerSteady s ∧ LinesStand s ∧ s.pos.runDown = some d) :=
  ⟨⟨(driven .cue).setPos { Pos.start with counter := 99999 }, 980000, 20000,
     by repeat' first | decide | constructor⟩,
   ⟨(driven .review).setPos { Pos.start with counter := -99999 }, 1000000, 20000,
     by repeat' first | decide | constructor⟩,
   ⟨(driven .still).setPos { Pos.start with runDown := some ⟨.forward, 700000⟩ }, ⟨.forward, 700000⟩,
     by repeat' first | decide | constructor⟩⟩

/-- Its clause of the pulses that count nothing: while writing, with no run-down, and past its end. -/
theorem witness_pulsesIgnored :
    (∃ s : State, ScheduleIdle s ∧ PowerSteady s ∧ LinesStand s ∧ s.trc.writing = true)
    ∧ (∃ s : State, ScheduleIdle s ∧ PowerSteady s ∧ LinesStand s ∧ s.srv.moves = false ∧ s.pos.runDown = none)
    ∧ (∃ (s : State) (rise high : Nat) (d : RunDown), ScheduleIdle s ∧ PowerSteady s ∧ LinesStand s ∧
      s.srv.moves = false ∧ s.pos.runDown = some d ∧ d.since + 300000 < max s.now (rise + high)) :=
  ⟨⟨(taped .record .record).setTrc { Trc.start with st := .record, writing := true },
     by repeat' first | decide | constructor⟩,
   ⟨driven .still, by repeat' first | decide | constructor⟩,
   ⟨(driven .still).setPos { Pos.start with runDown := some ⟨.forward, 700000⟩ }, 980000, 20001, ⟨.forward, 700000⟩,
     by repeat' first | decide | constructor⟩⟩

/-- The deck with a row, `held` pulses in the mark window, newest first, their frames from `first` up and the first `longs` of
them long, a mark pending or none, and the last rising edge at 960,000. -/
def marked (row : Row) (held : Nat) (first : Int) (longs : Nat) (pendingMark : Option PendingMark) : State :=
  (driven row).setPos
    { Pos.start with
      counter := first + 58, lastPulse := some 960000, pendingMark
      window := (List.range held).map fun i => ⟨first + (i : Nat), decide (i < longs)⟩ }

/-- Its clauses of the marks, a pulse high for 20,000 (long) or 19,999 (short): forward, the 60th pulse and the 61st, each with
48 long ones after it and with 47; backward the same with no mark pending; and a pending mark over a window of 60 that meets a
long pulse, a short one, and the eighth short one. -/
theorem witness_marks :
    (∀ held longs : Nat, (held = 59 ∨ held = 60) ∧ (longs = 47 ∨ longs = 48) → ∀ row : Row, row = .cue ∨ row = .review →
      ∃ s : State, ScheduleIdle s ∧ PowerSteady s ∧ LinesStand s ∧ s.trc.writing = false ∧ s.trc.search = none ∧
        s.now = 1000000 ∧ s.pos.counter.natAbs < 100000 ∧ s.pos.runDown = none ∧ s.srv.row = row ∧
        s.pos.pendingMark = none ∧ (s.pos.lastPulse.any fun last => 980000 - last ≤ 2 * 20000) = true ∧
        s.pos.window.length = held ∧ 1 + ((s.pos.window.take 59).filter fun p => p.long).length = longs ∧
        (∀ p ∈ (s.pos.window.take 59).filter fun p => p.long, 1 ≤ p.frame) ∧
        ∃ p ∈ (s.pos.window.take 59).filter fun p => p.long, 1 = p.frame)
    ∧ ∀ shorts : Nat, shorts = 0 ∨ shorts = 7 → ∃ (s : State) (m : Int), ScheduleIdle s ∧ PowerSteady s ∧ LinesStand s ∧
        s.trc.writing = false ∧ s.trc.search = none ∧ s.now = 1000000 ∧ s.pos.counter.natAbs < 100000 ∧
        s.pos.window.length = 60 ∧ s.pos.runDown = none ∧ s.srv.row = .review ∧ s.pos.pendingMark = some ⟨m, shorts⟩ ∧
        (s.pos.lastPulse.any fun last => 980000 - last ≤ 2 * 20000) = true ∧
        (s.pos.lastPulse.any fun last => 1000000 - last ≤ 2 * 19999) = false := by
  refine ⟨fun held longs h row hr => ⟨marked row held 1 (longs - 1) none, ?_⟩,
    fun n h => ⟨marked .review 60 1 48 (some ⟨5, n⟩), 5, ?_⟩⟩
  · rcases h with ⟨rfl | rfl, rfl | rfl⟩ <;> rcases hr with rfl | rfl <;>
      repeat' first | decide | exact ⟨_, .head _, by decide⟩ | constructor
  · rcases h with rfl | rfl <;> repeat' first | decide | constructor

/-- Its clause of the detected speed: the candidate LP against SP, at the count of 6 and of 7. -/
theorem witness_detection :
    ∀ n : Nat, n = 6 ∨ n = 7 → ∃ (s : State) (rise high last : Nat) (k : Speed), ScheduleIdle s ∧ PowerSteady s ∧
      LinesStand s ∧ s.trc.writing = false ∧ s.trc.search = none ∧ s.now ≤ rise + high ∧ s.pos.lastPulse = some last ∧
      s.pos.window = [] ∧ s.srv.row = .play ∧ s.trc.st = .play ∧ s.srv.capLock = true ∧ s.srv.run = none ∧
      k ≠ s.srv.speed ∧ s.srv.candidate = some k ∧ s.srv.detCount = n ∧
      (((rise - last : Nat) : Int) - (Config.framePeriod s.straps.fr30 * s.srv.speed.m / k.m : Nat)).natAbs
        ≤ Config.framePeriod s.straps.fr30 * s.srv.speed.m / k.m / 8 := by
  intro n h
  refine ⟨((taped .play .play).setSrv
    { (taped .play .play).srv with capLock := true, candidate := some .lp, detCount := n }).setPos
    { Pos.start with lastPulse := some 977500 }, 1000000, 10000, 977500, .lp, ?_⟩
  rcases h with rfl | rfl <;> repeat' first | decide | constructor

/-- R142, R20: a continuation whose back-space starts on an active START_SENSE: the tape stops, and the counter at start of
the new run and of its retained record is the pause point, 500. -/
theorem test_continuationAtStartSense :
    let c := freshRun 0 0 3600 false
    let s := ((taped .record .record).setPos { Pos.start with counter := 500 }).setSch { Sch.start with run := some c }
    let t := continueRun c 1 ((s.setPins { s.pins with startSense := true }).setTrc { s.trc with owner := .schedule })
    t.trc.st = .stop ∧ t.clk.retained.counter = 500 ∧ (t.sch.run.map fun r => r.counterAtStart) = some 500 := by decide

/-- BlankTapeExtrapolatesOrSetsUnsure. -/
theorem witness_blankTape :
    (∃ (s : State) (since : Nat), ScheduleIdle s ∧ PowerSteady s ∧ LinesStand s ∧ s.trc.st ≠ .seek ∧
      s.pos.counter.natAbs < 100000 ∧ s.srv.row = .play ∧ s.pos.extrap = .off ∧ s.pos.blank = .running since)
    ∧ (∃ (s : State) (since : Nat), ScheduleIdle s ∧ PowerSteady s ∧ LinesStand s ∧ s.trc.st ≠ .seek ∧
      s.pos.counter.natAbs < 100000 ∧ s.pos.extrap = .running since)
    ∧ (∃ (s : State) (since : Nat), ScheduleIdle s ∧ PowerSteady s ∧ LinesStand s ∧ s.trc.st ≠ .seek ∧
      s.pos.counter.natAbs < 100000 ∧ s.srv.row = .cue ∧ s.pos.blank = .running since) :=
  ⟨⟨(driven .play).setPos { Pos.start with blank := .running 680000 }, 680000,
     by repeat' first | decide | constructor⟩,
   ⟨(driven .play).setPos { Pos.start with extrap := .running 960000 }, 960000,
     by repeat' first | decide | constructor⟩,
   ⟨(driven .cue).setPos { Pos.start with blank := .running 0 }, 0, by repeat' first | decide | constructor⟩⟩

/-- TapeShareFollowsStagesOneToThree: a share below h, and one above it, at the ends of the ranges. -/
theorem witness_tapeShare :
    (∃ ts tt h : Nat, 1 ≤ ts ∧ ts ≤ 65535 ∧ 1 ≤ tt ∧ tt ≤ 65535 ∧ h ≤ 16383 ∧
      min 65535 (ts * ts * 65536 / (ts * ts + tt * tt)) ≤ h)
    ∧ (∃ ts tt h : Nat, 1 ≤ ts ∧ ts ≤ 65535 ∧ 1 ≤ tt ∧ tt ≤ 65535 ∧ h ≤ 16383 ∧
      h < min 65535 (ts * ts * 65536 / (ts * ts + tt * tt))) :=
  ⟨⟨1, 65535, 16383, by repeat' first | decide | constructor⟩,
   ⟨65535, 1, 0, by repeat' first | decide | constructor⟩⟩

/-- DisplayFormReadsTheCounter: the lower limit. -/
theorem witness_display :
    ∃ (fr30 : Bool) (p : Pos) (h m s f : Nat) (b : Byte), p.counter < 0 ∧
      p.counter.natAbs ≤ (Config.counterLimit fr30).natAbs ∧ displayOf (Config.fps fr30) p.counter = (h, m, s, f) ∧
      (liveCounter (Config.fps fr30) p)[3]? = some b :=
  ⟨true, { Pos.start with counter := -1079999 }, 9, 59, 59, 29, 0x89, by repeat' first | decide | constructor⟩

/-- TuneTakesItsSource: the lowest divider, preset 99 at the highest tuned divider, and LINE. -/
theorem witness_tune :
    (∃ s : State, HostRuns s ∧ ScheduleIdle s ∧ s.pins.mainGood = true ∧ s.tun.owner = .panel ∧ s.tun.scan = none ∧
      s.tun.sending = none ∧ s.tun.st ≠ .locked ∧ s.rqu.arg0 = 2 ∧ 1600 ≤ s.rqu.arg12 ∧ s.rqu.arg12 ≤ 18000)
    ∧ (∃ s : State, HostRuns s ∧ ScheduleIdle s ∧ s.pins.mainGood = true ∧ s.tun.owner = .panel ∧ s.tun.scan = none ∧
      s.tun.sending = none ∧ s.tun.st ≠ .locked ∧ s.rqu.arg0 = 1 ∧ 1 ≤ s.rqu.arg12 ∧ s.rqu.arg12 ≤ 99 ∧
      presetOccupied s.tun.presets s.rqu.arg12 = true ∧ 1600 ≤ presetTuned s.tun.presets s.rqu.arg12 ∧
      presetTuned s.tun.presets s.rqu.arg12 ≤ 18000)
    ∧ (∃ s : State, HostRuns s ∧ ScheduleIdle s ∧ s.pins.mainGood = true ∧ s.tun.owner = .panel ∧ s.tun.scan = none ∧
      s.tun.sending = none ∧ s.tun.st ≠ .locked ∧ s.rqu.arg0 = 3) :=
  ⟨⟨asked 2 0x40 0x06 0 0 0 deck, by repeat' first | decide | constructor⟩,
   ⟨asked 1 99 0 0 0 0 (deck.setTun { Tun.start with presets := [(1584, 1), (1585, 0x38), (1586, 0x46), (1587, 0x18)] }),
     by repeat' first | decide | constructor⟩,
   ⟨asked 3 0 0 0 0 0 deck, by repeat' first | decide | constructor⟩⟩

/-- SynthesiserWordsAreSent. -/
theorem witness_synth :
    ∃ (s : State) (w : SynthWord), ScheduleIdle s ∧ PowerSteady s ∧ LinesStand s ∧ s.tun.sending = some w :=
  ⟨deck.setTun { Tun.start with sending := some ⟨18000, .high⟩, waiting := some ⟨1600, .low⟩ }, ⟨18000, .high⟩,
     by repeat' first | decide | constructor⟩

/-- AcquisitionStepsAndLocks: a step up to the highest offset and divider, and the second centred reading. -/
theorem witness_acquisition :
    (∃ s : State, ScheduleIdle s ∧ PowerSteady s ∧ LinesStand s ∧ s.pins.mainGood = true ∧ s.tun.st = .settling ∧
      s.tun.scan = none ∧ s.tun.sending = none ∧ s.tun.waiting = none ∧ s.tun.kind = .direct ∧ -24 ≤ s.tun.offset ∧
      s.tun.offset < 24 ∧ 1600 ≤ s.tun.base + s.tun.offset ∧ s.tun.base + s.tun.offset < 18000 ∧ 0 < s.tun.base)
    ∧ (∃ s : State, ScheduleIdle s ∧ PowerSteady s ∧ Drained s ∧ EventRoom 1 s ∧ s.tun.st = .acquire ∧
      s.tun.scan = none ∧ s.tun.kind = .direct ∧ s.tun.preset = none ∧ s.tun.sending = none ∧ s.tun.waiting = none ∧
      s.tun.centre = 1) :=
  ⟨⟨tuned .settling .direct 17976 23, by repeat' first | decide | constructor⟩,
   ⟨deck.setTun { (tuned .acquire .direct 5000 0).tun with centre := 1 }, by repeat' first | decide | constructor⟩⟩

/-- TrackingAndNoSignalWatch. -/
theorem witness_tracking :
    (∃ s : State, ScheduleIdle s ∧ PowerSteady s ∧ LinesStand s ∧ s.tun.st = .locked)
    ∧ (∃ s : State, ScheduleIdle s ∧ PowerSteady s ∧ LinesStand s ∧ s.tun.st = .locked ∧ s.tun.hold = false ∧
      s.tun.offCentre = 2 ∧ s.tun.scan = none ∧ s.tun.kind = .direct ∧ s.pins.mainGood = true ∧ s.tun.sending = none ∧
      -24 < s.tun.offset ∧ s.tun.offset ≤ 24 ∧ 1600 < s.tun.base + s.tun.offset ∧ s.tun.base + s.tun.offset ≤ 18000 ∧
      0 < s.tun.base)
    ∧ (∃ s : State, ScheduleIdle s ∧ PowerSteady s ∧ Drained s ∧ EventRoom 1 s ∧ s.tun.st = .locked ∧
      s.tun.syncLoss = 1 ∧ s.tun.scan = none ∧ s.tun.kind = .direct ∧ s.tun.owner = .panel)
    ∧ (∃ s : State, ScheduleIdle s ∧ PowerSteady s ∧ LinesStand s ∧ s.tun.st = .noSignal ∧ s.tun.kind = .direct ∧
      s.tun.scan = none) :=
  ⟨⟨tuned .locked .direct 5000 0, by repeat' first | decide | constructor⟩,
   ⟨deck.setTun { (tuned .locked .direct 1624 (-23)).tun with offCentre := 2 },
     by repeat' first | decide | constructor⟩,
   ⟨deck.setTun { (tuned .locked .direct 5000 0).tun with syncLoss := 1 }, by repeat' first | decide | constructor⟩,
   ⟨tuned .noSignal .direct 5000 0, by repeat' first | decide | constructor⟩⟩

/-- FineAndStoreWriteThePreset: preset 99 each. -/
theorem witness_fineStore :
    (∃ (s : State) (n : Nat), HostRuns s ∧ ScheduleIdle s ∧ s.rqu.arg0 = 0x01 ∧ s.tun.owner = .panel ∧
      s.tun.scan = none ∧ s.tun.kind = .preset ∧ s.tun.preset = some n ∧ 1 ≤ n ∧ n ≤ 99 ∧ s.tun.st = .locked ∧
      presetOccupied s.tun.presets n = true ∧ s.pins.mainGood = true ∧ s.tun.sending = none ∧ s.tun.held = [] ∧
      0 < s.tun.base ∧ -24 ≤ s.tun.offset ∧ s.tun.offset < 24 ∧ 1600 ≤ s.tun.base + s.tun.offset ∧
      s.tun.base + s.tun.offset < 18000 ∧ presetOffset s.tun.presets n ≠ s.tun.offset + 1)
    ∧ (∃ (s : State) (n : Nat), HostRuns s ∧ ScheduleIdle s ∧ s.rqu.arg0.toNat = n ∧ 1 ≤ n ∧ n ≤ 99 ∧
      s.tun.owner = .panel ∧ s.tun.scan = none ∧ s.tun.kind = .direct ∧ s.tun.st = .locked) :=
  ⟨⟨asked 1 0 0 0 0 0 (deck.setTun { (tuned .locked .preset 5000 23).tun with preset := some 99, presets := [(1584, 1)] }),
     99,
     by repeat' first | decide | constructor⟩,
   ⟨asked 99 0 0 0 0 0 (tuned .locked .direct 5000 (-24)), 99, by repeat' first | decide | constructor⟩⟩

/-- ScanStartsAndStops. -/
theorem witness_scan :
    (∃ s : State, HostRuns s ∧ ScheduleIdle s ∧ s.rqu.arg0 = 0 ∧ s.rqu.arg12 = 0 ∧ s.tun.owner = .panel ∧
      s.tun.scan = none ∧ s.pins.mainGood = true ∧ s.tun.sending = none ∧ s.tun.st ≠ .locked ∧
      (freePreset s.tun.presets (setScanStart s.mpath.settings)).isSome = true)
    ∧ (∃ (s : State) (k : Scan), HostRuns s ∧ ScheduleIdle s ∧ EventRoom 1 s ∧ s.tun.scan = some k ∧ k.phase = .step ∧
      0 < k.base ∧ s.tun.offset = 0 ∧ s.tun.held = [] ∧ s.pins.mainGood = true ∧ s.tun.sending = none ∧
      s.tun.st = .settling) :=
  ⟨⟨deck, by repeat' first | decide | constructor⟩,
   ⟨deck.setTun { (tuned .settling .scan 5000 0).tun with scan := some ⟨.up, 7, 5000, .step, none⟩ },
     ⟨.up, 7, 5000, .step, none⟩,
     by repeat' first | decide | constructor⟩⟩

/-- ScanStepsAndStoresStations: the last step, and a dwell at each end of its range. -/
theorem witness_scanSteps :
    (∃ (s : State) (k : Scan), ScheduleIdle s ∧ PowerSteady s ∧ LinesStand s ∧ s.tun.scan = some k ∧ k.phase = .step ∧
      k.dir = .up ∧ 1600 ≤ k.base ∧ k.base + 4 ≤ 18000 ∧ s.tun.sending = none ∧ s.tun.waiting = none ∧
      s.tun.st = .settling ∧ s.pins.mainGood = true)
    ∧ (∃ (s : State) (k : Scan) (n : Nat), ScheduleIdle s ∧ PowerSteady s ∧ Drained s ∧ EventRoom 1 s ∧
      s.tun.scan = some k ∧ k.phase = .dwell ∧ k.dir = .up ∧ 1624 ≤ k.base ∧ k.base + 64 ≤ 18000 ∧
      -24 ≤ s.tun.offset ∧ s.tun.offset ≤ 24 ∧ s.tun.sending = none ∧ s.tun.st = .locked ∧ s.pins.mainGood = true ∧
      s.tun.held = [] ∧ freePreset s.tun.presets (setScanStart s.mpath.settings) = some n) :=
  ⟨⟨deck.setTun { (tuned .settling .scan 17996 0).tun with scan := some ⟨.up, 7, 17996, .step, none⟩ },
     ⟨.up, 7, 17996, .step, none⟩,
     by repeat' first | decide | constructor⟩,
   ⟨deck.setTun { (tuned .locked .scan 1624 (-24)).tun with scan := some ⟨.up, 7, 1624, .dwell, none⟩ },
     ⟨.up, 7, 1624, .dwell, none⟩, 1,
     by repeat' first | decide | constructor⟩⟩

/-- FieldsLinesAndFraming. -/
theorem witness_fields :
    (∃ (s : State) (at_ : Nat), ScheduleIdle s ∧ PowerSteady s ∧ LinesStand s ∧ s.pins.fieldFirst = true ∧
      s.lds.st ≠ .off ∧ s.now ≤ at_)
    ∧ (∃ s : State, ScheduleIdle s ∧ PowerSteady s ∧ LinesStand s ∧ s.lds.st = .run)
    ∧ (∃ (s : State) (more : List Bool), ScheduleIdle s ∧ PowerSteady s ∧ LinesStand s ∧ s.lds.asm = .runIn ∧
      s.lds.searched = false ∧ more = []) :=
  ⟨⟨((tuned .locked .direct 5000 0).setLds { Lds.start with st := .waitField }).setPins
     { deck.pins with fieldFirst := true }, 1000000,
     by repeat' first | decide | constructor⟩,
   ⟨(tuned .locked .direct 5000 0).setLds { Lds.start with st := .run, line := 254 },
     by repeat' first | decide | constructor⟩,
   ⟨(tuned .locked .direct 5000 0).setLds { Lds.start with st := .run, asm := .runIn }, [],
     by repeat' first | decide | constructor⟩⟩

/-- PacketsJoinAndLeaveTheFifo: a LABEL of status 3, an even byte, the three takes, and takes that an
emptying left with nothing to find. -/
theorem witness_packets :
    (∃ (s : State) (bytes : List (BitVec 9)) (d : Vector Byte 16), ScheduleIdle s ∧ PowerSteady s ∧ LinesStand s ∧
      s.lds.asm = .framed ∧ s.lds.bytes = [] ∧ bytes.length = 16 ∧ bytes.map data9 = d.toList ∧
      (∀ b ∈ bytes, ones9 b % 2 = 1) ∧ d[15] = checkSum (d.toList.take 15) ∧ d[0] = 0x27 ∧ d[7].toNat ≤ 3 ∧
      (∀ p ∈ s.lds.fifo, p.isLabel = false) ∧ s.lds.fifo.length < 8)
    ∧ (∃ (s : State) (bytes : List (BitVec 9)), ScheduleIdle s ∧ PowerSteady s ∧ LinesStand s ∧ s.lds.asm = .framed ∧
      s.lds.bytes = [] ∧ bytes.length = 16 ∧ ∃ b ∈ bytes, ones9 b % 2 = 0)
    ∧ (∃ (s : State) (y mo d h mi sec code : Byte), ScheduleIdle s ∧ PowerSteady s ∧ LinesStand s ∧
      0 < s.lds.clkTakes ∧ s.lds.clkVoid = 0 ∧ s.lds.fifo = [.time y mo d h mi sec code] ∧ setBroadcast s.mpath.settings = true ∧
      s.clk.sample = none ∧ validDate y.toNat mo.toNat d.toNat = true ∧ h.toNat ≤ 23 ∧ mi.toNat ≤ 59 ∧
      sec.toNat ≤ 59 ∧ -26 ≤ code.toInt ∧ code.toInt ≤ 28)
    ∧ (∃ (s : State) (net status : Nat) (mo d h mi : Byte), ScheduleIdle s ∧ PowerSteady s ∧ LinesStand s ∧
      0 < s.lds.schTakes ∧ s.lds.schVoid = 0 ∧ s.lds.fifo = [.label net mo d h mi status])
    ∧ (∃ (s : State) (net : Nat) (chars : List Byte), ScheduleIdle s ∧ PowerSteady s ∧ LinesStand s ∧
      0 < s.lds.tunTakes ∧ s.lds.tunVoid = 0 ∧ s.lds.fifo = [.name net chars] ∧ s.tun.scan = none)
    ∧ (∃ s : State, ScheduleIdle s ∧ PowerSteady s ∧ LinesStand s ∧ 0 < s.lds.clkTakes ∧ 0 < s.lds.clkVoid ∧
      0 < s.lds.schTakes ∧ 0 < s.lds.schVoid ∧ 0 < s.lds.tunTakes ∧ 0 < s.lds.tunVoid ∧ s.lds.fifo ≠ []) :=
  ⟨⟨(tuned .locked .direct 5000 0).setLds { Lds.start with st := .run, asm := .framed },
     [0x127, 0x100, 0x100, 0x100, 0x100, 0x100, 0x100, 0x103, 0x100, 0x100, 0x100, 0x100, 0x100, 0x100, 0x100, 0x02A],
     ⟨#[0x27, 0, 0, 0, 0, 0, 0, 3, 0, 0, 0, 0, 0, 0, 0, 0x2A], rfl⟩,
     by repeat' first | decide | constructor⟩,
   ⟨(tuned .locked .direct 5000 0).setLds { Lds.start with st := .run, asm := .framed }, List.replicate 16 0,
     by repeat' first | decide | constructor⟩,
   ⟨((tuned .locked .direct 5000 0).setLds
     { Lds.start with st := .run, clkTakes := 1, fifo := [.time 99 12 31 23 59 59 28] }).setMpath
     { Mpath.start with settings := [(0, 0xFF)] }, 99, 12, 31, 23, 59, 59, 28,
     by repeat' first | decide | constructor⟩,
   ⟨(tuned .locked .direct 5000 0).setLds
     { Lds.start with st := .run, schTakes := 1, fifo := [.label 5 1 2 3 4 0] }, 5, 0, 1, 2, 3, 4,
     by repeat' first | decide | constructor⟩,
   ⟨(tuned .locked .direct 5000 0).setLds { Lds.start with st := .run, tunTakes := 1, fifo := [.name 5 [0x41]] }, 5,
     [0x41],
     by repeat' first | decide | constructor⟩,
   ⟨(tuned .locked .direct 5000 0).setLds
     { Lds.start with
       st := .run, fifo := [.name 5 [0x41]], clkTakes := 1, clkVoid := 1, schTakes := 1, schVoid := 1, tunTakes := 2
       tunVoid := 1 },
     by repeat' first | decide | constructor⟩⟩

/-- SecondAdvanceFollowsCalendar: one second before the limit, at the limit, and in BACKUP. -/
theorem witness_secondAdvance :
    (∃ s : State, ScheduleIdle s ∧ PowerSteady s ∧ LinesStand s ∧ s.sch.claim = none ∧ s.clk.time.wf = true ∧
      s.clk.time ≠ limitTime)
    ∧ (∃ s : State, ScheduleIdle s ∧ PowerSteady s ∧ LinesStand s ∧ s.sch.claim = none ∧ s.clk.time.wf = true ∧
      s.clk.time = limitTime)
    ∧ (∃ s : State, ScheduleIdle s ∧ s.pwr.power = .backup ∧ s.sch.claim = none ∧ s.clk.time.wf = true ∧
      s.clk.time ≠ limitTime) :=
  ⟨⟨deck.setClk { deck.clk with time := ⟨99, 12, 31, 23, 59, 58⟩ }, by repeat' first | decide | constructor⟩,
   ⟨deck.setClk { deck.clk with time := limitTime }, by repeat' first | decide | constructor⟩,
   ⟨State.reset, by repeat' first | decide | constructor⟩⟩

/-- SetTimeSetsTheClock: the latest date and time. -/
theorem witness_setTime :
    ∃ s : State, HostRuns s ∧ ScheduleIdle s ∧ EventRoom 1 s ∧ s.clk.running = false ∧
      validDate s.rqu.arg0.toNat s.rqu.arg1.toNat s.rqu.arg2.toNat = true ∧ s.rqu.arg3.toNat ≤ 23 ∧
      s.rqu.arg4.toNat ≤ 59 ∧ s.rqu.arg5.toNat ≤ 59 :=
  ⟨asked 99 12 31 23 59 59 deck, by repeat' first | decide | constructor⟩

/-- ClaimsBeginAndExpire: entry 15, a claimed entry, an index of 16, and a claim at 120 s, 118 s and
119 s. -/
theorem witness_claims :
    (∃ (s : State) (k : Fin 16), HostRuns s ∧ ScheduleIdle s ∧ NoneWaiting s ∧ s.rqu.arg0.toNat = k.val ∧
      s.sch.claim = none ∧ (entry k s).state ∈ [EntryState.empty, .ended])
    ∧ (∃ (s : State) (j k : Fin 16) (n : Nat), HostRuns s ∧ ScheduleIdle s ∧ s.rqu.arg0.toNat = k.val ∧
      s.sch.claim = some (j, n) ∧ j ≠ k)
    ∧ (∃ s : State, HostRuns s ∧ ScheduleIdle s ∧ 16 ≤ s.rqu.arg0.toNat)
    ∧ (∃ (s : State) (k : Fin 16) (n : Nat), ScheduleIdle s ∧ NoneWaiting s ∧ PowerSteady s ∧ Drained s ∧
      EventRoom 1 s ∧ s.sch.claim = some (k, n) ∧ 120 ≤ n)
    ∧ (∃ (s : State) (k : Fin 16) (n : Nat), ScheduleIdle s ∧ NoneWaiting s ∧ PowerSteady s ∧ Drained s ∧ LinesStand s ∧
      EventRoom 1 s ∧ s.sch.claim = some (k, n) ∧ n = 118)
    ∧ (∃ (s : State) (k : Fin 16) (n : Nat), ScheduleIdle s ∧ NoneWaiting s ∧ PowerSteady s ∧ Drained s ∧ LinesStand s ∧
      EventRoom 1 s ∧ s.sch.claim = some (k, n) ∧ n = 119) :=
  ⟨⟨asked 15 0 0 0 0 0 deck, 15, by repeat' first | decide | (unfold NoneWaiting; decide) | constructor⟩,
   ⟨asked 15 0 0 0 0 0 (deck.setSch { deck.sch with claim := some (0, 119) }), 0, 15, 119,
     by repeat' first | decide | constructor⟩,
   ⟨asked 16 0 0 0 0 0 deck, by repeat' first | decide | constructor⟩,
   ⟨deck.setSch { deck.sch with claim := some (15, 120) }, 15, 120,
     by repeat' first | decide | (unfold NoneWaiting; decide) | constructor⟩,
   ⟨deck.setSch { deck.sch with claim := some (15, 118) }, 15, 118,
     by repeat' first | decide | (unfold NoneWaiting; decide) | constructor⟩,
   ⟨deck.setSch { deck.sch with claim := some (15, 119) }, 15, 119,
     by repeat' first | decide | (unfold NoneWaiting; decide) | constructor⟩⟩

/-- DiscardAndDeleteEmptyAnEntry: an index of 16; an unclaimed and a claimed entry; entries of each class of states.
-/
theorem witness_discard :
    (∃ s : State, HostRuns s ∧ NothingUntold s ∧ startReady s = false ∧ 16 ≤ s.rqu.arg0.toNat)
    ∧ (∃ (s : State) (k : Fin 16), HostRuns s ∧ NothingUntold s ∧ startReady s = false ∧ s.rqu.arg0.toNat = k.val ∧
      s.sch.claim = none ∧ (entry k s).state = .empty)
    ∧ (∃ (s : State) (k : Fin 16) (n : Nat), HostRuns s ∧ NothingUntold s ∧ startReady s = false ∧
      s.rqu.arg0.toNat = k.val ∧ s.sch.claim = some (k, n))
    ∧ (∃ (s : State) (k : Fin 16), HostRuns s ∧ NothingUntold s ∧ startReady s = false ∧ s.rqu.arg0.toNat = k.val ∧
      s.sch.claim = none ∧ (entry k s).state ∈ [EntryState.waiting, .ended])
    ∧ (∃ (s : State) (k : Fin 16), HostRuns s ∧ NothingUntold s ∧ startReady s = false ∧ s.rqu.arg0.toNat = k.val ∧
      s.sch.claim = none ∧ (entry k s).state ∈ [EntryState.draft, .preroll, .active, .paused]) :=
  ⟨⟨asked 16 0 0 0 0 0 deck, by repeat' first | decide | constructor⟩,
   ⟨asked 15 0 0 0 0 0 deck, 15, by repeat' first | decide | constructor⟩,
   ⟨asked 15 0 0 0 0 0 (deck.setSch { deck.sch with claim := some (15, 0) }), 15, 0,
     by repeat' first | decide | constructor⟩,
   ⟨asked 15 0 0 0 0 0 (deck.setSch { deck.sch with claim := none, entries := Vector.replicate 16 { Entry.start with state := .waiting } }),
     15,
     by repeat' first | decide | constructor⟩,
   ⟨asked 0 0 0 0 0 0 (deck.setSch { deck.sch with claim := none, entries := Vector.replicate 16 { Entry.start with state := .active } }),
     0,
     by repeat' first | decide | constructor⟩⟩

/-- CommitEntersTheQueue: a once entry of the line input on 1995-01-02 from 10:00 to 11:00, and an empty one. -/
theorem witness_commit :
    (∃ (s : State) (k : Fin 16) (n start : Nat), HostRuns s ∧ ScheduleIdle s ∧ NoneWaiting s ∧
      s.rqu.arg0.toNat = k.val ∧ s.sch.claim = some (k, n) ∧
      commitFails s.sch.prog k s.tun.presets (clockNow s) = none ∧
      nextOccurrence s.sch.prog k none (clockNow s) = some start ∧ clockNow s + setLead s.mpath.settings < start)
    ∧ (∃ (s : State) (k : Fin 16) (n field : Nat), HostRuns s ∧ ScheduleIdle s ∧ NoneWaiting s ∧
      s.rqu.arg0.toNat = k.val ∧ s.sch.claim = some (k, n) ∧
      commitFails s.sch.prog k s.tun.presets (clockNow s) = some field) :=
  ⟨⟨deck.setSch { deck.sch with claim := some (0, 0), prog := [(0, 3), (4, 5), (5, 1), (6, 2), (7, 10), (9, 11), (11, 1)] },
     0, 0, 157888800,
     by repeat' first | decide | (unfold NoneWaiting; decide) | constructor⟩,
   ⟨deck.setSch { deck.sch with claim := some (0, 0) }, 0, 0, 0,
     by repeat' first | decide | (unfold NoneWaiting; decide) | constructor⟩⟩

/-- NextOccurrenceQualifies: a once entry with no last run, and a daily entry with one. -/
theorem witness_nextOccurrence :
    (∃ (m : Memory) (k : Fin 16) (now start : Nat), nextOccurrence m k none now = some start ∧ progMask m k = 0)
    ∧ (∃ (m : Memory) (k : Fin 16) (l now start : Nat), nextOccurrence m k (some l) now = some start ∧
      progMask m k ≠ 0) :=
  ⟨⟨[(0, 3), (4, 5), (5, 1), (6, 2), (7, 10), (9, 11), (11, 1)], 0, 0, 157888800,
     by repeat' first | decide | constructor⟩,
   ⟨[(0, 3), (3, 0x7F), (7, 10), (9, 11), (11, 1)], 0, 5, 0, 554400, by repeat' first | decide | constructor⟩⟩

/-- A run of entry 3 from 00:00 to 01:00 of 1990-01-01. -/
def run3 : Run :=
  { entry := 3, date := 0, start := 0, stop := 3600, label := false, net := 5, speed := some .sp, late := false,
    short := false, unknownTape := false, fallback := false, markWritten := false, startDue := false, ready := false,
    runningSeen := false, watch := false, absence := 0, loss := 0, seen := false, actualStart := none,
    counterAtStart := 0, remaining := 0 }

/-- A state in which a run of entry 3 is under way, the entry in a state. -/
def running (st : EntryState) (c : Run) (s : State) : State :=
  s.setSch { s.sch with run := some c, entries := s.sch.entries.set 3 { Entry.start with state := st } }

/-- Entry 3 is being recorded at an hour of 1990-01-01. -/
def recording (hour : Nat) (c : Run) : State :=
  let s := (taped .record .record).setTrc { Trc.start with st := .record, owner := .schedule }
  let s := s.setMpath { Mpath.start with settings := [] }
  running .active c (s.setClk { deck.clk with time := ⟨0, 1, 1, hour, 0, 0⟩, running := true })

/-- Entry 3 of the line input waits for 1990-01-01 from 00:01 to 01:00, which comes due in the next second. -/
def due (cassette tab : Bool) (flags : Byte) (valid on : Bool) : State :=
  let s := asleep false
  let s := s.setTrc { s.trc with st := .unthreaded, cassette := cassette, tab := tab }
  let s := s.setClk { s.clk with valid := valid }
  let s := s.setMpath { s.mpath with settings := (Memory.write [] 0 flags).write 4 60 }
  let s := s.setPwr (if on then deck.pwr else s.pwr)
  s.setSch { s.sch with
    prog := [(96, 3), (101, 1), (102, 1), (104, 1), (105, 1), (107, 1)], queue := [3]
    entries := s.sch.entries.set 3 { Entry.start with state := .waiting, next := some 60 } }

/-- TimerQueueIsOrdered: a step from a queue that holds the waiting entry. -/
theorem witness_timerQueue : ∃ s t : State, s.sch.queue = queueOf s.sch.entries ∧ s.sch.queue ≠ [] ∧ step s = .next t :=
  ⟨due true true 0xFF true false, _, by decide, by decide, rfl⟩

/-- OccurrenceStarts: the pre-roll from STANDBY and in ON, with the tape's R unknown. -/
theorem witness_prerolls :
    (∃ (s : State) (k : Fin 16) (start : Nat) (m : Speed), ComesDue k start s ∧ setTimerOn s.mpath.settings = true ∧
      s.clk.valid = true ∧ s.trc.cassette = true ∧ s.trc.tab = true ∧ progKind s.sch.prog k = 3 ∧
      progFollow s.sch.prog k = false ∧ speedOf (progSpeed s.sch.prog k) = some m ∧ s.pos.r = none ∧ s.tun.scan = none ∧
      s.tun.st ≠ .locked ∧ s.tun.st ≠ .hold ∧ s.pwr.power = .standby)
    ∧ (∃ (s : State) (k : Fin 16) (start : Nat) (m : Speed), ComesDue k start s ∧ setTimerOn s.mpath.settings = true ∧
      s.clk.valid = true ∧ s.trc.cassette = true ∧ s.trc.tab = true ∧ progKind s.sch.prog k = 3 ∧
      progFollow s.sch.prog k = false ∧ speedOf (progSpeed s.sch.prog k) = some m ∧ s.pos.r = none ∧ s.tun.scan = none ∧
      s.tun.st ≠ .locked ∧ s.tun.st ≠ .hold ∧ s.pwr.power = .on) :=
  ⟨⟨due true true 0xFF true false, 3, 60, .sp, by repeat' first | decide | constructor⟩,
   ⟨due true true 0xFF true true, 3, 60, .sp, by repeat' first | decide | constructor⟩⟩

/-- Its clauses for an occurrence that is missed, and for one that waits. -/
theorem witness_missedOrWaits :
    (∃ (s : State) (k : Fin 16) (start : Nat), ComesDue k start s ∧ setTimerOn s.mpath.settings = true ∧
      s.clk.valid = true ∧ progMask s.sch.prog k = 0 ∧ s.trc.cassette = false)
    ∧ (∃ (s : State) (k : Fin 16) (start : Nat), ComesDue k start s ∧ setTimerOn s.mpath.settings = true ∧
      s.clk.valid = true ∧ progMask s.sch.prog k = 0 ∧ s.trc.cassette = true ∧ s.trc.tab = false)
    ∧ (∃ (s : State) (k : Fin 16) (start : Nat), ComesDue k start s ∧ setTimerOn s.mpath.settings = false)
    ∧ (∃ (s : State) (k : Fin 16) (start : Nat), ComesDue k start s ∧ setTimerOn s.mpath.settings = true ∧
      s.clk.valid = false) :=
  ⟨⟨due false false 0xFF true false, 3, 60, by repeat' first | decide | constructor⟩,
   ⟨due true false 0xFF true false, 3, 60, by repeat' first | decide | constructor⟩,
   ⟨due true true 0 true false, 3, 60, by repeat' first | decide | constructor⟩,
   ⟨due true true 0xFF false false, 3, 60, by repeat' first | decide | constructor⟩⟩

/-- Its clauses of the start. -/
theorem witness_occurrence :
    (∃ (s : State) (c : Run), NothingUntold s ∧ PowerSteady s ∧ LinesStand s ∧ s.sch.run = some c ∧ c.label = false ∧
      c.ready = false ∧ (entry c.entry s).state = .preroll ∧ c.start ≤ clockNow s ∧ clockNow s < c.stop)
    ∧ (∃ (s : State) (c : Run) (m : Speed) (point : Int), NothingUntold s ∧ PowerSteady s ∧ Drained s ∧
      EventRoom 1 s ∧ s.sch.run = some c ∧ c.startDue = true ∧ c.ready = true ∧ c.speed = some m ∧
      (entry c.entry s).state = .preroll ∧ s.trc.owner = .schedule ∧ s.trc.st = .recPause ∧ s.trc.phase = .atRest ∧
      s.trc.pausePoint = some point ∧ s.pins.mainGood = true ∧ s.pins.endSense = false ∧ s.srv.row = .rest) :=
  ⟨⟨running .preroll run3 deck, run3, by repeat' first | decide | constructor⟩,
   ⟨running .preroll { run3 with startDue := true, ready := true } ((taped .recPause .rest).setTrc
     { Trc.start with st := .recPause, owner := .schedule, pausePoint := some (-5) }),
     { run3 with startDue := true, ready := true }, .sp, -5,
     by repeat' first | decide | constructor⟩⟩

/-- RunsEndWithTheirOutcome: an ABORT, the very second of the stop, and 10,800 s after it. -/
theorem witness_runEnds :
    (∃ (s : State) (c : Run), HostRuns s ∧ NothingUntold s ∧ EventRoom 3 s ∧ s.rqu.held = [] ∧ s.sch.run = some c ∧
      (entry c.entry s).state = .active ∧ progMask s.sch.prog c.entry = 0 ∧ s.sch.queue = [] ∧ NoneWaiting s ∧
      s.trc.owner = .schedule ∧ s.trc.st = .record ∧ s.trc.pending = none ∧ s.pins.mainGood = true ∧
      setAutoOff s.mpath.settings = false ∧ s.clk.deferred = none ∧ c.short = false)
    ∧ (∃ (s : State) (c : Run), HostRuns s ∧ NothingUntold s ∧ EventRoom 3 s ∧ s.rqu.held = [] ∧ s.sch.run = some c ∧
      (entry c.entry s).state = .active ∧ progMask s.sch.prog c.entry = 0 ∧ s.sch.queue = [] ∧ NoneWaiting s ∧
      s.trc.owner = .schedule ∧ s.trc.st = .record ∧ s.trc.pending = none ∧ s.pins.mainGood = true ∧
      setAutoOff s.mpath.settings = false ∧ s.clk.deferred = none ∧ c.short = false ∧ c.label = false ∧
      c.stop ≤ clockNow s)
    ∧ (∃ (s : State) (c : Run), HostRuns s ∧ NothingUntold s ∧ EventRoom 3 s ∧ s.rqu.held = [] ∧ s.sch.run = some c ∧
      (entry c.entry s).state = .active ∧ progMask s.sch.prog c.entry = 0 ∧ s.sch.queue = [] ∧ NoneWaiting s ∧
      s.trc.owner = .schedule ∧ s.trc.st = .record ∧ s.trc.pending = none ∧ s.pins.mainGood = true ∧
      setAutoOff s.mpath.settings = false ∧ s.clk.deferred = none ∧ c.short = false ∧ c.label = true ∧
      c.stop + 10800 ≤ clockNow s) :=
  ⟨⟨recording 0 run3, run3, by repeat' first | decide | (unfold NoneWaiting; decide) | constructor⟩,
   ⟨recording 1 run3, run3, by repeat' first | decide | (unfold NoneWaiting; decide) | constructor⟩,
   ⟨recording 4 { run3 with label := true }, { run3 with label := true },
     by repeat' first | decide | (unfold NoneWaiting; decide) | constructor⟩⟩

/-- LabelTimeoutsFallBack: at 90 s of absence, at 60 s of loss, and in the seconds that make them. -/
theorem witness_label :
    (∃ (s : State) (c : Run), NothingUntold s ∧ PowerSteady s ∧ Drained s ∧ LinesStand s ∧ s.sch.run = some c ∧
      c.label = true ∧ c.watch = true ∧ c.ready = false ∧ clockNow s < c.stop ∧ (entry c.entry s).fallback = false ∧
      (entry c.entry s).state = .preroll ∧ c.seen = false ∧ 90 ≤ c.absence)
    ∧ (∃ (s : State) (c : Run), NothingUntold s ∧ PowerSteady s ∧ Drained s ∧ LinesStand s ∧ s.sch.run = some c ∧
      c.label = true ∧ c.watch = true ∧ c.ready = false ∧ clockNow s < c.stop ∧ (entry c.entry s).fallback = false ∧
      (entry c.entry s).state = .active ∧ c.seen = true ∧ 60 ≤ c.loss)
    ∧ (∃ (s : State) (c : Run), NothingUntold s ∧ PowerSteady s ∧ Drained s ∧ LinesStand s ∧ s.sch.run = some c ∧
      c.label = true ∧ c.watch = true ∧ c.ready = false ∧ clockNow s < c.stop ∧ (entry c.entry s).fallback = false ∧
      s.sch.queue = [] ∧ s.sch.claim = none ∧ clockNow s + 1 < c.stop ∧ s.clk.time.wf = true ∧ s.clk.time ≠ limitTime ∧
      NoneWaiting s ∧ (entry c.entry s).state = .preroll ∧ c.seen = false ∧ c.absence = 89)
    ∧ (∃ (s : State) (c : Run), NothingUntold s ∧ PowerSteady s ∧ Drained s ∧ LinesStand s ∧ s.sch.run = some c ∧
      c.label = true ∧ c.watch = true ∧ c.ready = false ∧ clockNow s < c.stop ∧ (entry c.entry s).fallback = false ∧
      s.sch.queue = [] ∧ s.sch.claim = none ∧ clockNow s + 1 < c.stop ∧ s.clk.time.wf = true ∧ s.clk.time ≠ limitTime ∧
      NoneWaiting s ∧ (entry c.entry s).state = .active ∧ c.seen = true ∧ c.loss = 59) :=
  ⟨⟨running .preroll { run3 with label := true, watch := true, absence := 90 } deck,
     { run3 with label := true, watch := true, absence := 90 },
     by repeat' first | decide | constructor⟩,
   ⟨running .active { run3 with label := true, watch := true, seen := true, loss := 60 } deck,
     { run3 with label := true, watch := true, seen := true, loss := 60 },
     by repeat' first | decide | constructor⟩,
   ⟨running .preroll { run3 with label := true, watch := true, absence := 89 } deck,
     { run3 with label := true, watch := true, absence := 89 },
     by repeat' first | decide | (unfold NoneWaiting; decide) | constructor⟩,
   ⟨running .active { run3 with label := true, watch := true, seen := true, loss := 59 } deck,
     { run3 with label := true, watch := true, seen := true, loss := 59 },
     by repeat' first | decide | (unfold NoneWaiting; decide) | constructor⟩⟩

/-- HostWritesByOwnerClass: the first address above the RAM; below and above the window, its last free bytes, 0x01F,
0x40F and 0xBFF; the last request cell; the highest live offset. -/
theorem witness_hostWrites :
    (∃ (s : State) (addr : BitVec 16), HostRuns s ∧ ScheduleIdle s ∧ LinesStand s ∧ 0x8000 ≤ addr.toNat)
    ∧ (∃ (s : State) (addr : BitVec 16), HostRuns s ∧ ScheduleIdle s ∧ LinesStand s ∧ addr.toNat < 0x8000 ∧
      addr.toNat < windowBase s)
    ∧ (∃ (s : State) (addr : BitVec 16), HostRuns s ∧ ScheduleIdle s ∧ LinesStand s ∧ addr.toNat < 0x8000 ∧
      windowBase s + 0xE00 ≤ addr.toNat)
    ∧ (∃ (s : State) (addr : BitVec 16), HostRuns s ∧ ScheduleIdle s ∧ LinesStand s ∧ addr.toNat < 0x8000 ∧
      windowBase s + 0x01C ≤ addr.toNat ∧ addr.toNat < windowBase s + 0x020)
    ∧ (∃ (s : State) (addr : BitVec 16), HostRuns s ∧ ScheduleIdle s ∧ LinesStand s ∧ addr.toNat < 0x8000 ∧
      windowBase s + 0x400 ≤ addr.toNat ∧ addr.toNat < windowBase s + 0x410)
    ∧ (∃ (s : State) (addr : BitVec 16), HostRuns s ∧ ScheduleIdle s ∧ LinesStand s ∧ addr.toNat < 0x8000 ∧
      windowBase s + 0xA40 ≤ addr.toNat ∧ addr.toNat < windowBase s + 0xC00)
    ∧ (∃ (s : State) (n : Fin 7) (addr : BitVec 16), HostRuns s ∧ ScheduleIdle s ∧ LinesStand s ∧
      addr.toNat = windowBase s + 0x010 + n.val)
    ∧ (∃ (s : State) (off : Nat), HostRuns s ∧ ScheduleIdle s ∧ LinesStand s ∧ ownerBlocked off = true ∧
      s.rqu.count = 0 ∧ s.rqu.overflow = none) :=
  ⟨⟨deck, 0x8000, by repeat' first | decide | constructor⟩,
   ⟨{ deck with straps := ⟨7, false⟩ }, 0x6FFF, by repeat' first | decide | constructor⟩,
   ⟨deck, 0xE00, by repeat' first | decide | constructor⟩,
   ⟨deck, 0x01F, by repeat' first | decide | constructor⟩,
   ⟨deck, 0x40F, by repeat' first | decide | constructor⟩,
   ⟨deck, 0xBFF, by repeat' first | decide | constructor⟩,
   ⟨deck, 6, 0x016, by repeat' first | decide | constructor⟩,
   ⟨deck, 0x05F, by repeat' first | decide | constructor⟩⟩

/-- ShadowsFollowHostWrites: each table's last byte. -/
theorem witness_shadows :
    (∃ (s : State) (off : Nat), HostRuns s ∧ ScheduleIdle s ∧ off < 32 ∧ s.pwr.held = [] ∧ 6 ≤ off ∧ off ≤ 9)
    ∧ (∃ (s : State) (off : Nat), HostRuns s ∧ ScheduleIdle s ∧ off < 128 ∧ s.pos.profile = none)
    ∧ (∃ (s : State) (off : Nat) (data : Byte), HostRuns s ∧ ScheduleIdle s ∧ off < 1584 ∧ s.tun.held = [] ∧
      off % 16 = 3 ∧ -24 ≤ data.toInt ∧ data.toInt ≤ 24)
    ∧ (∃ (s : State) (off : Nat) (data : Byte), HostRuns s ∧ ScheduleIdle s ∧ off < 1584 ∧ off % 16 = 3 ∧
      data.toInt < -24 ∧ s.rqu.count = 0 ∧ s.rqu.overflow = none)
    ∧ (∃ (s : State) (off : Nat) (data : Byte), HostRuns s ∧ ScheduleIdle s ∧ off < 1584 ∧ off % 16 = 3 ∧
      24 < data.toInt ∧ s.rqu.count = 0 ∧ s.rqu.overflow = none)
    ∧ (∃ (s : State) (k : Fin 16) (n i : Nat), HostRuns s ∧ ScheduleIdle s ∧ s.sch.claim = some (k, n) ∧ i ≤ 16)
    ∧ (∃ (s : State) (off : Nat), HostRuns s ∧ ScheduleIdle s ∧ off < 512 ∧ s.sch.claim = none ∧ s.rqu.count = 0 ∧
      s.rqu.overflow = none) :=
  ⟨⟨deck, 9, by repeat' first | decide | constructor⟩,
   ⟨deck, 127, by repeat' first | decide | constructor⟩,
   ⟨deck, 1571, 0xE8, by repeat' first | decide | constructor⟩,
   ⟨deck, 1571, 0xE7, by repeat' first | decide | constructor⟩,
   ⟨deck, 3, 25, by repeat' first | decide | constructor⟩,
   ⟨deck.setSch { deck.sch with claim := some (15, 119) }, 15, 119, 16, by repeat' first | decide | constructor⟩,
   ⟨deck, 511, by repeat' first | decide | constructor⟩⟩

/-- LiveReadsGoThroughTheLatch: a group's first and last byte, and the addresses beside the live block. -/
theorem witness_liveReads :
    (∃ (s : State) (g : LiveGroup) (addr : BitVec 16), HostRuns s ∧ ScheduleIdle s ∧ LinesStand s ∧
      addr.toNat = windowBase s + g.range.1)
    ∧ (∃ (s : State) (g : LiveGroup) (copy : List Byte) (i : Nat) (v : Byte) (addr : BitVec 16), HostRuns s ∧
      ScheduleIdle s ∧ LinesStand s ∧ s.mpath.latch = some (g, copy) ∧ 0 < i ∧ g.range.1 + i ≤ g.range.2 ∧
      copy[i]? = some v ∧ addr.toNat = windowBase s + g.range.1 + i ∧ g.range.1 + i = g.range.2)
    ∧ (∃ (s : State) (addr : BitVec 16), HostRuns s ∧ ScheduleIdle s ∧ LinesStand s ∧ addr.toNat < 0x8000 ∧
      addr.toNat < windowBase s + 0x020)
    ∧ (∃ (s : State) (addr : BitVec 16), HostRuns s ∧ ScheduleIdle s ∧ LinesStand s ∧ addr.toNat < 0x8000 ∧
      windowBase s + 0x060 ≤ addr.toNat) :=
  ⟨⟨deck, .clock, 0x020, by repeat' first | decide | constructor⟩,
   ⟨deck.setMpath { deck.mpath with latch := some (.remain, [1, 2, 3]) }, .remain, [1, 2, 3], 2, 3, 0x037,
     by repeat' first | decide | constructor⟩,
   ⟨deck, 0x01F, by repeat' first | decide | constructor⟩,
   ⟨deck, 0x060, by repeat' first | decide | constructor⟩⟩

/-- AcknowledgementsAndUnknownCodes: the code 0x0F; the head of a full queue, an empty queue, and another number. -/
theorem witness_acknowledgements :
    (∃ (s : State) (code : Byte), HostRuns s ∧ ScheduleIdle s ∧ knownCommand code = false)
    ∧ (∃ (s : State) (seq : Byte), HostRuns s ∧ ScheduleIdle s ∧ 1 ≤ s.rqu.count ∧ seq.toNat = s.rqu.headSeq)
    ∧ (∃ (s : State) (_seq : Byte), HostRuns s ∧ ScheduleIdle s ∧ s.rqu.count = 0)
    ∧ (∃ (s : State) (seq : Byte), HostRuns s ∧ ScheduleIdle s ∧ seq.toNat ≠ s.rqu.headSeq) :=
  ⟨⟨deck, 0x0F, by repeat' first | decide | constructor⟩,
   ⟨deck.setRqu { deck.rqu with count := 32, headSeq := 255, head := 31, overflow := some 31, refused := 255 }, 0xFF,
     by repeat' first | decide | constructor⟩,
   ⟨deck, 0, by repeat' first | decide | constructor⟩,
   ⟨deck.setRqu { deck.rqu with count := 1 }, 1, by repeat' first | decide | constructor⟩⟩

/-- The deck with two groups waiting and a block at the head of the grant list. -/
def granting (b : Block) : State :=
  deck.setMpath { deck.mpath with queue := List.replicate 2 (mkGroup 0x100 [1]), grants := [b] }

/-- PostedWritesDrainAndSlotsAreGranted: a group's last byte, a slot for the fourth group, and one for each other block. -/
theorem witness_drains :
    (∃ (s : State) (g : WriteGroup) (rest : List WriteGroup) (i : Nat) (v : Byte), ScheduleIdle s ∧ PowerSteady s ∧
      s.mem.wf = true ∧ s.mpath.queue = g :: rest ∧ s.mpath.grants = [] ∧ firstPending g.bytes = some (i, v) ∧
      g.start ≠ 0)
    ∧ (∃ (s : State) (g : WriteGroup) (held : List WriteGroup), ScheduleIdle s ∧ PowerSteady s ∧
      s.mpath.queue.length < 4 ∧ s.mpath.grants = [.rqu] ∧ s.rqu.held = g :: held)
    ∧ (∃ (s : State) (k : Fin 16) (bytes : List Byte) (held : List SchHeld), ScheduleIdle s ∧ PowerSteady s ∧
      LinesStand s ∧ s.mpath.queue.length < 4 ∧ s.mpath.grants = [.sch] ∧ s.sch.held = .status k bytes :: held)
    ∧ (∃ (s : State) (n : Nat) (v : Byte) (held : List TunHeld), ScheduleIdle s ∧ PowerSteady s ∧ LinesStand s ∧
      s.mpath.queue.length < 4 ∧ s.mpath.grants = [.tun] ∧ s.tun.held = .offset n v :: held)
    ∧ (∃ (s : State) (n : Nat) (bytes : List Byte) (held : List TunHeld), ScheduleIdle s ∧ PowerSteady s ∧ LinesStand s ∧
      s.mpath.queue.length < 4 ∧ s.mpath.grants = [.tun] ∧ s.tun.held = .record n bytes :: held)
    ∧ (∃ (s : State) (g : WriteGroup) (held : List PwrHeld), ScheduleIdle s ∧ PowerSteady s ∧ LinesStand s ∧
      s.mpath.queue.length < 4 ∧ s.mpath.grants = [.pwr] ∧ s.pwr.held = .init g :: held)
    ∧ (∃ (s : State) (flags : Byte) (held : List PwrHeld), ScheduleIdle s ∧ PowerSteady s ∧ LinesStand s ∧
      s.mpath.queue.length < 4 ∧ s.mpath.grants = [.pwr] ∧ s.pwr.held = .toggle flags :: held) :=
  ⟨⟨deck.setMpath { deck.mpath with queue := [⟨0x100, [⟨1, false⟩, ⟨2, true⟩]⟩] }, ⟨0x100, [⟨1, false⟩, ⟨2, true⟩]⟩,
     [], 1, 2,
     by repeat' first | decide | constructor⟩,
   ⟨(deck.setMpath { deck.mpath with queue := List.replicate 3 (mkGroup 0x100 [1]), grants := [.rqu] }).setRqu
     { deck.rqu with held := [mkGroup 0x018 [1]] }, mkGroup 0x018 [1], [],
     by repeat' first | decide | constructor⟩,
   ⟨(granting .sch).setSch { deck.sch with held := [.status 15 [2]] }, 15, [2], [],
     by repeat' first | decide | constructor⟩,
   ⟨(granting .tun).setTun { deck.tun with held := [.offset 99 0xE8] }, 99, 0xE8, [],
     by repeat' first | decide | constructor⟩,
   ⟨(granting .tun).setTun { deck.tun with held := [.record 1 [1, 2]] }, 1, [1, 2], [],
     by repeat' first | decide | constructor⟩,
   ⟨(granting .pwr).setPwr { deck.pwr with held := [.init (mkGroup 0 [0x4A])] }, mkGroup 0 [0x4A], [],
     by repeat' first | decide | constructor⟩,
   ⟨(granting .pwr).setPwr { deck.pwr with held := [.toggle 4, .toggle 0] }, 4, [.toggle 0],
     by repeat' first | decide | constructor⟩⟩

end Sys2Proof.Tests
end

section
/-! SUPPORT. What leaves TRC alone: every operation of the other blocks keeps `State.trc`. One lemma per operation, in the
order of the model's definitions. -/

namespace Sys2Proof.Machine

/-! ### Time, memory, groups and events -/

@[simp] theorem reachTime_trc (t : Nat) (s : State) : (reachTime t s).trc = s.trc := rfl
@[simp] theorem reachLimit_trc (since limit : Nat) (s : State) : (reachLimit since limit s).trc = s.trc := rfl
@[simp] theorem writeRegion_trc (off : Nat) (v : Byte) (s : State) : (writeRegion off v s).trc = s.trc := rfl
@[simp] theorem enqueue_trc (g : WriteGroup) (s : State) : (enqueue g s).trc = s.trc := rfl
@[simp] theorem askSlot_trc (b : Block) (s : State) : (askSlot b s).trc = s.trc := rfl
@[simp] theorem dropAsk_trc (b : Block) (s : State) : (dropAsk b s).trc = s.trc := rfl
@[simp] theorem notify_trc (n : Notice) (s : State) : (notify n s).trc = s.trc := rfl
@[simp] theorem setLines_trc (ran : Bool) (s : State) : (setLines ran s).trc = s.trc := rfl

@[simp] theorem groupLeft_trc (g : WriteGroup) (s : State) : (groupLeft g s).trc = s.trc := by
  unfold groupLeft; split <;> rfl

@[simp] theorem groupsLeft_trc (gs : List WriteGroup) (s : State) : (groupsLeft gs s).trc = s.trc := by
  induction gs generalizing s with
  | nil => rfl
  | cons g rest ih => simp [groupsLeft, ih]

@[simp] theorem clearPending_trc (off : Nat) (s : State) : (clearPending off s).trc = s.trc := by simp [clearPending]

@[simp] theorem drainByte_trc (s : State) : (drainByte s).trc = s.trc := by
  unfold drainByte
  split
  · rfl
  · split
    · simp
    · dsimp only; split <;> simp

@[simp] theorem post_trc (e : Event) (s : State) : (post e s).trc = s.trc := post_frame e s .trc (by decide)

@[simp] theorem offerRqu_trc (g : WriteGroup) (s : State) : (offerRqu g s).trc = s.trc := by
  unfold offerRqu; split <;> simp

@[simp] theorem acknowledge_trc (seq : Byte) (s : State) : (acknowledge seq s).trc = s.trc := by
  unfold acknowledge; dsimp only; split <;> simp

@[simp] theorem makeResult_trc (a : Answer) (tag : Byte) (s : State) : (makeResult a tag s).trc = s.trc := by
  unfold makeResult; dsimp only; split
  · simp
  · split <;> simp

/-! ### The clock -/

@[simp] theorem applyStep_trc (subject source : Byte) (new : DateTime) (limit : Bool) (s : State) :
    (applyStep subject source new limit s).trc = s.trc := by simp [applyStep]

@[simp] theorem broadcastStep_trc (subject : Byte) (d : Int) (s : State) : (broadcastStep subject d s).trc = s.trc := by
  unfold broadcastStep; dsimp only; split <;> simp

@[simp] theorem requestSetTime_trc (s : State) : (requestSetTime s).1.trc = s.trc := by
  unfold requestSetTime
  split
  · rfl
  · split <;> simp

@[simp] theorem deferStep_trc (d : Int) (s : State) : (deferStep d s).trc = s.trc := by
  unfold deferStep; split <;> simp

@[simp] theorem confirm_trc (d code : Int) (s : State) : (confirm d code s).trc = s.trc := by
  unfold confirm; dsimp only; split_ifs <;> simp

@[simp] theorem meetSample_trc (d code : Int) (s : State) : (meetSample d code s).trc = s.trc := by
  unfold meetSample
  split
  · rfl
  · split <;> simp

@[simp] theorem timePacket_trc (year month day hour minute second code : Byte) (s : State) :
    (timePacket year month day hour minute second code s).trc = s.trc := by
  unfold timePacket; dsimp only; split_ifs <;> simp

@[simp] theorem reportRunning_trc (s : State) : (reportRunning s).trc = s.trc := rfl
@[simp] theorem retain_trc (r : Retained) (s : State) : (retain r s).trc = s.trc := rfl
@[simp] theorem clearRetained_trc (s : State) : (clearRetained s).trc = s.trc := rfl

@[simp] theorem reportNotRunning_trc (s : State) : (reportNotRunning s).trc = s.trc := by
  unfold reportNotRunning
  split
  · dsimp only; split <;> simp
  · rfl

@[simp] theorem postInvalid_trc (s : State) : (postInvalid s).trc = s.trc := by unfold postInvalid; split <;> simp

/-! ### The tuner -/

@[simp] theorem sendWord_trc (s : State) : (sendWord s).trc = s.trc := by
  unfold sendWord
  split
  · rfl
  · dsimp only; split <;> rfl

@[simp] theorem tunEnter_trc (st : TunerState) (s : State) : (tunEnter st s).trc = s.trc := by
  unfold tunEnter; dsimp only; split_ifs <;> rfl

@[simp] theorem settleOrHold_trc (s : State) : (settleOrHold s).trc = s.trc := by unfold settleOrHold; split <;> simp

@[simp] theorem tuneDirect_trc (n : Nat) (tag : Byte) (s : State) : (tuneDirect n tag s).trc = s.trc := by
  simp [tuneDirect]

@[simp] theorem tunePreset_trc (n : Nat) (tag : Byte) (s : State) : (tunePreset n tag s).trc = s.trc := by
  simp [tunePreset]

@[simp] theorem tuneLine_trc (s : State) : (tuneLine s).trc = s.trc := by simp [tuneLine]

@[simp] theorem dropStation_trc (s : State) : (dropStation s).trc = s.trc := by unfold dropStation; split <;> simp

@[simp] theorem closeScan_trc (code : Byte) (s : State) : (closeScan code s).trc = s.trc := by
  unfold closeScan; split <;> simp

@[simp] theorem endScan_trc (code : Byte) (s : State) : (endScan code s).trc = s.trc := by simp [endScan]

@[simp] theorem railScan_trc (s : State) : (railScan s).trc = s.trc := by simp [railScan]

@[simp] theorem scanTo_trc (n : Int) (s : State) : (scanTo n s).trc = s.trc := by
  unfold scanTo
  split
  · rfl
  · split <;> simp

@[simp] theorem scanNext_trc (s : State) : (scanNext s).trc = s.trc := by unfold scanNext; split <;> simp

@[simp] theorem scanResume_trc (l : Int) (s : State) : (scanResume l s).trc = s.trc := by
  unfold scanResume; split <;> simp

@[simp] theorem handTun_trc (h : TunHeld) (s : State) : (handTun h s).trc = s.trc := by
  unfold handTun
  split
  · rfl
  · rfl
  · split <;> simp

@[simp] theorem offerTun_trc (h : TunHeld) (s : State) : (offerTun h s).trc = s.trc := by
  unfold offerTun; split <;> simp

@[simp] theorem offerOffset_trc (n : Nat) (v : Byte) (s : State) : (offerOffset n v s).trc = s.trc := by
  unfold offerOffset; split <;> simp

@[simp] theorem writeOffset_trc (s : State) : (writeOffset s).trc = s.trc := by
  unfold writeOffset
  split
  · split <;> simp
  · rfl

@[simp] theorem dropHeldOffset_trc (n : Nat) (s : State) : (dropHeldOffset n s).trc = s.trc := by
  unfold dropHeldOffset; split <;> simp

@[simp] theorem makeStation_trc (net : Nat) (name : List Byte) (s : State) : (makeStation net name s).trc = s.trc := by
  unfold makeStation; split <;> simp

@[simp] theorem acquireFail_trc (sync : Bool) (s : State) : (acquireFail sync s).trc = s.trc := by
  unfold acquireFail
  split
  · simp
  · dsimp only; split <;> simp

@[simp] theorem acquireLock_trc (s : State) : (acquireLock s).trc = s.trc := by
  unfold acquireLock
  split
  · dsimp only; split <;> simp
  · simp

@[simp] theorem lastSample_trc (r : Reading) (s : State) : (lastSample r s).trc = s.trc := by
  unfold lastSample; split <;> simp

@[simp] theorem afcSample_trc (r : Reading) (s : State) : (afcSample r s).trc = s.trc := by
  unfold afcSample
  dsimp only
  split
  · split <;> simp
  · split_ifs <;> simp

@[simp] theorem startAcquire_trc (r : Reading) (s : State) : (startAcquire r s).trc = s.trc := by simp [startAcquire]

@[simp] theorem signalLost_trc (r : Reading) (s : State) : (signalLost r s).trc = s.trc := by
  unfold signalLost
  split
  · dsimp only; split <;> simp
  · simp

@[simp] theorem trackStep_trc (r : Reading) (s : State) : (trackStep r s).trc = s.trc := by
  unfold trackStep
  split
  · rfl
  · split <;> simp

@[simp] theorem trackSample_trc (r : Reading) (s : State) : (trackSample r s).trc = s.trc := by
  unfold trackSample; dsimp only; split_ifs <;> simp

@[simp] theorem takeTune_trc (k : TuneKind) (value : Nat) (tag : Byte) (s : State) :
    (takeTune k value tag s).trc = s.trc := by cases k <;> simp [takeTune]

@[simp] theorem requestTune_trc (s : State) : (requestTune s).1.trc = s.trc := by
  unfold requestTune
  split
  · rfl
  · split <;> simp

@[simp] theorem takeScan_trc (dir : ScanDir) (base : Nat) (s : State) : (takeScan dir base s).trc = s.trc := by
  unfold takeScan; dsimp only; split <;> simp

@[simp] theorem requestScan_trc (s : State) : (requestScan s).1.trc = s.trc := by
  unfold requestScan
  dsimp only
  split
  · rfl
  · split_ifs <;> simp

@[simp] theorem requestScanStop_trc (s : State) : (requestScanStop s).1.trc = s.trc := by
  unfold requestScanStop; split <;> simp

@[simp] theorem requestStore_trc (s : State) : (requestStore s).1.trc = s.trc := by
  unfold requestStore; dsimp only; split_ifs <;> simp

@[simp] theorem takeFine_trc (d : Int) (s : State) : (takeFine d s).trc = s.trc := by
  unfold takeFine; dsimp only; split <;> simp

@[simp] theorem requestFine_trc (s : State) : (requestFine s).1.trc = s.trc := by
  unfold requestFine
  dsimp only
  split
  · rfl
  · split_ifs <;> simp

@[simp] theorem takeTuner_trc (s : State) : (takeTuner s).trc = s.trc := by simp [takeTuner]
@[simp] theorem returnTuner_trc (s : State) : (returnTuner s).trc = s.trc := rfl

@[simp] theorem tunerRailLost_trc (s : State) : (tunerRailLost s).trc = s.trc := by
  unfold tunerRailLost
  dsimp only
  split
  · simp
  · split <;> simp

@[simp] theorem tunerRailGood_trc (s : State) : (tunerRailGood s).trc = s.trc := by
  unfold tunerRailGood; split <;> simp

@[simp] theorem wordEnd_trc (s : State) : (wordEnd s).trc = s.trc := by unfold wordEnd; split <;> rfl
@[simp] theorem sawReading_trc (r : Reading) (s : State) : (sawReading r s).trc = s.trc := rfl

@[simp] theorem settleEnd_trc (r : Reading) (s : State) : (settleEnd r s).trc = s.trc := by
  unfold settleEnd; split <;> simp

@[simp] theorem afcEvent_trc (r : Reading) (s : State) : (afcEvent r s).trc = s.trc := by
  unfold afcEvent; split <;> simp

@[simp] theorem trackEvent_trc (r : Reading) (s : State) : (trackEvent r s).trc = s.trc := by
  unfold trackEvent; split <;> simp

@[simp] theorem watchEvent_trc (r : Reading) (s : State) : (watchEvent r s).trc = s.trc := by
  unfold watchEvent; dsimp only; split_ifs <;> simp

@[simp] theorem stepTest_trc (r : Reading) (s : State) : (stepTest r s).trc = s.trc := by
  unfold stepTest
  split
  · rfl
  · dsimp only; split_ifs <;> simp

@[simp] theorem dwellEnd_trc (s : State) : (dwellEnd s).trc = s.trc := by unfold dwellEnd; split <;> simp

@[simp] theorem nameTake_trc (s : State) : (nameTake s).trc = s.trc := by
  unfold nameTake
  split
  · rfl
  · dsimp only
    split
    · split <;> simp
    · simp

/-! ### Power and the panel -/

@[simp] theorem wake_trc (c : WakeCause) (s : State) : (wake c s).trc = s.trc := by unfold wake; split <;> rfl

@[simp] theorem cancelOff_trc (s : State) : (cancelOff s).trc = s.trc := by unfold cancelOff; split <;> simp

@[simp] theorem completeOff_trc (s : State) : (completeOff s).trc = s.trc := by unfold completeOff; split <;> rfl

@[simp] theorem releaseHost_trc (s : State) : (releaseHost s).trc = s.trc := by
  unfold releaseHost
  split
  · dsimp only; split <;> simp
  · rfl

@[simp] theorem railLost_trc (s : State) : (railLost s).trc = s.trc := by simp [railLost]

@[simp] theorem takeSetting_trc (pos : Nat) (v : Byte) (s : State) : (takeSetting pos v s).trc = s.trc := by
  unfold takeSetting; dsimp only; split_ifs <;> rfl

@[simp] theorem handPwr_trc (h : PwrHeld) (s : State) : (handPwr h s).trc = s.trc := by cases h <;> simp [handPwr]

@[simp] theorem toggleTimer_trc (s : State) : (toggleTimer s).trc = s.trc := by
  unfold toggleTimer; dsimp only; split_ifs <;> simp

@[simp] theorem dropToggle_trc (s : State) : (dropToggle s).trc = s.trc := by unfold dropToggle; split <;> simp

/-! ### The scheduler's own work -/

@[simp] theorem setEntry_trc (k : Fin 16) (e : Entry) (s : State) : (setEntry k e s).trc = s.trc := rfl

@[simp] theorem handSch_trc (h : SchHeld) (s : State) : (handSch h s).trc = s.trc := by cases h <;> simp [handSch]

@[simp] theorem writeStatus_trc (k : Fin 16) (s : State) : (writeStatus k s).trc = s.trc := by
  unfold writeStatus; dsimp only; split_ifs <;> simp

@[simp] theorem postProgramme_trc (k : Fin 16) (o : EndOutcome) (r : Reason) (s : State) :
    (postProgramme k o r s).trc = s.trc := by simp [postProgramme]

@[simp] theorem recompute_trc (k : Fin 16) (s : State) : (recompute k s).trc = s.trc := by
  unfold recompute
  dsimp only
  split
  · split
    · split <;> simp
    · simp
  · rfl

@[simp] theorem recomputeAll_trc (ks : List (Fin 16)) (s : State) : (recomputeAll ks s).trc = s.trc := by
  induction ks generalizing s with
  | nil => rfl
  | cons k rest ih => simp [recomputeAll, ih]

@[simp] theorem makeLog_trc (k : Fin 16) (f : LogFacts) (s : State) : (makeLog k f s).trc = s.trc := by
  unfold makeLog; dsimp only; split <;> simp

@[simp] theorem conclude_trc (k : Fin 16) (e : Entry) (f : LogFacts) (s : State) : (conclude k e f s).trc = s.trc := by
  simp [conclude]

@[simp] theorem missDay_trc (k : Fin 16) (day : Nat) (r : Reason) (s : State) : (missDay k day r s).trc = s.trc := by
  simp [missDay]

@[simp] theorem missNext_trc (k : Fin 16) (r : Reason) (s : State) : (missNext k r s).trc = s.trc := by
  simp [missNext]

@[simp] theorem concludeRun_trc (c : Run) (o : EndOutcome) (r : Reason) (detail : Nat) (s : State) :
    (concludeRun c o r detail s).trc = s.trc := by simp [concludeRun]

@[simp] theorem setRun_trc (c : Run) (s : State) : (setRun c s).trc = s.trc := rfl

@[simp] theorem startEffects_trc (c : Run) (counter : Int) (s : State) : (startEffects c counter s).trc = s.trc := by
  simp [startEffects]

@[simp] theorem passOver_trc (k : Fin 16) (s : State) : (passOver k s).trc = s.trc := by simp [passOver]

@[simp] theorem endPassed_trc (k : Fin 16) (s : State) : (endPassed k s).trc = s.trc := by
  unfold endPassed
  dsimp only
  split
  · split_ifs <;> simp
  · rfl

@[simp] theorem endPassedAll_trc (ks : List (Fin 16)) (s : State) : (endPassedAll ks s).trc = s.trc := by
  induction ks generalizing s with
  | nil => rfl
  | cons k rest ih => simp [endPassedAll, ih]

@[simp] theorem setWait_trc (w : WaitReason) (ks : List (Fin 16)) (s : State) : (setWait w ks s).trc = s.trc := by
  induction ks generalizing s with
  | nil => rfl
  | cons k rest ih => simp [setWait, ih]

@[simp] theorem fallBack_trc (c : Run) (s : State) : (fallBack c s).trc = s.trc := by
  unfold fallBack; dsimp only; split <;> simp

@[simp] theorem takeUp_trc (k : Fin 16) (s : State) : (takeUp k s).trc = s.trc := rfl

@[simp] theorem makeEmpty_trc (k : Fin 16) (s : State) : (makeEmpty k s).trc = s.trc := by
  unfold makeEmpty
  dsimp only
  split
  · split <;> simp
  · simp

@[simp] theorem expireClaim_trc (k : Fin 16) (s : State) : (expireClaim k s).trc = s.trc := by simp [expireClaim]

@[simp] theorem claimTick_trc (s : State) : (claimTick s).trc = s.trc := by
  unfold claimTick
  split
  · rfl
  · split <;> simp

@[simp] theorem requestClaim_trc (s : State) : (requestClaim s).1.trc = s.trc := by
  unfold requestClaim
  split
  · rfl
  · split
    · split <;> rfl
    · split <;> simp

@[simp] theorem takeCommit_trc (k : Fin 16) (s : State) : (takeCommit k s).trc = s.trc := by simp [takeCommit]

@[simp] theorem requestCommit_trc (s : State) : (requestCommit s).1.trc = s.trc := by
  unfold requestCommit
  split
  · rfl
  · split
    · rfl
    · split <;> simp

@[simp] theorem requestDiscard_trc (s : State) : (requestDiscard s).1.trc = s.trc := by
  unfold requestDiscard
  split
  · rfl
  · split <;> simp

@[simp] theorem requestDelete_trc (s : State) : (requestDelete s).1.trc = s.trc := by
  unfold requestDelete
  split
  · rfl
  · split <;> simp

@[simp] theorem stepOver_trc (new : Nat) (k : Fin 16) (s : State) : (stepOver new k s).trc = s.trc := by
  unfold stepOver
  dsimp only
  split
  · split <;> simp
  · rfl

@[simp] theorem stepOverAll_trc (new : Nat) (ks : List (Fin 16)) (s : State) : (stepOverAll new ks s).trc = s.trc := by
  induction ks generalizing s with
  | nil => rfl
  | cons k rest ih => simp [stepOverAll, ih]

@[simp] theorem clockMiss_trc (new : Nat) (k : Fin 16) (s : State) : (clockMiss new k s).trc = s.trc := by
  unfold clockMiss
  dsimp only
  split
  · split <;> simp
  · rfl

@[simp] theorem clockMissAll_trc (new : Nat) (ks : List (Fin 16)) (s : State) :
    (clockMissAll new ks s).trc = s.trc := by
  induction ks generalizing s with
  | nil => rfl
  | cons k rest ih => simp [clockMissAll, ih]

@[simp] theorem stepBack_trc (new : Nat) (s : State) : (stepBack new s).trc = s.trc := by
  unfold stepBack
  split
  · rfl
  · split <;> simp

@[simp] theorem stepNotice_trc (n : StepNotice) (s : State) : (stepNotice n s).trc = s.trc := by
  unfold stepNotice; dsimp only; split <;> simp

@[simp] theorem transportReport_trc (st : TransportState) (s : State) : (transportReport st s).trc = s.trc := by
  unfold transportReport
  split
  · rfl
  · split <;> simp

@[simp] theorem markDone_trc (m : MarkWrite) (s : State) : (markDone m s).trc = s.trc := by
  unfold markDone
  split
  · split <;> simp
  · rfl

/-! ### The memory path -/

@[simp] theorem finish_trc (ran : Bool) (s : State) : (finish ran s).trc = s.trc := by simp [finish]

@[simp] theorem handOldest_trc (b : Block) (s : State) : (handOldest b s).trc = s.trc := by
  cases b <;> simp only [handOldest] <;> split <;> simp

@[simp] theorem grants_trc (n : Nat) (s : State) : (grants n s).trc = s.trc := by
  induction n generalizing s with
  | zero => rfl
  | succ n ih =>
    unfold grants
    split
    · rfl
    · split <;> simp [ih]

@[simp] theorem grantSlots_trc (s : State) : (grantSlots s).trc = s.trc := by simp [grantSlots]
@[simp] theorem closeCycle_trc (s : State) : (closeCycle s).trc = s.trc := rfl
@[simp] theorem releaseLatch_trc (s : State) : (releaseLatch s).trc = s.trc := rfl
@[simp] theorem drain_trc (s : State) : (drain s).trc = s.trc := by simp [drain]

@[simp] theorem protect_trc (r : ProtectReason) (off : Nat) (data : Byte) (s : State) :
    (protect r off data s).trc = s.trc := by unfold protect; dsimp only; split <;> simp

@[simp] theorem passWrite_trc (off : Nat) (data : Byte) (s : State) : (passWrite off data s).trc = s.trc := by
  simp [passWrite]

@[simp] theorem takeCell_trc (n : Nat) (v : Byte) (s : State) : (takeCell n v s).trc = s.trc := rfl

@[simp] theorem programmeCycle_trc (off : Nat) (data : Byte) (s : State) : (programmeCycle off data s).trc = s.trc := by
  unfold programmeCycle; dsimp only; split <;> split <;> simp

@[simp] theorem presetCycle_trc (off : Nat) (data : Byte) (s : State) : (presetCycle off data s).trc = s.trc := by
  unfold presetCycle; dsimp only; split_ifs <;> simp

@[simp] theorem profileCycle_trc (off : Nat) (data : Byte) (s : State) : (profileCycle off data s).trc = s.trc := by
  simp [profileCycle]

@[simp] theorem settingsCycle_trc (off : Nat) (data : Byte) (s : State) : (settingsCycle off data s).trc = s.trc := by
  unfold settingsCycle; dsimp only; split <;> simp

/-! ### Servo and position -/

@[simp] theorem useFree_trc (s : State) : (useFree s).trc = s.trc := rfl

@[simp] theorem writeFrame_trc (s : State) : (writeFrame s).trc = s.trc := by
  unfold writeFrame
  split
  · dsimp only; split <;> simp
  · rfl

@[simp] theorem fieldStart_trc (at_ : Nat) (s : State) : (fieldStart at_ s).trc = s.trc := by
  unfold fieldStart
  dsimp only
  split
  · split
    · split <;> simp
    · simp
  · simp

@[simp] theorem timeTake_trc (s : State) : (timeTake s).trc = s.trc := by
  unfold timeTake
  split
  · rfl
  · dsimp only; split <;> simp

end Sys2Proof.Machine
end

section
/-! SUPPORT. What entering a state does to TRC (1.1, R14 to R17, R20), field by field. -/

namespace Sys2Proof.Machine

/-! ### Operations that hand TRC's row on, or restart an allowance -/

@[simp] theorem applyRow_trc (on : Bool) (s : State) : (applyRow on s).trc = s.trc := rfl

@[simp] theorem useSpeed_trc (m : Speed) (o : SpeedOrigin) (s : State) : (useSpeed m o s).trc = s.trc := by
  unfold useSpeed; dsimp only; split <;> rfl

@[simp] theorem defaultSpeed_trc (s : State) : (defaultSpeed s).trc = s.trc := by simp [defaultSpeed]

@[simp] theorem startRun_trc (goal : Nat) (s : State) : (startRun goal s).trc = s.trc := rfl

@[simp] theorem reportState_trc (s : State) : (reportState s).trc = s.trc := by unfold reportState; split <;> rfl

@[simp] theorem stopSearch_trc (s : State) : (stopSearch s).trc = s.trc := by unfold stopSearch; split <;> simp

@[simp] theorem stopWriting_trc (s : State) : (stopWriting s).trc = { s.trc with writing := false } := by
  unfold stopWriting
  split
  · rfl
  · rename_i h
    have hw : s.trc.writing = false := by simpa using h
    rw [← hw]

/-! ### The entry of a state -/

/-- What the entry of a state at a time makes of TRC, the lock allowances apart. -/
def Trc.entering (st : TransportState) (now : Nat) (t : Trc) : Trc :=
  let t' : Trc := { t with
    st := st, brake := st == .stop || st == .fault, rewindDue := false,
    search := if st == .seek then t.search else none,
    phase := if st == .recPause then t.phase else .atRest,
    heldResume := if st == .recPause then t.heldResume else none,
    pausePoint := if st == .recPause then t.pausePoint else none,
    loadMotor := (match st with | .threading => .forward | .unthreading | .ejecting => .reverse | _ => .off),
    loadTimer := (match st with | .threading | .unthreading | .ejecting => some now | _ => none) }
  { t' with idle := if idleState t' then some now else none, pauseT := if pauseState t' then some now else none }

/-- An entry: TRC's new state, its row, and the lock allowances (R17). -/
theorem enterCore_eq (st : TransportState) (on : Bool) (s : State) :
    enterCore st on s =
      (if s.trc.st == .recPause && st == .record then id else restartCap)
        (restartDrum (applyRow on (s.setTrc (s.trc.entering st s.now)))) := by
  unfold enterCore
  dsimp only
  split <;> rfl

theorem enterCore_trc (st : TransportState) (on : Bool) (s : State) :
    ∃ d c, (enterCore st on s).trc = { s.trc.entering st s.now with drumAllow := d, capAllow := c } := by
  rw [enterCore_eq]
  split <;> exact ⟨_, _, rfl⟩

section
variable (st : TransportState) (on : Bool) (s : State)

@[simp] theorem enterCore_st : (enterCore st on s).trc.st = st := by
  obtain ⟨d, c, h⟩ := enterCore_trc st on s; rw [h]; rfl

@[simp] theorem enterCore_owner : (enterCore st on s).trc.owner = s.trc.owner := by
  obtain ⟨d, c, h⟩ := enterCore_trc st on s; rw [h]; rfl

@[simp] theorem enterCore_pending : (enterCore st on s).trc.pending = s.trc.pending := by
  obtain ⟨d, c, h⟩ := enterCore_trc st on s; rw [h]; rfl

@[simp] theorem enterCore_fault : (enterCore st on s).trc.fault = s.trc.fault := by
  obtain ⟨d, c, h⟩ := enterCore_trc st on s; rw [h]; rfl

@[simp] theorem enterCore_cassette : (enterCore st on s).trc.cassette = s.trc.cassette := by
  obtain ⟨d, c, h⟩ := enterCore_trc st on s; rw [h]; rfl

@[simp] theorem enterCore_tab : (enterCore st on s).trc.tab = s.trc.tab := by
  obtain ⟨d, c, h⟩ := enterCore_trc st on s; rw [h]; rfl

@[simp] theorem enterCore_writing : (enterCore st on s).trc.writing = s.trc.writing := by
  obtain ⟨d, c, h⟩ := enterCore_trc st on s; rw [h]; rfl

@[simp] theorem enterCore_markDue : (enterCore st on s).trc.markDue = s.trc.markDue := by
  obtain ⟨d, c, h⟩ := enterCore_trc st on s; rw [h]; rfl

@[simp] theorem enterCore_op : (enterCore st on s).trc.op = s.trc.op := by
  obtain ⟨d, c, h⟩ := enterCore_trc st on s; rw [h]; rfl

@[simp] theorem enterCore_resumeBy : (enterCore st on s).trc.resumeBy = s.trc.resumeBy := by
  obtain ⟨d, c, h⟩ := enterCore_trc st on s; rw [h]; rfl

@[simp] theorem enterCore_rewindDue : (enterCore st on s).trc.rewindDue = false := by
  obtain ⟨d, c, h⟩ := enterCore_trc st on s; rw [h]; rfl

@[simp] theorem enterCore_brake : (enterCore st on s).trc.brake = (st == .stop || st == .fault) := by
  obtain ⟨d, c, h⟩ := enterCore_trc st on s; rw [h]; rfl

@[simp] theorem enterCore_search :
    (enterCore st on s).trc.search = if st == .seek then s.trc.search else none := by
  obtain ⟨d, c, h⟩ := enterCore_trc st on s; rw [h]; rfl

@[simp] theorem enterCore_phase :
    (enterCore st on s).trc.phase = if st == .recPause then s.trc.phase else .atRest := by
  obtain ⟨d, c, h⟩ := enterCore_trc st on s; rw [h]; rfl

@[simp] theorem enterCore_heldResume :
    (enterCore st on s).trc.heldResume = if st == .recPause then s.trc.heldResume else none := by
  obtain ⟨d, c, h⟩ := enterCore_trc st on s; rw [h]; rfl

@[simp] theorem enterCore_pausePoint :
    (enterCore st on s).trc.pausePoint = if st == .recPause then s.trc.pausePoint else none := by
  obtain ⟨d, c, h⟩ := enterCore_trc st on s; rw [h]; rfl

@[simp] theorem enterCore_loadMotor :
    (enterCore st on s).trc.loadMotor =
      (match st with | .threading => .forward | .unthreading | .ejecting => .reverse | _ => .off) := by
  obtain ⟨d, c, h⟩ := enterCore_trc st on s; rw [h]; rfl

@[simp] theorem enterCore_loadTimer :
    (enterCore st on s).trc.loadTimer =
      (match st with | .threading | .unthreading | .ejecting => some s.now | _ => none) := by
  obtain ⟨d, c, h⟩ := enterCore_trc st on s; rw [h]; rfl

@[simp] theorem enterCore_idle :
    (enterCore st on s).trc.idle =
      if st == .stop && s.trc.owner == .panel && s.trc.pending.isNone then some s.now else none := by
  obtain ⟨d, c, h⟩ := enterCore_trc st on s; rw [h]; rfl

@[simp] theorem enterCore_pauseT :
    (enterCore st on s).trc.pauseT =
      if (st == .still || st == .recPause) && s.trc.owner == .panel then some s.now else none := by
  obtain ⟨d, c, h⟩ := enterCore_trc st on s; rw [h]; rfl

@[simp] theorem enterPosting_trc (o : Origin) : (enterPosting st o on s).trc = (enterCore st on s).trc := by
  simp [enterPosting]

@[simp] theorem enter_trc (o : Origin) (quiet : Bool) : (enter st o quiet on s).trc = (enterCore st on s).trc := by
  unfold enter; split <;> simp

end

end Sys2Proof.Machine
end

section
/-! SUPPORT. R16, R22: every operation of TRC, of SCH and of the memory path keeps TRC writing in RECORD alone and a fault
latched exactly in FAULT. -/

namespace Sys2Proof.Machine

/-! ### The rules of TRC alone -/

/-- What `TransportWf` says of TRC. -/
def Trc.Wf (t : Trc) : Prop :=
  (t.writing = true → t.st = .record) ∧ (t.fault.isSome = true ↔ t.st = .fault)
    ∧ (t.loadMotor ≠ .off → t.st = .threading ∨ t.st = .unthreading ∨ t.st = .ejecting)

theorem transportWf_iff (s : State) : TransportWf s ↔ s.trc.Wf :=
  ⟨fun h => ⟨h.writing, h.fault, h.loadMotor⟩, fun ⟨hw, hf, hl⟩ => ⟨hw, hf, hl⟩⟩

/-- Nothing is written and no fault is latched, so that any state but FAULT may be entered. -/
def Trc.Free (t : Trc) : Prop := t.writing = false ∧ t.fault = none

theorem Trc.Wf.noFault {t : Trc} (h : t.Wf) (hst : t.st ≠ .fault) : t.fault = none := by
  obtain ⟨-, hf, -⟩ := h
  simpa [hst] using hf

theorem Trc.Wf.free {t : Trc} (h : t.Wf) (hr : t.st ≠ .record) (hst : t.st ≠ .fault) : t.Free :=
  ⟨by simpa [hr] using h.1, h.noFault hst⟩

/-- In a state that the free states list, TRC is free. -/
theorem Trc.Wf.free_of {t : Trc} {st : TransportState} (h : t.Wf) (e : t.st = st) (hr : st ≠ .record := by decide)
    (hf : st ≠ .fault := by decide) : t.Free := h.free (e ▸ hr) (e ▸ hf)

/-- An operation keeps the rules of TRC. -/
def KeepsWf (f : State → State) : Prop := ∀ s : State, s.trc.Wf → (f s).trc.Wf

theorem KeepsWf.of_trc {f : State → State} (h : ∀ s, (f s).trc = s.trc) : KeepsWf f := fun s hs => by rwa [h s]

/-! ### Entries -/

/-- The load motor runs in THREADING, UNTHREADING and EJECTING alone, after any entry. -/
theorem enterCore_loadMotor_states {st : TransportState} {on : Bool} {s : State}
    (h : (enterCore st on s).trc.loadMotor ≠ .off) : st = .threading ∨ st = .unthreading ∨ st = .ejecting := by
  rw [enterCore_loadMotor] at h
  cases st <;> simp_all

theorem enterCore_wf {st : TransportState} {on : Bool} {s : State} (hw : s.trc.writing = true → st = .record)
    (hf : s.trc.fault.isSome = true ↔ st = .fault) : (enterCore st on s).trc.Wf :=
  ⟨by simpa using hw, by simpa using hf, fun h => by simpa using enterCore_loadMotor_states h⟩

/-- A free TRC may enter any state but FAULT. -/
theorem Trc.Free.enterCore_wf {st : TransportState} {s : State} (h : s.trc.Free) (on : Bool)
    (hst : st ≠ .fault := by decide) : (enterCore st on s).trc.Wf :=
  Machine.enterCore_wf (by simp [h.1]) (by simp [h.2, hst])

theorem latchFault_keeps (code : FaultCode) (detail : Nat) : KeepsWf (latchFault code detail) := by
  intro s hs
  unfold latchFault
  split
  · exact hs
  · have h : (enterCore .fault false ((stopWriting s).setTrc { (stopWriting s).trc with
        fault := some ⟨code, detail⟩, pending := none, markDue := false, search := none, reverseRun := false })).trc.Wf :=
      enterCore_wf (by simp) (by simp)
    dsimp only
    split <;> simpa using h

/-! ### Tape limits -/

theorem limitCore_trc (e : TapeEnd) (stall : Bool) (s : State) :
    ∃ due, (limitCore e stall s).trc = { (enterCore .stop false (stopWriting s)).trc with rewindDue := due } := by
  unfold limitCore
  dsimp only
  refine ⟨e == .ending && setAutoRewind s.mpath.settings && (if s.trc.st == .seek then s.trc.search else none).isNone, ?_⟩
  split <;> split <;> simp

theorem limitCore_wf {s : State} (h : s.trc.fault = none) (e : TapeEnd) (stall : Bool) : (limitCore e stall s).trc.Wf := by
  obtain ⟨due, hd⟩ := limitCore_trc e stall s
  rw [hd]
  have hf : (stopWriting s).trc.Free := ⟨by simp, by simpa using h⟩
  exact hf.enterCore_wf (st := .stop) false

theorem takeRewind_keeps : KeepsWf takeRewind := by
  intro s hs
  unfold takeRewind
  split
  · rename_i hc
    have hst : s.trc.st = .stop := by simp_all
    have hf := hs.free_of hst
    dsimp only
    split
    · exact limitCore_wf (by simpa using hf.2) _ _
    · simpa using hf.enterCore_wf (st := .rew) false
  · exact hs

theorem tapeLimit_wf {s : State} (h : s.trc.fault = none) (e : TapeEnd) (stall : Bool) : (tapeLimit e stall s).trc.Wf :=
  takeRewind_keeps _ (limitCore_wf h e stall)

/-- A state with a direction of motion is not FAULT. -/
theorem Trc.Wf.noFault_of_motion {t : Trc} {d : Dir} (h : t.Wf) (hd : motionDir t = some d) : t.fault = none := by
  refine h.noFault fun hst => ?_
  simp [motionDir, hst] at hd

theorem meetLimit_keeps : KeepsWf meetLimit := by
  intro s hs
  unfold meetLimit
  split
  · rename_i e he
    have : ∃ d, motionDir s.trc = some d := by
      unfold limitMet at he
      cases hd : motionDir s.trc with
      | none => simp [hd] at he
      | some d => exact ⟨d, rfl⟩
    exact tapeLimit_wf (hs.noFault_of_motion this.choose_spec) e false
  · exact hs

/-! ### Motions, pause and record -/

/-- A free TRC may enter any state but FAULT, quietly or not. -/
theorem Trc.Free.enter_wf {st : TransportState} {s : State} (h : s.trc.Free) (o : Origin) (quiet on : Bool)
    (hst : st ≠ .fault := by decide) : (enter st o quiet on s).trc.Wf := by
  simpa using h.enterCore_wf on hst

theorem Trc.Free.enterMotion_wf {st : TransportState} {s : State} (h : s.trc.Free) (o : Origin) (quiet : Bool)
    (hst : st ≠ .fault := by decide) : (enterMotion st o quiet s).trc.Wf :=
  meetLimit_keeps _ (h.enter_wf o quiet false hst)

theorem enterPhase_keeps (p : RecPhase) : KeepsWf (enterPhase p) := fun _ hs => hs

theorem beginPause_wf {s : State} (h : s.trc.fault = none) (o : Origin) (quiet : Bool) :
    (beginPause o quiet s).trc.Wf := by
  refine meetLimit_keeps _ ?_
  rw [startRun_trc]
  exact Trc.Free.enter_wf ⟨by simp, by simpa using h⟩ o quiet false

theorem startCatchUp_keeps (o : Origin) : KeepsWf (startCatchUp o) := fun s hs =>
  meetLimit_keeps _ (enterPhase_keeps .catchUp (s.setTrc { s.trc with resumeBy := o, heldResume := none }) hs)

theorem backSpaceDone_keeps : KeepsWf backSpaceDone := by
  intro s hs
  unfold backSpaceDone
  split
  · exact startCatchUp_keeps _ s hs
  · exact enterPhase_keeps _ s hs

theorem reverseCatchUp_keeps : KeepsWf reverseCatchUp := by
  intro s hs
  have hp := enterPhase_keeps .backSpace s hs
  unfold reverseCatchUp
  dsimp only
  split <;> split
  · exact meetLimit_keeps _ (backSpaceDone_keeps _ hp)
  · exact meetLimit_keeps _ hp
  · exact meetLimit_keeps _ (backSpaceDone_keeps _ hp)
  · exact meetLimit_keeps _ hp

/-- Writing that begins in RECORD keeps the rules. -/
theorem beginWriting_wf {s : State} (h : s.trc.Wf) (hst : s.trc.st = .record) : (beginWriting s).trc.Wf :=
  ⟨fun _ => hst, h.2.1, h.2.2⟩

theorem catchUpDone_wf {s : State} (h : s.trc.fault = none) : (catchUpDone s).trc.Wf := by
  have hr : (enterCore .record true s).trc.Wf := enterCore_wf (by simp) (by simp [h])
  simpa [catchUpDone] using beginWriting_wf hr (by simp)

theorem runDone_keeps : KeepsWf runDone := by
  intro s hs
  unfold runDone
  split
  · rename_i hst
    split
    · exact backSpaceDone_keeps s hs
    · exact catchUpDone_wf (hs.free_of (by simpa using hst)).2
    · exact hs
  · exact hs

theorem tryWriting_keeps : KeepsWf tryWriting := by
  intro s hs
  unfold tryWriting
  split
  · exact beginWriting_wf hs (by simp_all)
  · exact hs

theorem Trc.Free.enterRecord_wf {s : State} (h : s.trc.Free) (m : Speed) (mark paused : Bool) (o : Origin) (quiet : Bool) :
    (enterRecord m mark paused o quiet s).trc.Wf := by
  have hu : (useSpeed m .recorded (s.setTrc { s.trc with markDue := mark })).trc.Free := by rw [useSpeed_trc]; exact h
  unfold enterRecord
  dsimp only
  split
  · exact beginPause_wf hu.2 o quiet
  · exact meetLimit_keeps _ (tryWriting_keeps _ (hu.enter_wf o quiet _))

/-! ### Searches -/

/-- SEEK is entered with a search from a free TRC. -/
theorem enterSeek_wf {s : State} (h : s.trc.Free) (k : Search) (o : Origin) (quiet : Bool) :
    (meetLimit (enter .seek o quiet false (s.setTrc { s.trc with search := some k }))).trc.Wf :=
  Trc.Free.enterMotion_wf (st := .seek) (s := s.setTrc { s.trc with search := some k }) h o quiet

theorem startGoto_wf {s : State} (hs : s.trc.Wf) (h : s.trc.Free) (target : Int) (o : Origin) (quiet : Bool) :
    (startGoto target o quiet s).trc.Wf := by
  unfold startGoto
  dsimp only
  split
  · have hin : (if s.trc.st == .stop then s else reportState (enterCore .stop false s)).trc.Wf := by
      split
      · exact hs
      · simpa using h.enterCore_wf (st := .stop) false
    split <;> simpa using hin
  · exact enterSeek_wf h _ o quiet

theorem Trc.Free.startIndex_wf {s : State} (h : s.trc.Free) (dir : Dir) (n : Nat) (o : Origin) (quiet : Bool) :
    (startIndex dir n o quiet s).trc.Wf := enterSeek_wf h _ o quiet

theorem Trc.Free.searchFound_wf {s : State} (h : s.trc.Free) (k : Search) : (searchFound k s).trc.Wf := by
  refine meetLimit_keeps _ ?_
  cases k.kind
  · simpa using h.enterCore_wf (st := .stop) false
  · simpa using h.enterCore_wf (st := .play) false

theorem counterChanged_keeps : KeepsWf counterChanged := by
  intro s hs
  unfold counterChanged
  split
  · rename_i hst _
    dsimp only
    split_ifs
    · exact (hs.free_of hst).searchFound_wf _
    · exact hs
    · exact hs
  · exact hs

theorem markReported_keeps (m : Int) : KeepsWf (markReported m) := by
  intro s hs
  unfold markReported
  split
  · rename_i hst _
    split
    · dsimp only
      split
      · exact hs
      · split
        · exact (hs.free_of hst).searchFound_wf _
        · exact meetLimit_keeps _ hs
    · exact hs
  · exact hs

theorem searchTimeout_keeps : KeepsWf searchTimeout := by
  intro s hs
  unfold searchTimeout
  split
  · rename_i k hst _
    split
    · simpa using Trc.Free.enterCore_wf (s := reachLimit k.since Config.searchLimit s) (st := .stop) (hs.free_of hst) false
    · exact hs
  · exact hs

/-! ### Threading, unthreading and eject -/

theorem Trc.Free.beginThread_wf {s : State} (h : s.trc.Free) (p : Target) : (beginThread p s).trc.Wf := by
  simp only [beginThread, reportState_trc]
  refine Trc.Free.enterCore_wf (st := .threading) ?_ false
  exact h

theorem beginUnthread_wf {s : State} (h : s.trc.fault = none) (p : Option Target) (o : Origin) :
    (beginUnthread p o s).trc.Wf := by
  simp only [beginUnthread, reportState_trc]
  exact Trc.Free.enterCore_wf (st := .unthreading) ⟨by simp, by simpa using h⟩ false

theorem Trc.Free.beginEject_wf {s : State} (h : s.trc.Free) (o : Origin) : (beginEject o s).trc.Wf := by
  simp only [beginEject, reportState_trc]
  refine Trc.Free.enterCore_wf (st := .ejecting) ?_ false
  exact h

theorem serveTarget_wf {s : State} (hs : s.trc.Wf) (h : s.trc.Free) (p : Target) : (serveTarget p s).trc.Wf := by
  have hs' : (s.setTrc { s.trc with pending := none }).trc.Wf := hs
  have h' : (s.setTrc { s.trc with pending := none }).trc.Free := h
  unfold serveTarget
  dsimp only
  split
  · exact h'.enterMotion_wf (st := .play) _ _
  · exact h'.enterMotion_wf (st := .cue) _ _
  · exact h'.enterMotion_wf (st := .review) _ _
  · exact h'.enterMotion_wf (st := .ff) _ _
  · exact h'.enterMotion_wf (st := .rew) _ _
  · exact h'.enter_wf (st := .stop) _ _ _
  · exact beginUnthread_wf h'.2 _ _
  · exact h'.enterRecord_wf _ _ _ _ _
  · exact startGoto_wf hs' h' _ _ _
  · exact h'.startIndex_wf _ _ _ _

theorem threadingDone_wf {s : State} (hs : s.trc.Wf) (hst : s.trc.st = .threading) : (threadingDone s).trc.Wf := by
  have h : (s.setTrc { s.trc with loadMotor := .off, loadTimer := none }).trc.Free := hs.free_of hst
  have h' : (s.setTrc { s.trc with loadMotor := .off, loadTimer := none }).trc.Wf :=
    ⟨hs.1, hs.2.1, fun hl => by simp at hl⟩
  unfold threadingDone
  dsimp only
  split
  · exact h.enter_wf _ _ _
  · split
    · exact h.enter_wf _ _ _
    · exact serveTarget_wf h' h _

theorem threadFailure_wf {s : State} (hs : s.trc.Wf) (hst : s.trc.st = .threading) : (threadFailure s).trc.Wf := by
  unfold threadFailure
  split
  · exact ⟨hs.1, hs.2.1, fun _ => .inl hst⟩
  · exact latchFault_keeps _ _ s hs

theorem restState_ne_fault (s : State) : restState s ≠ .fault := by unfold restState; split <;> decide

theorem unthreadedSwitch_keeps : KeepsWf unthreadedSwitch := by
  intro s hs
  unfold unthreadedSwitch
  split
  · rename_i hst
    have h := hs.free_of hst
    split
    · exact h.beginEject_wf _
    · exact h.enter_wf _ _ _ (restState_ne_fault s)
  · rename_i hst
    have h := hs.free_of hst
    split
    · split
      · exact h.beginEject_wf _
      · exact ⟨hs.1, hs.2.1, fun _ => .inl hst⟩
    · exact hs
  · exact hs

/-! ### Requests -/

theorem clearRewind_keeps : KeepsWf clearRewind := fun _ hs => hs
/-- A state in which the motion table lets a request act or thread leaves TRC free. -/
theorem Trc.Wf.free_of_table {t : Trc} (h : t.Wf) (ht : motionTable t = .act ∨ motionTable t = .thread) : t.Free := by
  refine h.free (fun e => ?_) (fun e => ?_) <;> simp [motionTable, e] at ht

theorem requestMotion_keeps (st : TransportState) (hst : st ≠ .fault) (req : TargetRequest) :
    KeepsWf fun s => (requestMotion st req s).1 := by
  intro s hs
  unfold requestMotion
  dsimp only
  split
  · exact hs
  · split
    · exact hs
    · rename_i ht
      exact Trc.Free.beginThread_wf (s := clearRewind s) (hs.free_of_table (.inr ht)) _
    · exact hs
    · rename_i ht
      split
      · exact hs
      · have h : (stopSearch (clearRewind s)).trc.Free := by rw [stopSearch_trc]; exact hs.free_of_table (.inl ht)
        exact h.enterMotion_wf _ _ hst

/-- A search request keeps the rules when its start does, from a free TRC. -/
theorem requestSearch_wf {s : State} (hs : s.trc.Wf) (req : TargetRequest) {start : State → State}
    (hstart : ∀ u, u.trc.Wf → u.trc.Free → (start u).trc.Wf) : (requestSearch req start s).1.trc.Wf := by
  unfold requestSearch
  split
  · exact hs
  · split
    · exact hs
    · rename_i ht
      exact Trc.Free.beginThread_wf (s := clearRewind s) (hs.free_of_table (.inr ht)) _
    · exact hs
    · rename_i ht
      refine hstart _ ?_ ?_ <;> rw [stopSearch_trc]
      · exact hs
      · exact hs.free_of_table (.inl ht)

theorem requestGoto_keeps : KeepsWf fun s => (requestGoto s).1 := by
  intro s hs
  unfold requestGoto
  dsimp only
  split
  · exact hs
  · exact requestSearch_wf hs _ fun u hu h => startGoto_wf hu h _ _ _

theorem requestIndex_keeps : KeepsWf fun s => (requestIndex s).1 := by
  intro s hs
  unfold requestIndex
  dsimp only
  split
  · exact hs
  · split
    · exact hs
    · exact requestSearch_wf hs _ fun u _ h => h.startIndex_wf _ _ _ _

/-- R7: the states in which a RECORD is taken. -/
theorem recordTable_states {t : Trc} (h : recordTable t = none) : t.st = .unthreaded ∨ t.st = .threading ∨ t.st = .stop := by
  unfold recordTable at h
  split at h <;> simp_all

theorem takeRecord_wf {s : State} (hs : s.trc.Wf) (hst : s.trc.st = .unthreaded ∨ s.trc.st = .threading ∨ s.trc.st = .stop)
    (m : Speed) (mark paused : Bool) (o : Origin) (quiet : Bool) : (takeRecord m mark paused o quiet s).1.trc.Wf := by
  have h : s.trc.Free := hs.free (by rcases hst with e | e | e <;> simp [e]) (by rcases hst with e | e | e <;> simp [e])
  unfold takeRecord
  dsimp only
  split
  · exact h.beginThread_wf _
  · exact hs
  · split
    · exact hs
    · exact h.enterRecord_wf _ _ _ _ _

@[simp] theorem recordTune_trc (src : RecordSource) (s : State) : (recordTune src s).1.trc = s.trc := by
  unfold recordTune
  split
  · rfl
  · split <;> simp

theorem requestRecord_keeps : KeepsWf fun s => (requestRecord s).1 := by
  intro s hs
  unfold requestRecord
  dsimp only
  split
  · exact hs
  · split
    · exact hs
    · split
      · exact hs
      · rename_i ht
        have htune := recordTune_trc ((recordSource s.rqu.arg0).getD .current) s
        split <;> rename_i hr <;> rw [hr] at htune
        · simpa [htune] using hs
        · rename_i u
          have hu : u.trc = s.trc := htune
          refine takeRecord_wf (s := clearRewind u) (clearRewind_keeps u (by rwa [hu])) ?_ _ _ _ _ _
          simpa [clearRewind, hu] using recordTable_states ht

theorem dropHeld_keeps : KeepsWf dropHeld := by intro s hs; unfold dropHeld; split <;> exact hs

theorem stopTape_wf {s : State} (hs : s.trc.Wf) (hst : s.trc.st ≠ .fault) (o : Origin) (quiet : Bool) :
    (stopTape o quiet s).trc.Wf := by
  unfold stopTape
  split
  · exact dropHeld_keeps s hs
  · exact Trc.Free.enter_wf ⟨by simp, by simpa using hs.noFault hst⟩ _ _ _

theorem stopByTable_keeps : KeepsWf fun s => (stopByTable s).1 := by
  intro s hs
  unfold stopByTable
  dsimp only
  split
  case h_7 => exact stopTape_wf (s := clearRewind s) hs (by assumption) _ _
  all_goals exact hs

theorem ownerToPanel_keeps : KeepsWf ownerToPanel := fun _ hs => takeRewind_keeps _ hs

theorem stopOverride_keeps : KeepsWf fun s => (stopOverride s).1 := by
  intro s hs
  unfold stopOverride
  dsimp only
  split
  · exact hs
  · exact ownerToPanel_keeps _ hs
  · exact ownerToPanel_keeps _ hs
  · exact ownerToPanel_keeps _ hs
  · exact ownerToPanel_keeps _ hs
  · exact ownerToPanel_keeps _ hs
  · rename_i hst _ _ _ _ _
    exact ownerToPanel_keeps _ (stopTape_wf (s := clearRewind s) hs hst _ _)

theorem requestStop_keeps : KeepsWf fun s => (requestStop s).1 := by
  intro s hs
  unfold requestStop
  dsimp only
  split_ifs
  · exact hs
  · exact stopByTable_keeps s hs
  · exact stopOverride_keeps s hs
  · exact hs

theorem pauseInPause_keeps : KeepsWf fun s => (pauseInPause s).1 := by
  intro s hs
  unfold pauseInPause
  dsimp only
  split
  · exact hs
  · split <;> exact hs
  · exact reverseCatchUp_keeps _ hs

theorem requestPause_keeps : KeepsWf fun s => (requestPause s).1 := by
  intro s hs
  unfold requestPause
  dsimp only
  split
  · exact hs
  · split
    · exact hs
    · exact hs
    · exact Trc.Free.enter_wf (s := clearRewind s) (hs.free_of ‹_›) _ _ _
    · exact Trc.Free.enter_wf (s := clearRewind s) (hs.free_of ‹_›) _ _ _
    · exact Trc.Free.enter_wf (s := clearRewind s) (hs.free_of ‹_›) _ _ _
    · rename_i hst
      exact beginPause_wf (s := clearRewind s) (hs.noFault (by simp [hst])) _ _
    · exact pauseInPause_keeps s hs
    · exact hs

theorem resumeInPause_keeps (o : Origin) : KeepsWf fun s => (resumeInPause o s).1 := by
  intro s hs
  unfold resumeInPause
  dsimp only
  split
  · exact startCatchUp_keeps o _ hs
  · exact hs
  · exact hs

theorem requestResume_keeps : KeepsWf fun s => (requestResume s).1 := by
  intro s hs
  unfold requestResume
  dsimp only
  split
  · exact hs
  · split
    · exact hs
    · exact hs
    · exact Trc.Free.enterMotion_wf (s := clearRewind s) (hs.free_of ‹_›) _ _
    · exact resumeInPause_keeps _ s hs
    · exact hs

theorem ejectByTable_keeps (o : Origin) : KeepsWf fun s => (ejectByTable o s).1 := by
  intro s hs
  unfold ejectByTable
  dsimp only
  split
  · exact hs
  · exact Trc.Free.beginEject_wf (s := clearRewind s) (hs.free_of ‹_›) _
  · exact hs
  · exact hs
  · exact hs
  · exact hs
  · exact beginUnthread_wf (by rw [stopSearch_trc]; exact hs.noFault ‹_›) _ _

theorem requestEject_keeps : KeepsWf fun s => (requestEject s).1 := by
  intro s hs
  unfold requestEject
  dsimp only
  split
  · exact hs
  · exact ejectByTable_keeps _ s hs

theorem requestReset_keeps : KeepsWf fun s => (requestReset s).1 := by
  intro s hs
  unfold requestReset
  dsimp only
  split
  · exact hs
  · split <;> exact hs

theorem requestRecover_keeps : KeepsWf fun s => (requestRecover s).1 := by
  intro s hs
  unfold requestRecover
  dsimp only
  split
  · exact hs
  · split
    · exact hs
    · exact hs
    · rename_i hst
      have hw : (s.setTrc { s.trc with fault := none }).trc.Free := ⟨by simpa [hst] using hs.1, rfl⟩
      split_ifs
      · exact hs
      · exact hw.enter_wf _ _ _ (restState_ne_fault _)
      · exact beginUnthread_wf hw.2 _ _
    · exact hs

end Sys2Proof.Machine
end

section
/-! SUPPORT. R16, R22: the cassette switches, the scheduler's and the power's operations on TRC, and the host cycles keep the
rules of TRC. -/

namespace Sys2Proof.Machine

/-! ### Cassette switches -/

@[simp] theorem cassetteIn_trc (tab : Bool) (s : State) :
    (cassetteIn tab s).trc = { s.trc with cassette := true, tab := tab } := by simp [cassetteIn]

@[simp] theorem cassetteGone_trc (s : State) :
    (cassetteGone s).trc = { s.trc with cassette := false, tab := false } := by simp [cassetteGone]

theorem cassetteIn_keeps (tab : Bool) : KeepsWf (cassetteIn tab) := fun s hs => by rw [cassetteIn_trc]; exact hs
theorem cassetteGone_keeps : KeepsWf cassetteGone := fun s hs => by rw [cassetteGone_trc]; exact hs

theorem insertCassette_keeps (tab : Bool) : KeepsWf fun s => (insertCassette tab s).1 := by
  intro s hs
  unfold insertCassette
  dsimp only
  split
  · have h : (cassetteIn tab s).trc.Free := by rw [cassetteIn_trc]; exact hs.free_of ‹_›
    simpa using h.enterCore_wf (st := .unthreaded) false
  · rw [post_trc]; exact cassetteIn_keeps tab s hs
  · rw [post_trc]; exact cassetteIn_keeps tab s hs
  · exact hs

theorem removeCassette_keeps : KeepsWf removeCassette := by
  intro s hs
  have hg : s.trc.Free → (cassetteGone s).trc.Free := fun h => by rw [cassetteGone_trc]; exact h
  unfold removeCassette
  dsimp only
  split
  · exact hs
  · simpa using (hg (hs.free_of ‹_›)).enterCore_wf (st := .noCassette) false
  · simpa using (hg (hs.free_of ‹_›)).enterCore_wf (st := .noCassette) false
  · rw [post_trc]; exact cassetteGone_keeps s hs
  · rw [post_trc]; exact cassetteGone_keeps _ (latchFault_keeps _ _ s hs)

/-! ### The scheduler's operations on TRC -/

theorem takeTransport_keeps : KeepsWf takeTransport := fun _ hs => hs

theorem returnTransport_keeps : KeepsWf returnTransport := by
  intro s hs
  unfold returnTransport
  split
  · refine ownerToPanel_keeps _ ?_
    split <;> exact hs
  · exact hs

theorem schRecord_keeps (m : Speed) : KeepsWf (schRecord m) := by
  intro s hs
  unfold schRecord
  split
  · exact takeRecord_wf hs (by simp [*]) _ _ _ _ _
  · exact takeRecord_wf hs (by simp [*]) _ _ _ _ _
  · exact takeRecord_wf hs (by simp [*]) _ _ _ _ _
  · exact hs

theorem schResume_keeps (mark : Bool) : KeepsWf (schResume mark) := by
  intro s hs
  unfold schResume
  split
  · exact resumeInPause_keeps _ (s.setTrc { s.trc with markDue := s.trc.markDue || mark }) hs
  · exact hs

theorem schPause_keeps : KeepsWf schPause := by
  intro s hs
  unfold schPause
  split
  · exact beginPause_wf (hs.noFault (by simp [*])) _ _
  · exact pauseInPause_keeps s hs
  · exact hs

/-- A threaded state is not FAULT. -/
theorem ne_fault_of_threaded {st : TransportState} (h : st.threaded = true) : st ≠ .fault := by
  rintro rfl; cases h

theorem schStop_keeps : KeepsWf schStop := by
  intro s hs
  unfold schStop
  split
  · split
    · exact hs
    · exact hs
    · split
      · exact stopTape_wf hs (ne_fault_of_threaded ‹_›) _ _
      · exact hs
  · exact hs

theorem unthreadForPowerOff_keeps (o : Origin) : KeepsWf (unthreadForPowerOff o) := by
  intro s hs
  unfold unthreadForPowerOff
  split
  · exact beginUnthread_wf (by rw [stopSearch_trc]; exact hs.noFault (ne_fault_of_threaded ‹_›)) _ _
  · exact hs

/-! ### The main rail, and the locks that SRV reports -/

theorem stopDrumAllowance_keeps : KeepsWf stopDrumAllowance := by
  intro s hs; unfold stopDrumAllowance; split <;> exact hs

theorem restartCap_keeps : KeepsWf restartCap := fun _ hs => hs

theorem transportRailLost_keeps : KeepsWf transportRailLost := by
  intro s hs
  unfold transportRailLost
  dsimp only
  split
  · rw [post_trc]; exact dropHeld_keeps s hs
  · split
    · rename_i ht
      have h : (stopSearch (stopWriting s)).trc.Free := by
        rw [stopSearch_trc]; exact ⟨by simp, by simpa using hs.noFault (ne_fault_of_threaded ht)⟩
      simpa using h.enterCore_wf (st := .stop) false
    · exact hs

theorem transportRailGood_keeps : KeepsWf transportRailGood := by
  intro s hs
  have hu : (if waitsForRail s.trc.st then restartDrum s else s).trc.Wf := by split <;> exact hs
  unfold transportRailGood
  dsimp only
  split
  · exact serveTarget_wf hu (hu.free_of ‹_›) _
  · exact hu

theorem startRecordCapstan_keeps : KeepsWf startRecordCapstan := by
  intro s hs; unfold startRecordCapstan; split <;> exact hs

theorem drumReported_keeps (r : LockReport) : KeepsWf (drumReported r) := by
  intro s hs
  unfold drumReported
  split
  · exact hs
  · refine tryWriting_keeps _ (startRecordCapstan_keeps _ ?_)
    split <;> exact hs
  · split <;> exact hs

theorem capReported_keeps (r : LockReport) : KeepsWf (capReported r) := by
  intro s hs
  unfold capReported
  split
  · exact hs
  · refine tryWriting_keeps _ ?_
    dsimp only
    split <;> exact hs
  · refine restartCap_keeps _ ?_
    split <;> exact hs

/-! ### Power and the panel -/

theorem beginOff_keeps (off : PowerOff) (o : Origin) : KeepsWf (beginOff off o) := fun s hs =>
  unthreadForPowerOff_keeps o (s.setPwr _) hs

theorem autoOff_keeps : KeepsWf autoOff := by
  intro s hs
  unfold autoOff
  split
  · exact beginOff_keeps _ _ s hs
  · exact hs

theorem keyPressed_keeps (n : Nat) : KeepsWf (keyPressed n) := by
  intro s hs
  unfold keyPressed
  split
  · dsimp only
    split <;> simpa using hs
  · split
    · simpa using hs
    · split
      · exact ejectByTable_keeps _ (wake .eject s) (by simpa using hs)
      · exact hs
    · simpa using hs
    · exact hs
  · exact hs

theorem pressIf_keeps (b : Bool) (n : Nat) : KeepsWf (pressIf b n) := by
  intro s hs
  unfold pressIf
  split
  · exact keyPressed_keeps n s hs
  · exact hs

theorem keySample_keeps (k : BitVec 4) : KeepsWf (keySample k) := fun _ hs =>
  pressIf_keeps _ _ _ (pressIf_keeps _ _ _ (pressIf_keeps _ _ _ (pressIf_keeps _ _ _ hs)))

theorem requestPowerOff_keeps : KeepsWf fun s => (requestPowerOff s).1 := by
  intro s hs
  unfold requestPowerOff
  dsimp only
  split_ifs
  · exact hs
  · exact hs
  · exact hs
  · exact beginOff_keeps _ _ s hs

/-! ### The scheduler -/

theorem releaseRun_keeps (wasStarted : Bool) : KeepsWf (releaseRun wasStarted) := by
  intro s hs
  have h := returnTransport_keeps _ (schStop_keeps s hs)
  unfold releaseRun
  dsimp only
  split <;> simpa using h

theorem endRun_keeps (o : EndOutcome) (r : Reason) (detail : Nat) : KeepsWf (endRun o r detail) := by
  intro s hs
  unfold endRun
  split
  · exact hs
  · exact releaseRun_keeps _ _ (by simpa using hs)

theorem endWell_keeps : KeepsWf endWell := by
  intro s hs
  unfold endWell
  split
  · exact hs
  · exact endRun_keeps _ _ _ s hs

theorem startRun_keeps : KeepsWf startRun_ := by
  intro s hs
  unfold startRun_
  split
  · exact hs
  · split
    · simpa using schResume_keeps _ s hs
    · exact hs

theorem continueRun_keeps (c : Run) (b : Fin 16) : KeepsWf (continueRun c b) := by
  intro s hs
  simpa [continueRun] using schResume_keeps _ _ (schPause_keeps _ (by simpa using hs))

theorem clockTests_keeps (c : Run) : KeepsWf (clockTests c) := by
  intro s hs
  unfold clockTests
  dsimp only
  split
  · split_ifs
    · exact endRun_keeps _ _ _ s hs
    · exact hs
    · exact hs
  · split
    · split
      · exact continueRun_keeps _ _ s hs
      · exact endWell_keeps s hs
    · exact hs
  · exact hs

theorem labelTests_keeps (c : Run) : KeepsWf (labelTests c) := by
  intro s hs
  unfold labelTests
  dsimp only
  split
  · split_ifs
    · exact endRun_keeps _ _ _ s hs
    · exact endRun_keeps _ _ _ s hs
    · exact hs
    · exact hs
  · split
    · exact endRun_keeps _ _ _ s hs
    · exact hs
  · split
    · exact endRun_keeps _ _ _ s hs
    · exact hs
  · exact hs

theorem runTests_keeps : KeepsWf runTests := by
  intro s hs
  unfold runTests
  split
  · exact hs
  · split
    · exact labelTests_keeps _ s hs
    · exact clockTests_keeps _ s hs

theorem handRecord_keeps (c : Run) : KeepsWf (handRecord c) := fun s hs =>
  schRecord_keeps _ _ (by simpa using hs)

theorem beginPreroll_keeps (k : Fin 16) (start : Nat) : KeepsWf (beginPreroll k start) := by
  intro s hs
  unfold beginPreroll
  dsimp only
  have h : (wake .timer (cancelOff (takeTuner (takeTransport (postProgramme k .none .none
      (setEntry k { entry k s with state := .preroll, wait := .none }
        (setRun (freshRun k start (stopOf s.sch.prog k start) (start ≤ clockNow s)) s))))))).trc.Wf := by
    simp only [wake_trc, cancelOff_trc, takeTuner_trc]
    exact takeTransport_keeps _ (by simpa using hs)
  split
  · exact endRun_keeps _ _ _ _ h
  · exact runTests_keeps _ (handRecord_keeps _ _ (by simpa using h))

theorem tryEntry_keeps (k : Fin 16) (busy : Bool) : KeepsWf fun s => (tryEntry k busy s).1 := by
  intro s hs
  unfold tryEntry
  dsimp only
  split_ifs
  · simpa using hs
  · exact hs
  · simpa using hs
  · simpa using hs
  · exact beginPreroll_keeps _ _ _ hs

theorem checkDue_keeps (n : Nat) : KeepsWf (checkDue n) := by
  induction n with
  | zero => exact fun _ hs => hs
  | succ n ih =>
    intro s hs
    unfold checkDue
    dsimp only
    have hw : (if transportBusy s then setWait .transport (dueEntries s) s else s).trc.Wf := by
      split
      · simpa using hs
      · exact hs
    generalize (if transportBusy s then setWait .transport (dueEntries s) s else s) = u at hw ⊢
    split
    · exact hs
    · split
      · simpa using hs
      · split
        · simpa using hs
        · split
          · simpa using hs
          · split
            · exact hw
            · split
              · exact ih _ (tryEntry_keeps _ _ _ hw)
              · exact tryEntry_keeps _ _ _ hw

theorem prerollCheck_keeps : KeepsWf prerollCheck := by
  intro s hs
  have h := runTests_keeps s hs
  unfold prerollCheck
  dsimp only
  split
  · exact h
  · exact checkDue_keeps _ _ (by simpa using h)

theorem labelAction_keeps (c : Run) (status : Nat) : KeepsWf (labelAction c status) := by
  intro s hs
  unfold labelAction
  dsimp only
  split
  · exact hs
  · exact hs
  · exact endWell_keeps s hs
  · exact endWell_keeps s hs
  · simpa using schPause_keeps s hs
  · simpa using schPause_keeps s hs
  · simpa using schResume_keeps _ s hs
  · exact hs

theorem labelPacket_keeps (net : Nat) (label : List Byte) (status : Nat) : KeepsWf (labelPacket net label status) := by
  intro s hs
  unfold labelPacket
  split
  · exact hs
  · dsimp only
    split_ifs
    · exact labelAction_keeps _ _ _ hs
    · exact hs
    · exact hs

theorem absenceEnd_keeps (c : Run) : KeepsWf (absenceEnd c) := by
  intro s hs
  have h : (fallBack c s).trc.Wf := by simpa using hs
  unfold absenceEnd
  dsimp only
  split
  · split <;> exact h
  · exact endRun_keeps _ _ _ _ h

theorem lossEnd_keeps (c : Run) : KeepsWf (lossEnd c) := by
  intro s hs
  have h : (fallBack c s).trc.Wf := by simpa using hs
  unfold lossEnd
  dsimp only
  split
  · split
    · exact h
    · simpa using schResume_keeps false _ h
    · exact h
  · split
    · exact endRun_keeps _ _ _ _ h
    · exact endWell_keeps _ h

theorem labelTick_keeps : KeepsWf labelTick := by
  intro s hs
  unfold labelTick
  split
  · exact hs
  · dsimp only
    split_ifs
    · exact lossEnd_keeps _ _ hs
    · exact hs
    · exact absenceEnd_keeps _ _ hs
    · exact hs
    · exact hs

theorem requestAbort_keeps : KeepsWf fun s => (requestAbort s).1 := by
  intro s hs
  unfold requestAbort
  dsimp only
  split
  · exact endRun_keeps _ _ _ s hs
  · exact hs

theorem limitReport_keeps : KeepsWf limitReport := by
  intro s hs
  unfold limitReport
  split
  · exact hs
  · split <;> exact endRun_keeps _ _ _ s hs

theorem testAutoOff_keeps : KeepsWf testAutoOff := by
  intro s hs
  unfold testAutoOff
  split
  · exact autoOff_keeps s hs
  · exact hs

theorem takeNotice_keeps (n : Notice) : KeepsWf (takeNotice n) := by
  intro s hs
  cases n with
  | transport st => simpa [takeNotice] using hs
  | fault code => exact endRun_keeps _ _ _ s hs
  | tapeLimit => exact limitReport_keeps s hs
  | override_ => exact endRun_keeps _ _ _ s hs
  | step n => simpa [takeNotice] using hs
  | runTests => exact runTests_keeps s hs
  | check => exact prerollCheck_keeps s hs
  | autoOff => exact testAutoOff_keeps s hs
  | mainLost => exact endRun_keeps _ _ _ s hs

theorem settle_keeps (n : Nat) : KeepsWf (settle n) := by
  induction n with
  | zero => exact fun _ hs => hs
  | succ n ih =>
    intro s hs
    unfold settle
    split
    · exact ih _ (takeNotice_keeps _ _ hs)
    · split
      · exact ih _ (startRun_keeps s hs)
      · exact hs

theorem secondsEvent_keeps : KeepsWf secondsEvent := fun s hs =>
  labelTick_keeps _ (by simpa using hs)

/-! ### Events and host cycles -/

theorem event_keeps {f : State → State} (hf : KeepsWf f) : KeepsWf (event f) := by
  intro s hs
  unfold event
  split
  · rw [finish_trc]; exact settle_keeps _ _ (hf s hs)
  · exact hs

theorem holdCycle_keeps (n : Nat) : KeepsWf (holdCycle n) := by
  induction n with
  | zero => exact fun _ hs => hs
  | succ n ih =>
    intro s hs
    unfold holdCycle
    split
    · exact ih _ (event_keeps (.of_trc drain_trc) s hs)
    · exact hs

theorem holdOrServe_keeps : KeepsWf holdOrServe := by
  intro s hs
  unfold holdOrServe
  dsimp only
  split_ifs
  · exact hs
  · exact hs
  · exact holdCycle_keeps _ _ hs
  · exact holdCycle_keeps _ s hs

/-- Each command's owner keeps the rules. -/
theorem ownerActs_wf {code : Byte} {s t : State} {a : Answer} (hs : s.trc.Wf) (h : ownerActs code s = some (t, a)) :
    t.trc.Wf := by
  have of {r : State × Answer} (hr : r.1.trc.Wf) (e : some r = some (t, a)) : t.trc.Wf := by cases e; exact hr
  unfold ownerActs at h
  split at h
  · exact of (requestMotion_keeps .play (by decide) _ s hs) h
  · exact of (requestRecord_keeps s hs) h
  · exact of (requestStop_keeps s hs) h
  · exact of (requestPause_keeps s hs) h
  · exact of (requestResume_keeps s hs) h
  · exact of (requestMotion_keeps .ff (by decide) _ s hs) h
  · exact of (requestMotion_keeps .rew (by decide) _ s hs) h
  · exact of (requestMotion_keeps .cue (by decide) _ s hs) h
  · exact of (requestMotion_keeps .review (by decide) _ s hs) h
  · exact of (requestEject_keeps s hs) h
  · exact of (requestIndex_keeps s hs) h
  · exact of (requestGoto_keeps s hs) h
  · exact of (requestReset_keeps s hs) h
  · exact of (requestRecover_keeps s hs) h
  · exact of (by simpa using hs) h
  · exact of (by simpa using hs) h
  · exact of (by simpa using hs) h
  · exact of (by simpa using hs) h
  · exact of (by simpa using hs) h
  · exact of (by simpa using hs) h
  · exact of (by simpa using hs) h
  · exact of (by simpa using hs) h
  · exact of (by simpa using hs) h
  · exact of (by simpa using hs) h
  · exact of (requestAbort_keeps s hs) h
  · exact of (requestPowerOff_keeps s hs) h
  · cases h

theorem request_keeps (code : Byte) : KeepsWf (request code) := by
  intro s hs
  unfold request
  dsimp only
  split
  · simpa using hs
  · rename_i t a h
    have ht := ownerActs_wf hs h
    rw [makeResult_trc]
    refine settle_keeps _ _ ?_
    split
    · simpa using ht
    · exact ht

/-- A host write of the region reaches TRC through COMMAND alone. -/
theorem regionWrite_trc {off : Nat} (h : off ≠ offCommand) (data : Byte) (s : State) :
    (regionWrite off data s).trc = s.trc := by
  unfold regionWrite
  rw [if_neg h]
  simp only [apply_ite State.trc, ite_self, protect_trc, passWrite_trc, takeCell_trc, acknowledge_trc, settingsCycle_trc,
    profileCycle_trc, programmeCycle_trc, presetCycle_trc]

theorem regionWrite_keeps (off : Nat) (data : Byte) : KeepsWf (regionWrite off data) := by
  intro s hs
  by_cases h : off = offCommand
  · subst h
    exact request_keeps _ _ (by rwa [passWrite_trc])
  · rwa [regionWrite_trc h]

/-- A host cycle that is held, if the host runs. -/
theorem holdIfRuns_keeps : KeepsWf fun s => if hostRuns s then holdOrServe s else s := by
  intro s hs
  dsimp only
  split
  · exact holdOrServe_keeps s hs
  · exact hs

theorem hostWrite_keeps (addr : Nat) (data : Byte) : KeepsWf (hostWrite addr data) := by
  intro s hs
  have h := holdIfRuns_keeps s hs
  unfold hostWrite
  dsimp only at h ⊢
  generalize (if hostRuns s then holdOrServe s else s) = u at h ⊢
  split
  · exact h
  · split
    · exact h
    · split
      · exact h
      · exact regionWrite_keeps _ _ _ h

theorem hostRead_keeps (addr : Nat) : KeepsWf (hostRead addr) := by
  intro s hs
  have h := holdIfRuns_keeps s hs
  unfold hostRead
  dsimp only at h ⊢
  generalize (if hostRuns s then holdOrServe s else s) = u at h ⊢
  split
  · exact h
  · split
    · exact h
    · split
      · exact h
      · split
        · exact h
        · split <;> exact h

end Sys2Proof.Machine
end

section
/-! LEMMA. R16, R22: the standby start, every instruction and the idle tick keep the rules of TRC; so does every step. -/

namespace Sys2Proof.Machine

/-! ### The standby start -/

@[simp] theorem loadCells_trc (s : State) : (loadCells s).trc = s.trc := rfl
@[simp] theorem loadSettings_trc (m : Memory) (s : State) : (loadSettings m s).trc = s.trc := rfl

@[simp] theorem correctOffsets_trc (ns : List Nat) (s : State) : (correctOffsets ns s).trc = s.trc := by
  induction ns generalizing s with
  | nil => rfl
  | cons n rest ih => unfold correctOffsets; split <;> simp [ih]

@[simp] theorem loadPresets_trc (s : State) : (loadPresets s).trc = s.trc := by simp [loadPresets]

@[simp] theorem loadOne_trc (k : Fin 16) (s : State) : (loadOne k s).trc = s.trc := by
  unfold loadOne; dsimp only; split <;> simp

@[simp] theorem loadEntries_trc (ks : List (Fin 16)) (s : State) : (loadEntries ks s).trc = s.trc := by
  induction ks generalizing s with
  | nil => rfl
  | cons k rest ih => simp [loadEntries, ih]

@[simp] theorem loadSchedule_trc (s : State) : (loadSchedule s).trc = s.trc := by simp [loadSchedule]
@[simp] theorem validate_trc (s : State) : (validate s).trc = s.trc := by simp [validate]

@[simp] theorem offerInit_trc (gs : List WriteGroup) (s : State) : (offerInit gs s).trc = s.trc := by
  induction gs generalizing s with
  | nil => rfl
  | cons g rest ih => unfold offerInit; split <;> simp [ih]

@[simp] theorem initialise_trc (s : State) : (initialise s).trc = s.trc := by simp [initialise]

@[simp] theorem dropDrafts_trc (ks : List (Fin 16)) (s : State) : (dropDrafts ks s).trc = s.trc := by
  induction ks generalizing s with
  | nil => rfl
  | cons k rest ih => unfold dropDrafts; split <;> simp [ih]

@[simp] theorem resolveRetained_trc (s : State) : (resolveRetained s).trc = s.trc := by
  unfold resolveRetained; dsimp only; split <;> simp

@[simp] theorem resolveOne_trc (k : Fin 16) (s : State) : (resolveOne k s).trc = s.trc := by
  unfold resolveOne; dsimp only; split <;> simp

@[simp] theorem resolveAll_trc (ks : List (Fin 16)) (s : State) : (resolveAll ks s).trc = s.trc := by
  induction ks generalizing s with
  | nil => rfl
  | cons k rest ih => simp [resolveAll, ih]

@[simp] theorem supplyOff_trc (k : Fin 16) (s : State) : (supplyOff k s).trc = s.trc := by
  unfold supplyOff
  dsimp only
  split
  · simp only [apply_ite State.trc, missNext_trc, ite_self]
  · rfl

@[simp] theorem supplyOffAll_trc (ks : List (Fin 16)) (s : State) : (supplyOffAll ks s).trc = s.trc := by
  induction ks generalizing s with
  | nil => rfl
  | cons k rest ih => simp [supplyOffAll, ih]

@[simp] theorem rebuild_trc (s : State) : (rebuild s).trc = s.trc := by simp [rebuild]

@[simp] theorem validateAndRebuild_trc (s : State) : (validateAndRebuild s).trc = s.trc := by
  unfold validateAndRebuild; split <;> simp

/-- R1: TRC starts in NO_CASSETTE, UNTHREADED or UNTHREADING, with nothing written and no fault. -/
theorem trcAt_wf (now : Nat) (l : PinLevels) : (trcAt now l).Wf := by
  unfold trcAt
  dsimp only
  split
  · split <;> exact ⟨by simp [Trc.start], by simp [Trc.start], by simp [Trc.start]⟩
  · exact ⟨by simp [Trc.start], by simp [Trc.start], by simp⟩

theorem trcStart_wf : Trc.start.Wf := ⟨by decide, by decide, by decide⟩

theorem standbyStart_keeps (l : PinLevels) : KeepsWf (standbyStart l) := by
  intro s hs
  unfold standbyStart
  split
  · rw [finish_trc]
    refine settle_keeps _ _ ?_
    rw [validateAndRebuild_trc]
    exact trcAt_wf s.now l
  · exact hs

theorem supplyLoss_keeps (byteInProgress : Bool) : KeepsWf (supplyLoss byteInProgress) := by
  intro s hs
  unfold supplyLoss
  dsimp only
  split
  · exact trcStart_wf
  · exact hs

theorem backupReset_keeps : KeepsWf backupReset := by
  intro s hs; unfold backupReset; split <;> exact hs

/-! ### The commands -/

/-- An outcome's next state keeps the rules of TRC. -/
def OutcomeWf (o : Host.Outcome State Fault Refusal) : Prop := ∀ t, o = .next t → t.trc.Wf

theorem OutcomeWf.next {t : State} (h : t.trc.Wf) : OutcomeWf (.next t) := by
  intro u e; cases e; exact h

/-- An operation of two branches. -/
theorem ite_wf {c : Prop} [Decidable c] {a b : State} (ha : c → a.trc.Wf) (hb : ¬ c → b.trc.Wf) :
    (if c then a else b).trc.Wf := by
  split
  · exact ha ‹_›
  · exact hb ‹_›

theorem command_wf {f : State → State} {s : State} (hf : KeepsWf f) (hs : s.trc.Wf) : OutcomeWf (command f s) :=
  .next (event_keeps hf s hs)

theorem hostCycle_wf {f : State → State} {s : State} (hf : KeepsWf f) (hs : s.trc.Wf) : OutcomeWf (hostCycle f s) := by
  refine .next ?_
  split
  · exact event_keeps hf s hs
  · exact hs

theorem hostWriteAt_keeps (off : Nat) (data : Byte) : KeepsWf (hostWriteAt off data) := fun s hs =>
  hostWrite_keeps _ data s hs

/-- A host write of the region, the form of every request and of the host's own writes. -/
theorem hostWriteAt_wf {s : State} (off : Nat) (data : Byte) (hs : s.trc.Wf) :
    OutcomeWf (hostCycle (hostWriteAt off data) s) := hostCycle_wf (hostWriteAt_keeps off data) hs

/-- A fault latched at the end of a timer. -/
theorem latchFault_reachLimit_wf {s : State} (hs : s.trc.Wf) (code : FaultCode) (detail since limit : Nat) :
    (latchFault code detail (reachLimit since limit s)).trc.Wf :=
  latchFault_keeps _ _ (reachLimit since limit s) hs

/-- R21: what TRC makes of a stall. -/
theorem stallReported_keeps (reel : ReelName) : KeepsWf (stallReported reel) := by
  intro s hs
  unfold stallReported
  split
  · exact hs
  · split
    · exact latchFault_keeps _ _ s hs
    · exact tapeLimit_wf (hs.noFault_of_motion ‹_›) _ _

theorem watchInterval_keeps (interval : Option Nat) : KeepsWf (watchInterval interval) := by
  intro s hs
  unfold watchInterval
  split
  · exact hs
  · split
    · dsimp only
      split
      · exact hs
      · exact capReported_keeps _ _ (by simpa using hs)
    · exact hs

/-- R47, R57: a read pulse is handed to TRC as a changed counter, and as a mark. -/
theorem takePulse_keeps (dir : Dir) (rise high : Nat) : KeepsWf (takePulse dir rise high) := by
  intro s hs
  have hcounter : ∀ (c : Int) (u : State), u.trc.Wf → (if u.pos.counter = c then u else counterChanged u).trc.Wf :=
    fun c u hu => ite_wf (fun _ => hu) fun _ => counterChanged_keeps u hu
  unfold takePulse
  dsimp only
  split
  · exact markReported_keeps _ _ (hcounter _ _ (watchInterval_keeps _ (useFree ((s.setPos _).setSrv _)) hs))
  · exact hcounter _ _ (watchInterval_keeps _ (useFree ((s.setPos _).setSrv _)) hs)

theorem labelTake_keeps : KeepsWf labelTake := by
  intro s hs
  unfold labelTake
  dsimp only
  split
  · exact hs
  · split
    · exact labelPacket_keeps _ _ _ (s.setLds _) hs
    · exact hs

theorem secondAdvance_keeps : KeepsWf secondAdvance := by
  intro s hs
  exact ite_wf (fun _ => event_keeps (fun s hs => secondsEvent_keeps (s.setClk s.clk.second) hs) s hs) fun _ => hs

theorem keySamples_keeps (samples : List (BitVec 4)) : KeepsWf (keySamples samples) := by
  induction samples with
  | nil => exact fun _ hs => hs
  | cons k rest ih => exact fun s hs => ih _ (event_keeps (keySample_keeps k) s hs)

section
variable {s : State} (hs : s.trc.Wf)
include hs

theorem execCassetteInsertion_wf (tab : Bool) : OutcomeWf (execCassetteInsertion tab s) := by
  refine command_wf (fun s hs => ?_) hs
  have h := insertCassette_keeps tab (s.setPins { s.pins with cassSw := true, tabSw := tab }) hs
  dsimp only
  split
  · rwa [wake_trc]
  · exact h

theorem execThreadingComplete_wf (closed : Bool) : OutcomeWf (execThreadingComplete closed s) := by
  refine command_wf (fun s hs => ?_) hs
  refine ite_wf (fun hc => ?_) fun _ => hs
  exact threadingDone_wf (s := s.setPins _) hs (by simp_all)

theorem execUnthreadingComplete_wf (closed : Bool) : OutcomeWf (execUnthreadingComplete closed s) := by
  refine command_wf (fun s hs => ?_) hs
  exact ite_wf (fun _ => unthreadedSwitch_keeps (s.setPins _) hs) fun _ => hs

theorem execThreadTimeout_wf : OutcomeWf (execThreadTimeout s) := by
  refine command_wf (fun s hs => ?_) hs
  split
  · exact threadFailure_wf (s := reachLimit _ _ s) hs ‹_›
  · exact hs

theorem execUnthreadTimeout_wf : OutcomeWf (execUnthreadTimeout s) := by
  refine command_wf (fun s hs => ?_) hs
  split
  · exact latchFault_reachLimit_wf hs _ _ _ _
  · exact hs

theorem execEjectTimeout_wf : OutcomeWf (execEjectTimeout s) := by
  refine command_wf (fun s hs => ?_) hs
  split
  · exact latchFault_reachLimit_wf hs _ _ _ _
  · exact hs

theorem execIdleTimeout_wf : OutcomeWf (execIdleTimeout s) := by
  refine command_wf (fun s hs => ?_) hs
  split
  · split
    · exact beginUnthread_wf (s := reachLimit _ _ s) (hs.free_of (st := .stop) (by simp_all)).2 _ _
    · exact hs
  · exact hs

theorem execPauseTimeout_wf : OutcomeWf (execPauseTimeout s) := by
  refine command_wf (fun s hs => ?_) hs
  split
  · rename_i t _
    split
    · have hf : (stopWriting (reachLimit t Config.idleLimit s)).trc.Free :=
        ⟨by simp, by simpa using hs.noFault (by rintro e; simp_all)⟩
      simpa using hf.enterCore_wf (st := .stop) false
    · exact hs
  · exact hs

theorem execLockAllowanceExpiry_wf (motor : LockMotor) : OutcomeWf (execLockAllowanceExpiry motor s) := by
  refine command_wf (fun s hs => ?_) hs
  cases motor <;> dsimp only <;> split
  · exact latchFault_reachLimit_wf hs _ _ _ _
  · exact hs
  · exact latchFault_reachLimit_wf hs _ _ _ _
  · exact hs

theorem execTapeLimit_wf (which : TapeEnd) (active : Bool) : OutcomeWf (execTapeLimit which active s) := by
  refine command_wf (fun s hs => ?_) hs
  cases which with
  | ending =>
    refine ite_wf (fun hc => ?_) fun _ => hs
    refine tapeLimit_wf ?_ _ _
    exact hs.noFault_of_motion (d := .forward) (by simp_all)
  | beginning =>
    refine ite_wf (fun hc => ?_) fun _ => hs
    refine tapeLimit_wf ?_ _ _
    exact hs.noFault_of_motion (d := .backward) (by simp_all)

theorem execMotorOc_wf (motor : Fin 4) (active : Bool) : OutcomeWf (execMotorOc motor active s) := by
  refine command_wf (fun s hs => ?_) hs
  dsimp only
  split
  · split
    · exact threadFailure_wf (s := s.setPins _) hs (by simp_all)
    · exact latchFault_keeps _ _ (s.setPins _) hs
  · exact hs

theorem execThermal_wf (active : Bool) : OutcomeWf (execThermal active s) := by
  refine command_wf (fun s hs => ?_) hs
  dsimp only
  split
  · exact latchFault_keeps _ _ (s.setPins _) hs
  · exact hs

theorem execMainGoodFall_wf : OutcomeWf (execMainGoodFall s) := by
  refine command_wf (fun s hs => ite_wf (fun _ => ?_) fun _ => hs) hs
  have h : ∀ (b : Bool) (u : State), u.trc.Wf →
      (tunerRailLost (stopDrumAllowance (if b then transportRailLost u else u))).trc.Wf := fun b u hu => by
    rw [tunerRailLost_trc]
    exact stopDrumAllowance_keeps _ (ite_wf (fun _ => transportRailLost_keeps u hu) fun _ => hu)
  refine ite_wf (fun _ => ?_) fun _ => h _ _ hs
  rw [railLost_trc]
  exact h _ _ hs

theorem execMainGoodRise_wf : OutcomeWf (execMainGoodRise s) := by
  refine command_wf (fun s hs => ?_) hs
  dsimp only
  split
  · exact hs
  · have h : (tunerRailGood (transportRailGood
        ((s.setPins { s.pins with mainGood := true }).setSrv (s.srv.powerUp s.now)))).trc.Wf := by
      rw [tunerRailGood_trc]
      exact transportRailGood_keeps ((s.setPins _).setSrv _) hs
    split <;> exact h

theorem execRailTimeout_wf : OutcomeWf (execRailTimeout s) := by
  refine command_wf (fun s hs => ?_) hs
  split
  · split
    · rw [railLost_trc]; exact hs
    · exact hs
  · exact hs

theorem execHostResetRelease_wf : OutcomeWf (execHostResetRelease s) := by
  refine command_wf (fun s hs => ?_) hs
  dsimp only
  split
  · rw [releaseHost_trc]; exact hs
  · exact hs

theorem execDrumFgPulse_wf (at_ : Nat) : OutcomeWf (execDrumFgPulse at_ s) := by
  refine command_wf (fun s hs => ?_) hs
  dsimp only
  split
  · exact drumReported_keeps _ ((reachTime at_ s).setSrv _) hs
  · exact hs

theorem execDrumFgGap_wf : OutcomeWf (execDrumFgGap s) := by
  refine command_wf (fun s hs => ?_) hs
  dsimp only
  split
  · exact drumReported_keeps _ ((reachLimit _ _ s).setSrv _) hs
  · exact hs

theorem execCapstanFgPulse_wf (at_ : Nat) : OutcomeWf (execCapstanFgPulse at_ s) := by
  refine command_wf (fun s hs => ?_) hs
  dsimp only
  split
  · split
    · exact runDone_keeps _ (capReported_keeps _ ((reachTime at_ s).setSrv _) hs)
    · exact capReported_keeps _ ((reachTime at_ s).setSrv _) hs
  · exact hs

theorem execCapstanFgGap_wf : OutcomeWf (execCapstanFgGap s) := by
  refine command_wf (fun s hs => ?_) hs
  dsimp only
  split
  · exact capReported_keeps _ ((reachLimit _ _ s).setSrv _) hs
  · exact hs

theorem execDrumPgPulse_wf (at_ : Nat) : OutcomeWf (execDrumPgPulse at_ s) := by
  refine command_wf (fun s hs => ?_) hs
  dsimp only
  split
  · exact drumReported_keeps _ (useFree ((reachTime at_ s).setSrv _)) hs
  · exact hs

theorem execFrameReferencePulse_wf : OutcomeWf (execFrameReferencePulse s) := by
  refine command_wf (fun s hs => ?_) hs
  dsimp only
  split
  · rw [writeFrame_trc]; exact hs
  · exact hs

theorem execFrameReferenceTimeout_wf : OutcomeWf (execFrameReferenceTimeout s) := by
  refine command_wf (fun s hs => ?_) hs
  dsimp only
  split
  · split <;> exact hs
  · exact hs

theorem execReelMark_wf (reel : ReelName) (at_ : Nat) : OutcomeWf (execReelMark reel at_ s) := by
  refine command_wf (fun s hs => ?_) hs
  dsimp only
  split <;> exact hs

theorem execReelStall_wf (reel : ReelName) : OutcomeWf (execReelStall reel s) := by
  refine command_wf (fun s hs => ?_) hs
  dsimp only
  split
  · exact stallReported_keeps _ ((reachTime _ s).setSrv _) hs
  · exact hs

theorem execCtlReadPulse_wf (rise high : Nat) : OutcomeWf (execCtlReadPulse rise high s) := by
  refine command_wf (fun s hs => ?_) hs
  dsimp only
  split
  · exact takePulse_keeps _ _ _ (reachTime _ s) hs
  · exact hs

theorem execRunDownEnd_wf : OutcomeWf (execRunDownEnd s) := by
  refine command_wf (fun s hs => ?_) hs
  dsimp only
  split <;> exact hs

theorem execExtrapolationStart_wf : OutcomeWf (execExtrapolationStart s) := by
  refine command_wf (fun s hs => ?_) hs
  dsimp only
  split
  · exact counterChanged_keeps ((reachLimit _ _ s).setPos _) hs
  · exact hs

theorem execExtrapolatedFrame_wf : OutcomeWf (execExtrapolatedFrame s) := by
  refine command_wf (fun s hs => ?_) hs
  dsimp only
  split
  · exact counterChanged_keeps ((reachLimit _ _ s).setPos _) hs
  · exact hs

theorem execUnsureSet_wf : OutcomeWf (execUnsureSet s) := by
  refine command_wf (fun s hs => ?_) hs
  dsimp only
  split <;> exact hs

theorem execClaimExpiry_wf : OutcomeWf (execClaimExpiry s) := by
  refine command_wf (fun s hs => ?_) hs
  split
  · exact ite_wf (fun _ => by rwa [expireClaim_trc]) fun _ => hs
  · exact hs

theorem execOccurrenceStartDue_wf : OutcomeWf (execOccurrenceStartDue s) := by
  refine command_wf (fun s hs => ?_) hs
  split
  · exact ite_wf (fun _ => runTests_keeps s hs) fun _ => hs
  · exact hs

theorem execOccurrenceStopReached_wf : OutcomeWf (execOccurrenceStopReached s) := by
  refine command_wf (fun s hs => ?_) hs
  split
  · exact ite_wf (fun _ => clockTests_keeps _ s hs) fun _ => hs
  · exact hs

theorem execAbsenceTimeout_wf : OutcomeWf (execAbsenceTimeout s) := by
  refine command_wf (fun s hs => ?_) hs
  split
  · exact ite_wf (fun _ => absenceEnd_keeps _ s hs) fun _ => hs
  · exact hs

theorem execLabelLossTimeout_wf : OutcomeWf (execLabelLossTimeout s) := by
  refine command_wf (fun s hs => ?_) hs
  split
  · exact ite_wf (fun _ => lossEnd_keeps _ s hs) fun _ => hs
  · exact hs

theorem execLabelOverrunLimit_wf : OutcomeWf (execLabelOverrunLimit s) := by
  refine command_wf (fun s hs => ?_) hs
  split
  · exact ite_wf (fun _ => labelTests_keeps _ s hs) fun _ => hs
  · exact hs

/-- Every command keeps the rules of TRC. -/
theorem exec_wf (i : Instr) : OutcomeWf (exec i s) := by
  cases i with
  | standbyStart levels => exact .next (standbyStart_keeps levels s hs)
  | standbySupplyLoss b => exact .next (supplyLoss_keeps b s hs)
  | backupReset => exact .next (backupReset_keeps s hs)
  | cassetteInsertion tab => exact execCassetteInsertion_wf hs tab
  | cassetteRemoval => exact command_wf (fun s hs => removeCassette_keeps (s.setPins _) hs) hs
  | play | record | stop | pause | resume | ff | rew | cue | review | eject | indexSearch | goto | counterReset
  | recover => exact hostWriteAt_wf _ _ hs
  | threadingComplete closed => exact execThreadingComplete_wf hs closed
  | unthreadingComplete closed => exact execUnthreadingComplete_wf hs closed
  | threadTimeout => exact execThreadTimeout_wf hs
  | unthreadTimeout => exact execUnthreadTimeout_wf hs
  | ejectTimeout => exact execEjectTimeout_wf hs
  | idleTimeout => exact execIdleTimeout_wf hs
  | pauseTimeout => exact execPauseTimeout_wf hs
  | lockAllowanceExpiry motor => exact execLockAllowanceExpiry_wf hs motor
  | tapeLimit which active => exact execTapeLimit_wf hs which active
  | motorOc motor active => exact execMotorOc_wf hs motor active
  | thermal active => exact execThermal_wf hs active
  | searchCounterTimeout => exact command_wf searchTimeout_keeps hs
  | mainGoodFall => exact execMainGoodFall_wf hs
  | mainGoodRise => exact execMainGoodRise_wf hs
  | railTimeout => exact execRailTimeout_wf hs
  | hostResetRelease => exact execHostResetRelease_wf hs
  | drumFgPulse at_ => exact execDrumFgPulse_wf hs at_
  | drumFgGap => exact execDrumFgGap_wf hs
  | capstanFgPulse at_ => exact execCapstanFgPulse_wf hs at_
  | capstanFgGap => exact execCapstanFgGap_wf hs
  | drumPgPulse at_ => exact execDrumPgPulse_wf hs at_
  | frameReferencePulse => exact execFrameReferencePulse_wf hs
  | frameReferenceTimeout => exact execFrameReferenceTimeout_wf hs
  | reelMark reel at_ => exact execReelMark_wf hs reel at_
  | reelStall reel => exact execReelStall_wf hs reel
  | ctlReadPulse rise high => exact execCtlReadPulse_wf hs rise high
  | runDownEnd => exact execRunDownEnd_wf hs
  | extrapolationStart => exact execExtrapolationStart_wf hs
  | extrapolatedFrame => exact execExtrapolatedFrame_wf hs
  | unsureSet => exact execUnsureSet_wf hs
  | profileWrite off data => exact hostWriteAt_wf _ _ hs
  | tune | scan | scanStop | store | fine => exact hostWriteAt_wf _ _ hs
  | synthWordEnd => exact command_wf (.of_trc wordEnd_trc) hs
  | settleEnd r => exact command_wf (.of_trc (settleEnd_trc r)) hs
  | afcSample r => exact command_wf (.of_trc (afcEvent_trc r)) hs
  | trackingSample r => exact command_wf (.of_trc (trackEvent_trc r)) hs
  | noSignalWatch r => exact command_wf (.of_trc (watchEvent_trc r)) hs
  | scanStepTest r => exact command_wf (.of_trc (stepTest_trc r)) hs
  | dwellTimeout => exact command_wf (.of_trc dwellEnd_trc) hs
  | presetWrite off data => exact hostWriteAt_wf _ _ hs
  | fieldStart at_ => exact command_wf (.of_trc (fieldStart_trc at_)) hs
  | lineStart => exact command_wf (.of_trc fun _ => rfl) hs
  | linePacketComplete bytes => exact command_wf (.of_trc fun _ => rfl) hs
  | timeTake => exact command_wf (.of_trc timeTake_trc) hs
  | labelTake => exact command_wf labelTake_keeps hs
  | nameTake => exact command_wf (.of_trc nameTake_trc) hs
  | secondAdvance => exact .next (secondAdvance_keeps s hs)
  | setTime | claim | commit | discard | delete | abort => exact hostWriteAt_wf _ _ hs
  | programmeWrite off data => exact hostWriteAt_wf _ _ hs
  | claimExpiry => exact execClaimExpiry_wf hs
  | occurrenceStart => exact command_wf startRun_keeps hs
  | occurrenceStartDue => exact execOccurrenceStartDue_wf hs
  | occurrenceStopReached => exact execOccurrenceStopReached_wf hs
  | absenceTimeout => exact execAbsenceTimeout_wf hs
  | labelLossTimeout => exact execLabelLossTimeout_wf hs
  | labelOverrunLimit => exact execLabelOverrunLimit_wf hs
  | liveRead addr => exact hostCycle_wf (hostRead_keeps _) hs
  | partOwnedWrite off data => exact hostWriteAt_wf _ _ hs
  | hostWrite addr data => exact hostCycle_wf (hostWrite_keeps _ _) hs
  | settingsWrite off data => exact hostWriteAt_wf _ _ hs
  | unknownCommand code => exact hostWriteAt_wf _ _ hs
  | eventAck seq => exact hostWriteAt_wf _ _ hs
  | postedWriteDrain => exact command_wf (.of_trc drain_trc) hs
  | slotGrant => exact command_wf (.of_trc grantSlots_trc) hs
  | powerOff => exact hostWriteAt_wf _ _ hs
  | powerOffComplete => exact command_wf (.of_trc completeOff_trc) hs
  | keyPress samples => exact .next (keySamples_keeps samples s hs)
  | framingCodeFound bits => exact command_wf (.of_trc fun _ => rfl) hs

end

theorem tick_keeps : KeepsWf tick := by
  intro s hs
  have hp : (pwmPeriod (s.setNow (s.now + (crystalMicros (s.clk.sub + 1) - crystalMicros s.clk.sub)))).trc.Wf :=
    ite_wf (fun _ => hs) fun _ => hs
  refine ite_wf (fun _ => hp) fun _ => ?_
  exact secondAdvance_keeps _ hp

end Sys2Proof.Machine
end

section
open Sys2Proof Sys2Proof.Machine

/-- Settles O9: every operation of TRC enters a state with nothing written and no fault, but for RECORD and FAULT, and every
other operation leaves TRC alone. -/
theorem everyStepKeepsTransportRules : Obligations.EveryStepKeepsTransportRules := by
  intro s t hs ht
  rw [transportWf_iff] at hs ⊢
  unfold step at ht
  split at ht
  · cases ht
    exact tick_keeps s hs
  · rename_i c rest _
    exact exec_wf (s := s.setPending rest) hs c t ht

end

section
/-! SUPPORT. What an event leaves, said by its own work: the events it posted, the checks it asked for, and the parts it
touched. The statements about commands and requests with nothing else at work end through `Worked.posted`, `Worked.quiet`
and `Worked.answered`. -/

namespace Sys2Proof.Machine

/-! ### Checks that were asked for -/

theorem nextNotice_checks {n : Notice} {rest : List Notice} (h : ∀ x ∈ n :: rest, x = .check) :
    nextNotice (n :: rest) = some (.check, rest) := by
  have hf : (n :: rest).find? Notice.isReport = none := by
    rw [List.find?_eq_none]
    intro x hx
    rw [h x hx]
    decide
  unfold nextNotice
  rw [hf, h n List.mem_cons_self]

/-- With no run and nothing in the timer queue, the checks that were asked for do nothing. -/
theorem settle_checks (n : Nat) {s : State} (h : ∀ x ∈ s.notices, x = .check) (hr : s.sch.run = none)
    (hq : s.sch.queue = []) : settle n s = s.setNotices (s.notices.drop n) := by
  induction n generalizing s with
  | zero => rfl
  | succ n ih =>
    cases hn : s.notices with
    | nil =>
      rw [settle_idle _ hn hr, List.drop_nil, ← hn]
      rfl
    | cons x rest =>
      rw [hn] at h
      unfold settle
      rw [hn, nextNotice_checks h]
      dsimp only [takeNotice]
      rw [prerollCheck_idle (by simpa using hr) (by simpa using hq),
        ih (fun y hy => h y (List.mem_cons_of_mem _ hy)) (by simpa using hr) (by simpa using hq)]
      rfl

/-! ### Frames of the plain updates -/

theorem SameBut.with {ps : List Part} {s t u : State} (h : SameBut ps s t) (h' : SameBut ps t u) : SameBut ps s u :=
  (h.trans h').mono fun _ hp => (List.mem_append.mp hp).elim id id

theorem setTrc_frame (s : State) (x : Trc) : SameBut [.trc] s (s.setTrc x) := by
  intro p hp; cases p <;> simp_all [Part.same]
theorem setSrv_frame (s : State) (x : Srv) : SameBut [.srv] s (s.setSrv x) := by
  intro p hp; cases p <;> simp_all [Part.same]
theorem setPos_frame (s : State) (x : Pos) : SameBut [.pos] s (s.setPos x) := by
  intro p hp; cases p <;> simp_all [Part.same]
theorem setPins_frame (s : State) (x : Pins) : SameBut [.pins] s (s.setPins x) := by
  intro p hp; cases p <;> simp_all [Part.same]
theorem setPwr_frame (s : State) (x : Pwr) : SameBut [.pwr] s (s.setPwr x) := by
  intro p hp; cases p <;> simp_all [Part.same]
theorem reachTime_frame (t : Nat) (s : State) : SameBut [.now] s (reachTime t s) := by
  intro p hp; cases p <;> simp_all [Part.same, reachTime]

/-! ### The own work of an event -/

/-- The parts that a `Worked` may list: none that it accounts for itself. -/
@[reducible] def OwnParts (ps : List Part) : Prop := .rqu ∉ ps ∧ .mpath ∉ ps ∧ .untold ∉ ps ∧ .clk ∉ ps ∧ .sch ∉ ps

/-- How far an event's own work has come: it has posted `evs`, asked for checks alone, and touched only `ps` beside. -/
structure Worked (ps : List Part) (evs : List Event) (s u : State) : Prop where
  frame : SameBut ([.untold, .rqu, .mpath] ++ ps) s u
  rqu : u.rqu = { s.rqu with count := s.rqu.count + evs.length, newest := evs.getLastD s.rqu.newest }
  mpath : u.mpath = { s.mpath with queue := s.mpath.queue ++ eventGroups s evs }
  checks : ∀ n ∈ u.notices, n = .check
  taken : u.taken = []

section
variable {ps : List Part} {evs : List Event} {s u : State}

theorem Worked.start (ps : List Part) (hn : s.notices = []) (ht : s.taken = []) : Worked ps [] s s where
  frame := .refl _ s
  rqu := rfl
  mpath := by simp [eventGroups]
  checks := by simp [hn]
  taken := ht

/-- Work on the listed parts alone. -/
theorem Worked.on {qs : List Part} {t : State} (h : Worked ps evs s u) (hf : SameBut qs u t)
    (hq : ∀ p ∈ qs, p ∈ ps := by decide) (ho : OwnParts ps := by decide) : Worked ps evs s t := by
  obtain ⟨hr, hm, hu, -, -⟩ := ho
  have hf' := hf.mono hq
  have e : t.notices = u.notices ∧ t.taken = u.taken := hf' .untold hu
  exact
    { frame := h.frame.with (hf'.mono fun _ hp => List.mem_append_right _ hp)
      rqu := (hf' .rqu hr).trans h.rqu
      mpath := (hf' .mpath hm).trans h.mpath
      checks := by rw [e.1]; exact h.checks
      taken := e.2.trans h.taken }

/-- A check is asked for. -/
theorem Worked.check (h : Worked ps evs s u) : Worked ps evs s (notify .check u) where
  frame := h.frame.with fun p hp => by cases p <;> simp_all [Part.same, notify]
  rqu := h.rqu
  mpath := h.mpath
  checks := by
    intro n hn
    simp only [notify, State.setNotices_notices, List.mem_append, List.mem_singleton] at hn
    exact hn.elim (h.checks n) id
  taken := h.taken

/-- Under PANEL a state that was entered is reported as a check. -/
theorem Worked.report (h : Worked ps evs s u) (ho : u.trc.owner = .panel) : Worked ps evs s (reportState u) := by
  unfold reportState
  rw [ho]
  exact h.check

/-- R171: an event is posted while the queues have room. -/
theorem Worked.post (h : Worked ps evs s u) (e : Event) (hov : s.rqu.overflow = none)
    (hc : s.rqu.count + evs.length ≤ 30) (hq : s.mpath.queue.length + evs.length < 4)
    (ho : OwnParts ps := by decide) : Worked ps (evs ++ [e]) s (post e u) := by
  obtain ⟨-, -, -, hclk, -⟩ := ho
  have hck : u.clk = s.clk := h.frame .clk (by simpa using hclk)
  have hp := post_room (e := e) (s := u) (by simp [h.rqu, hov]) (by simpa [h.rqu] using hc)
    (by simpa [h.mpath, eventGroups] using hq)
  have hg : eventGroupAt u 0 e = eventGroupAt s evs.length e := by simp [eventGroupAt, h.rqu, hck]
  exact
    { frame := h.frame.with ((post_frame e u).mono (by simp))
      rqu := by simp [hp, h.rqu, Nat.add_assoc]
      mpath := by simp [hp, h.mpath, hg, eventGroups, List.mapIdx_append]
      checks := by rw [(post_frame e u .untold (by decide)).1]; exact h.checks
      taken := by rw [(post_frame e u .untold (by decide)).2]; exact h.taken }

/-- What the work leaves of the schedule. -/
theorem Worked.sch (h : Worked ps evs s u) (ho : OwnParts ps := by decide) : u.sch = s.sch :=
  h.frame .sch (by have := ho.2.2.2.2; simpa using this)

/-! ### The end of the event -/

/-- A command that did its own work ends by the lines alone. -/
theorem Worked.command {f : State → State} (h : Worked ps evs s u) (hf : f s = u) (hi : ScheduleIdle s)
    (hp : s.pwr.power ≠ .backup) (hs : u.pwr.phase ≠ .stopping) (hh : u.pwr.phase ≠ .resetHold)
    (ho : OwnParts ps := by decide) : command f s = .next (ended (hostRuns s) u) := by
  have hr : u.sch.run = none := by rw [h.sch ho]; exact hi.run
  have hq : u.sch.queue = [] := by rw [h.sch ho]; exact hi.queue
  rw [command_powered hp, hf, settle_checks _ h.checks hr hq, finish_steady (by simpa using hs) (by simpa using hh)]
  rfl

/-- What a command posts, and what it leaves alone, when nothing waited to drain. -/
theorem Worked.ended_posted (h : Worked ps evs s u) (hi : ScheduleIdle s) (hd : Drained s)
    (ho : OwnParts ps := by decide) :
    Posted evs s (ended (hostRuns s) u) ∧ SameBut (ps ++ [.mpath, .rqu]) s (ended (hostRuns s) u) := by
  obtain ⟨-, -, hu, -, -⟩ := ho
  refine ⟨posted_of h.rqu (by simp [h.mpath, hd.queue]), ?_⟩
  have hf := ended_frame (ran := hostRuns s) ⟨hi.notices, hi.taken⟩ h.frame (by simp) (by simp)
  exact hf.mono fun p hp => by
    rw [List.cons_append, List.erase_cons_head] at hp
    simp only [List.cons_append, List.nil_append, List.mem_cons, List.mem_append, List.not_mem_nil, or_false] at hp ⊢
    tauto

/-- A command that posted nothing, with the lines standing, leaves the queues and the lines as they were. -/
theorem Worked.ended_quiet {ran : Bool} (h : Worked ps [] s u) (hi : ScheduleIdle s) (hl : LinesStand s)
    (hpw : u.pwr = s.pwr) : SameBut ps s (ended ran u) := by
  have hr : u.rqu = s.rqu := h.rqu
  have hm : u.mpath = s.mpath := by simpa [eventGroups] using h.mpath
  have hlu : LinesStand ((u.setNotices []).setTaken []) := hl.of_same hr hm hpw
  rw [ended, setLines_stand hlu]
  intro p hp
  by_cases hmem : p ∈ [Part.untold, .rqu, .mpath]
  · rcases List.mem_cons.mp hmem with rfl | hmem
    · exact ⟨hi.notices.symm, hi.taken.symm⟩
    · rcases List.mem_cons.mp hmem with rfl | hmem
      · exact hr
      · rw [List.mem_singleton.mp hmem]; exact hm
  · have := h.frame p (by rw [List.mem_append]; tauto)
    cases p <;> simp_all [Part.same]

/-! ### Requests -/

section
variable (code : Byte) (s : State)

@[simp] theorem atRequest_now : (atRequest code s).now = s.now := rfl
@[simp] theorem atRequest_pins : (atRequest code s).pins = s.pins := rfl
@[simp] theorem atRequest_straps : (atRequest code s).straps = s.straps := rfl
@[simp] theorem atRequest_trc : (atRequest code s).trc = s.trc := rfl
@[simp] theorem atRequest_srv : (atRequest code s).srv = s.srv := rfl
@[simp] theorem atRequest_pos : (atRequest code s).pos = s.pos := rfl
@[simp] theorem atRequest_rqu : (atRequest code s).rqu = s.rqu := rfl
@[simp] theorem atRequest_settings : (atRequest code s).mpath.settings = s.mpath.settings := rfl

theorem atRequest_frame : SameBut [.mem, .mpath] s (atRequest code s) := by
  intro p hp; cases p <;> simp_all [Part.same, atRequest, writeRegion, releaseLatch]

end

/-- R168, R169: a request of the host whose owner's work is known: it is answered, and what it posted is handed first. -/
theorem Worked.answered {code : Byte} {a : Answer} (h : Worked ps evs (atRequest code s) u)
    (ha : ownerActs code (atRequest code s) = some (u, a)) (hh : HostRuns s) (hi : ScheduleIdle s)
    (hlen : evs.length < 4 := by simp) (hps : .pwr ∉ ps ∧ .mem ∉ ps := by decide)
    (ho : OwnParts ps := by decide) :
    ∃ t, hostCycle (hostWriteAt offCommand code) s = .next t ∧ t.trc = u.trc ∧ t.srv = u.srv ∧ t.pos = u.pos
      ∧ Answered code evs (eventGroups s evs) a s t ∧ SameBut (ps ++ [.mem, .mpath, .rqu]) s t := by
  obtain ⟨hpw, hme⟩ := hps
  have hpwr : u.pwr = s.pwr := h.frame .pwr (by simpa using hpw)
  have hmem : u.mem = (atRequest code s).mem := h.frame .mem (by simpa using hme)
  have hrun : u.sch.run = none := by rw [h.sch ho]; exact hi.run
  have hqueue : u.sch.queue = [] := by rw [h.sch ho]; exact hi.queue
  have hphase : u.pwr.phase = .running := by rw [hpwr]; exact hh.phase
  have hcancel : cancelOff u = u := by simp [cancelOff, hphase]
  have hqu : u.mpath.queue = eventGroups s evs := by
    rw [h.mpath]
    show s.mpath.queue ++ eventGroups s evs = _
    rw [hh.drained.queue, List.nil_append]
  have hreq : request code (atRequest code s)
      = enqueue (resultGroup a s.rqu.tag) (u.setNotices (u.notices.drop Config.chainFuel)) := by
    simp only [request, ha, hcancel, ite_self]
    rw [settle_checks _ h.checks hrun hqueue, makeResult_room (by simpa [hqu, eventGroups] using hlen), atRequest_rqu]
  refine ⟨closeCycle (ended true (enqueue (resultGroup a s.rqu.tag) u)), ?_, rfl, rfl, rfl, ⟨⟨⟨?_, ?_⟩, ?_⟩, ?_⟩, ?_⟩
  · rw [hostCycle_request hh, hreq,
      settle_checks _ (fun n hn => h.checks n (List.mem_of_mem_drop hn)) (by simpa [enqueue] using hrun)
        (by simpa [enqueue] using hqueue),
      finish_steady (by simp [enqueue, hphase]) (by simp [enqueue, hphase])]
    rfl
  · show u.mem.read _ = _
    rw [hmem]
    exact Memory.read_write_same hh.ram _ _
  · intro x hx
    show u.mem.read x = _
    rw [hmem]
    exact Memory.read_write_other _ _ hx
  · have e (v : State) : (closeCycle (ended true v)).mpath =
        { v.mpath with urgent := urgentLevel v, hwait := urgentLevel v, cycleOpen := false } := rfl
    rw [e, enqueue_mpath, hqu, h.mpath]
    rfl
  · have e (v : State) : (closeCycle (ended true (enqueue (resultGroup a s.rqu.tag) v))).rqu =
        { v.rqu with irq := irqLevel (enqueue (resultGroup a s.rqu.tag) v) } := rfl
    rw [Appended, e, h.rqu]
    rfl
  · intro p hp
    have hmem' : p ∉ ps ∧ p ≠ .mem ∧ p ≠ .mpath ∧ p ≠ .rqu := by simpa using hp
    obtain ⟨h1, h2, h3, h4⟩ := hmem'
    by_cases h5 : p = .untold
    · subst h5; exact ⟨hi.notices.symm, hi.taken.symm⟩
    · have e1 := atRequest_frame code s p (by simp [h2, h3])
      have e2 := h.frame p (by simp [h1, h3, h4, h5])
      cases p <;> simp_all [Part.same, ended, setLines, enqueue, closeCycle]

end

end Sys2Proof.Machine
end

section
/-! SUPPORT. What a change of row does to the servo (R29) and to the position unit (R47 to R50), field by field, and what
TRC's operations leave alone. -/

namespace Sys2Proof.Machine

/-! ### A change of row in the servo (R29) -/

section
variable {main fr30 : Bool} {now : Nat} {dflt : Speed} {row : Row} {on : Bool} {v : Srv}

/-- R38: the start of the capstan sets the speed at most. -/
theorem takeDefault_eq (dflt : Speed) (row : Row) (on : Bool) (v : Srv) :
    v.takeDefault dflt row on = { v with speed := (v.takeDefault dflt row on).speed } := by
  simp only [Srv.takeDefault]
  split_ifs <;> rfl

theorem takeDefault_of_origin (h : v.origin ≠ .default) : v.takeDefault dflt row on = v := by
  simp [Srv.takeDefault, h]

/-- R29, R34: the source of the new row. -/
theorem changeSource_eq (fr30 : Bool) (now : Nat) (row : Row) (v : Srv) :
    v.changeSource fr30 now row = { v with source := (v.changeSource fr30 now row).source } := by
  unfold Srv.changeSource
  split_ifs <;> rfl

/-- R29: the drum's part touches the drum alone. -/
theorem changeDrum_eq (now : Nat) (row : Row) (v : Srv) :
    v.changeDrum now row =
      { v with
        drumDuty := if row.drumRuns then if v.row.drumRuns then v.drumDuty else 512 else 0
        drumLock := if row.drumRuns && v.row.drumRuns then v.drumLock else .unlocked
        drumIn := (v.changeDrum now row).drumIn, drumOut := (v.changeDrum now row).drumOut
        phaseIn := (v.changeDrum now row).phaseIn, phaseOut := (v.changeDrum now row).phaseOut
        drumFg := (v.changeDrum now row).drumFg, drumGap := (v.changeDrum now row).drumGap
        pg := (v.changeDrum now row).pg, pgBefore := (v.changeDrum now row).pgBefore } := by
  unfold Srv.changeDrum
  cases hr : row.drumRuns <;> cases hv : v.row.drumRuns <;> simp [Srv.drumOff, Srv.drumStart]

theorem changeCapstan_eq (now : Nat) (row : Row) (on : Bool) (v : Srv) :
    v.changeCapstan now row on =
      { v with
        capDuty := (v.changeCapstan now row on).capDuty, capLock := (v.changeCapstan now row on).capLock
        capIn := (v.changeCapstan now row on).capIn, capOut := (v.changeCapstan now row on).capOut
        capFg := (v.changeCapstan now row on).capFg, capGap := (v.changeCapstan now row on).capGap } := by
  unfold Srv.changeCapstan
  split
  · rfl
  · rfl
  · split <;> rfl

theorem changeReel_eq (row : Row) (v : Srv) :
    v.changeReel row = { v with reelDuty := (v.changeReel row).reelDuty } := by
  unfold Srv.changeReel
  split
  · rfl
  · rfl
  · split <;> rfl

/-- R38, R39, R34: the servo as the drives find it: speed, detector and source of the new row are set. -/
def Srv.beforeDrives (fr30 : Bool) (now : Nat) (dflt : Speed) (row : Row) (on : Bool) (v : Srv) : Srv :=
  let v := v.takeDefault dflt row on
  (if v.row == .play && row != .play then v.detectorNone else v).changeSource fr30 now row

theorem beforeDrives_eq (fr30 : Bool) (now : Nat) (dflt : Speed) (row : Row) (on : Bool) (v : Srv) :
    ∃ source candidate count, v.beforeDrives fr30 now dflt row on =
      { v with speed := (v.takeDefault dflt row on).speed, source := source, candidate := candidate, detCount := count } := by
  unfold Srv.beforeDrives
  dsimp only
  rw [changeSource_eq, takeDefault_eq]
  split <;> exact ⟨_, _, _, rfl⟩

/-- R29: each drive takes its part of a change of row. -/
def Srv.takeDrives (now : Nat) (row : Row) (on : Bool) (v : Srv) : Srv :=
  ((v.changeDrum now row).changeCapstan now row on).changeReel row

/-- A change of row while the main rail is good: the drives take it, and reel timing follows. -/
theorem drive_changed (h : ¬(v.row = row ∧ v.capOn = on)) (fr30 : Bool) (now : Nat) (dflt : Speed) :
    v.drive true fr30 now dflt row on =
      (if row.moves on then Srv.segment now else Srv.reelsStop)
        { (v.beforeDrives fr30 now dflt row on).takeDrives now row on with
          row := row, capOn := on
          dir := row.dir.getD ((v.beforeDrives fr30 now dflt row on).takeDrives now row on).dir, run := none } := by
  have hc : (decide (v.row = row) && v.capOn == on) = false := by simpa using h
  simp only [Srv.drive, hc, Bool.false_eq_true, if_false, if_true, Bool.true_and]
  split <;> rfl

theorem drive_ne (h : v.row ≠ row) (fr30 : Bool) (now : Nat) (dflt : Speed) (on : Bool) :
    v.drive true fr30 now dflt row on =
      (if row.moves on then Srv.segment now else Srv.reelsStop)
        { (v.beforeDrives fr30 now dflt row on).takeDrives now row on with
          row := row, capOn := on
          dir := row.dir.getD ((v.beforeDrives fr30 now dflt row on).takeDrives now row on).dir, run := none } :=
  drive_changed (fun e => h e.1) fr30 now dflt

/-! The drives' parts, field by field. -/

theorem takeDrives_drum : (v.takeDrives now row on).drumDuty = (v.changeDrum now row).drumDuty
    ∧ (v.takeDrives now row on).drumLock = (v.changeDrum now row).drumLock := by
  rw [Srv.takeDrives, changeReel_eq, changeCapstan_eq]
  exact ⟨rfl, rfl⟩

theorem takeDrives_cap : (v.takeDrives now row on).capDuty = ((v.changeDrum now row).changeCapstan now row on).capDuty
    ∧ (v.takeDrives now row on).capLock = ((v.changeDrum now row).changeCapstan now row on).capLock := by
  rw [Srv.takeDrives, changeReel_eq]
  exact ⟨rfl, rfl⟩

theorem takeDrives_rest : (v.takeDrives now row on).speed = v.speed ∧ (v.takeDrives now row on).source = v.source
    ∧ (v.takeDrives now row on).origin = v.origin ∧ (v.takeDrives now row on).dir = v.dir := by
  rw [Srv.takeDrives, changeReel_eq, changeCapstan_eq, changeDrum_eq]
  exact ⟨rfl, rfl, rfl, rfl⟩

/-- R29: the row that is handed stands. -/
@[simp] theorem drive_row : (v.drive main fr30 now dflt row on).row = row := by
  unfold Srv.drive
  split
  · simp_all
  · dsimp only; split <;> rfl

theorem drive_capOn : (v.drive main fr30 now dflt row on).capOn = on := by
  unfold Srv.drive
  split
  · simp_all
  · dsimp only; split <;> rfl

/-- R29: the direction output of the new row; none leaves it. -/
theorem drive_dir (h : v.row ≠ row) : (v.drive true fr30 now dflt row on).dir = row.dir.getD v.dir := by
  obtain ⟨_, _, _, e⟩ := beforeDrives_eq fr30 now dflt row on v
  rw [drive_ne h, e]
  split <;> exact congrArg row.dir.getD takeDrives_rest.2.2.2

theorem drive_speed (h : v.row ≠ row) :
    (v.drive true fr30 now dflt row on).speed = (v.takeDefault dflt row on).speed := by
  obtain ⟨_, _, _, e⟩ := beforeDrives_eq fr30 now dflt row on v
  rw [drive_ne h, e]
  split <;> exact takeDrives_rest.1

theorem drive_origin (h : v.row ≠ row) : (v.drive true fr30 now dflt row on).origin = v.origin := by
  obtain ⟨_, _, _, e⟩ := beforeDrives_eq fr30 now dflt row on v
  rw [drive_ne h, e]
  split <;> exact takeDrives_rest.2.2.1

/-- R34: in a row whose drum reference is not the frame reference the source is INTERNAL. -/
theorem drive_source (h : v.row ≠ row) (hr : row.frameRef = false) :
    (v.drive true fr30 now dflt row on).source = .internal := by
  have e : (v.beforeDrives fr30 now dflt row on).source = .internal := by simp [Srv.beforeDrives, Srv.changeSource, hr]
  rw [drive_ne h]
  split <;> exact takeDrives_rest.2.1.trans e

theorem drive_drumDuty (h : v.row ≠ row) :
    (v.drive true fr30 now dflt row on).drumDuty
      = if row.drumRuns then if v.row.drumRuns then v.drumDuty else 512 else 0 := by
  obtain ⟨_, _, _, e⟩ := beforeDrives_eq fr30 now dflt row on v
  rw [drive_ne h, e]
  split <;> exact takeDrives_drum.1.trans (by rw [changeDrum_eq])

theorem drive_drumLock (h : v.row ≠ row) :
    (v.drive true fr30 now dflt row on).drumLock = if row.drumRuns && v.row.drumRuns then v.drumLock else .unlocked := by
  obtain ⟨_, _, _, e⟩ := beforeDrives_eq fr30 now dflt row on v
  rw [drive_ne h, e]
  split <;> exact takeDrives_drum.2.trans (by rw [changeDrum_eq])

/-- R29: what the capstan finds at a change of row. -/
theorem beforeDrives_capstan : ((v.beforeDrives fr30 now dflt row on).changeDrum now row).row = v.row
    ∧ ((v.beforeDrives fr30 now dflt row on).changeDrum now row).capOn = v.capOn
    ∧ ((v.beforeDrives fr30 now dflt row on).changeDrum now row).capDuty = v.capDuty := by
  obtain ⟨_, _, _, e⟩ := beforeDrives_eq fr30 now dflt row on v
  rw [e, changeDrum_eq]
  exact ⟨rfl, rfl, rfl⟩

/-- The capstan after a change of row. -/
theorem drive_cap (h : v.row ≠ row) :
    (v.drive true fr30 now dflt row on).capDuty
      = (((v.beforeDrives fr30 now dflt row on).changeDrum now row).changeCapstan now row on).capDuty
    ∧ (v.drive true fr30 now dflt row on).capLock
      = (((v.beforeDrives fr30 now dflt row on).changeDrum now row).changeCapstan now row on).capLock := by
  rw [drive_ne h]
  split <;> exact takeDrives_cap

/-- R29: a row without the capstan releases it. -/
theorem drive_capOff (h : v.row ≠ row) (hr : row.capstan on = none) :
    (v.drive true fr30 now dflt row on).capDuty = 0 ∧ (v.drive true fr30 now dflt row on).capLock = false := by
  obtain ⟨hd, hl⟩ := drive_cap (fr30 := fr30) (now := now) (dflt := dflt) (on := on) h
  rw [hd, hl]
  simp [Srv.changeCapstan, hr, Srv.capOff]

/-- R29: the capstan starts at its start duty. -/
theorem drive_capStart (h : v.row ≠ row) (hv : v.row.capstan v.capOn = none) (hr : (row.capstan on).isSome = true) :
    (v.drive true fr30 now dflt row on).capDuty = 384 ∧ (v.drive true fr30 now dflt row on).capLock = false := by
  obtain ⟨hd, hl⟩ := drive_cap (fr30 := fr30) (now := now) (dflt := dflt) (on := on) h
  obtain ⟨b, hb⟩ := Option.isSome_iff_exists.mp hr
  obtain ⟨e1, e2, -⟩ := beforeDrives_capstan (fr30 := fr30) (now := now) (dflt := dflt) (row := row) (on := on) (v := v)
  rw [hd, hl]
  simp [Srv.changeCapstan, e1, e2, hv, hb, Srv.capStart, Srv.capOff]

/-- R33: a capstan that runs on to another target or direction keeps its duty and loses its lock. -/
theorem drive_capTurn {a b : Bool × Dir} (h : v.row ≠ row) (hv : v.row.capstan v.capOn = some a)
    (hr : row.capstan on = some b) (hab : a ≠ b) :
    (v.drive true fr30 now dflt row on).capDuty = v.capDuty ∧ (v.drive true fr30 now dflt row on).capLock = false := by
  obtain ⟨hd, hl⟩ := drive_cap (fr30 := fr30) (now := now) (dflt := dflt) (on := on) h
  obtain ⟨e1, e2, e3⟩ := beforeDrives_capstan (fr30 := fr30) (now := now) (dflt := dflt) (row := row) (on := on) (v := v)
  rw [hd, hl]
  simp [Srv.changeCapstan, e1, e2, hv, hr, hab, Srv.capRetarget, e3]

/-- R29, R42: the duty that a drive of the reel motor begins at. -/
def ReelDrive.startDuty : ReelDrive → Nat
  | .off => 0
  | .tension => 192
  | .wind => 600

/-- R29, R42: the reel motor's duty; the wind starts at 600 from any other drive. -/
theorem drive_reelDuty (h : v.row ≠ row) (hw : v.row.reel ≠ .wind) :
    (v.drive true fr30 now dflt row on).reelDuty = row.reel.startDuty := by
  have e : (((v.beforeDrives fr30 now dflt row on).changeDrum now row).changeCapstan now row on).row = v.row := by
    rw [changeCapstan_eq]; exact beforeDrives_capstan.1
  have hd : ((v.beforeDrives fr30 now dflt row on).takeDrives now row on).reelDuty
      = row.reel.startDuty := by
    rw [Srv.takeDrives, Srv.changeReel, e]
    cases row.reel <;> simp [hw, ReelDrive.startDuty]
  rw [drive_ne h]
  split <;> exact hd

theorem drive_reelOff (h : v.row ≠ row) (hr : row.reel = .off) : (v.drive true fr30 now dflt row on).reelDuty = 0 := by
  rw [drive_ne h]
  split <;> simp [Srv.segment, Srv.reelsStop, Srv.takeDrives, Srv.changeReel, hr]

/-- R29: a row that stops the capstan and leaves the direction, while the drum runs on. -/
theorem drive_drumRunsOn (hc : row.capstan on = none) (hd : row.dir = none) (hr : row.drumRuns = true)
    (hv : v.row.drumRuns = true) : ∃ u, v.drive true fr30 now dflt row on = u ∧ u.drumDuty = v.drumDuty
      ∧ u.drumLock = v.drumLock ∧ u.dir = v.dir ∧ u.speed = v.speed := by
  refine ⟨_, rfl, ?_⟩
  by_cases h : v.row = row ∧ v.capOn = on
  · simp [Srv.drive, h]
  · have hs : (v.takeDefault dflt row on) = v := by simp [Srv.takeDefault, hc]
    obtain ⟨_, _, _, e⟩ := beforeDrives_eq fr30 now dflt row on v
    obtain ⟨e1, e2⟩ := takeDrives_drum (v := v.beforeDrives fr30 now dflt row on) (now := now) (row := row) (on := on)
    obtain ⟨e3, -, -, e4⟩ := takeDrives_rest (v := v.beforeDrives fr30 now dflt row on) (now := now) (row := row) (on := on)
    rw [changeDrum_eq, e, hs] at e1 e2
    rw [e, hs] at e3 e4
    rw [drive_changed h, e, hs, hd]
    split <;> exact ⟨e1.trans (by simp [hr, hv]), e2.trans (by simp [hr, hv]), e4, e3⟩

end

/-! ### A change of row in the position unit (R47 to R50) -/

section
variable {now : Nat} {old new : Row} {oldOn newOn : Bool} {p : Pos}

/-- A change of row touches the run-down, the mark window, the pending mark, the blank timer and the extrapolation alone. -/
theorem changeRow_eq (now : Nat) (old : Row) (oldOn : Bool) (new : Row) (newOn : Bool) (p : Pos) :
    ∃ runDown window pendingMark lastPulse blank extrap, p.changeRow now old oldOn new newOn =
      { p with runDown, window, pendingMark, lastPulse, blank, extrap } := by
  have hm : ∃ runDown window pendingMark lastPulse, p.changeMotion now (motionOf old oldOn) (motionOf new newOn) =
      { p with runDown, window, pendingMark, lastPulse } := by
    unfold Pos.changeMotion
    split
    · exact ⟨_, _, _, _, rfl⟩
    · split <;> exact ⟨_, _, _, _, rfl⟩
  obtain ⟨a, b, c, d, hm⟩ := hm
  rw [Pos.changeRow, hm, Pos.changeBlank]
  split_ifs <;> exact ⟨a, b, c, d, _, _, rfl⟩

/-- The parts of POS that neither a change of row nor a new quote touches. -/
structure SamePlace (p q : Pos) : Prop where
  counter : q.counter = p.counter
  capSource : q.capSource = p.capSource
  overrange : q.overrange = p.overrange
  unsure : q.unsure = p.unsure
  lastMark : q.lastMark = p.lastMark
  markWrite : q.markWrite = p.markWrite
  profile : q.profile = p.profile
  r : q.r = p.r
  profiles : q.profiles = p.profiles

theorem SamePlace.refl (p : Pos) : SamePlace p p := ⟨rfl, rfl, rfl, rfl, rfl, rfl, rfl, rfl, rfl⟩

theorem SamePlace.trans {p q r : Pos} (h : SamePlace p q) (h' : SamePlace q r) : SamePlace p r :=
  ⟨h'.1.trans h.1, h'.2.trans h.2, h'.3.trans h.3, h'.4.trans h.4, h'.5.trans h.5, h'.6.trans h.6, h'.7.trans h.7,
    h'.8.trans h.8, h'.9.trans h.9⟩

theorem changeRow_place (now : Nat) (old : Row) (oldOn : Bool) (new : Row) (newOn : Bool) (p : Pos) :
    SamePlace p (p.changeRow now old oldOn new newOn) := by
  obtain ⟨_, _, _, _, _, _, e⟩ := changeRow_eq now old oldOn new newOn p
  rw [e]
  exact ⟨rfl, rfl, rfl, rfl, rfl, rfl, rfl, rfl, rfl⟩

theorem requote_place (m : Speed) (p : Pos) : SamePlace p (p.requote m) := ⟨rfl, rfl, rfl, rfl, rfl, rfl, rfl, rfl, rfl⟩

theorem changeRow_remaining : (p.changeRow now old oldOn new newOn).remaining = p.remaining := by
  obtain ⟨_, _, _, _, _, _, e⟩ := changeRow_eq now old oldOn new newOn p
  rw [e]

/-- R55: the mark window is empty at the start of a motion. -/
theorem changeRow_window {m : Row} (h : motionOf old oldOn ≠ motionOf new newOn) (hn : motionOf new newOn = some m) :
    (p.changeRow now old oldOn new newOn).window = [] := by
  have hw : (p.changeMotion now (motionOf old oldOn) (motionOf new newOn)).window = [] := by
    unfold Pos.changeMotion
    rw [if_neg h, hn]
  unfold Pos.changeRow Pos.changeBlank
  split_ifs <;> exact hw

end

/-! ### TRC hands SRV a row -/

theorem applyRow_srv (on : Bool) (s : State) :
    (applyRow on s).srv = s.srv.drive s.pins.mainGood s.straps.fr30 s.now (setSpeed s.mpath.settings) (rowOf s.trc) on :=
  rfl

theorem applyRow_place (on : Bool) (s : State) : SamePlace s.pos (applyRow on s).pos := by
  unfold applyRow
  dsimp only
  split
  · exact changeRow_place _ _ _ _ _ _
  · exact (changeRow_place _ _ _ _ _ _).trans (requote_place _ _)

/-- R63: while the speed stands, so does the remaining time. -/
theorem applyRow_pos_of_speed {on : Bool} {s : State} (h : (applyRow on s).srv.speed = s.srv.speed) :
    (applyRow on s).pos = s.pos.changeRow s.now s.srv.row s.srv.capOn (rowOf s.trc) on := by
  rw [applyRow_srv] at h
  simp [applyRow, h]

theorem applyRow_frame (on : Bool) (s : State) : SameBut [.srv, .pos] s (applyRow on s) := by
  intro p hp; cases p <;> simp_all [Part.same, applyRow]

theorem useSpeed_frame (m : Speed) (o : SpeedOrigin) (s : State) : SameBut [.srv, .pos] s (useSpeed m o s) := by
  unfold useSpeed
  intro p hp
  dsimp only
  split <;> cases p <;> simp_all [Part.same]

theorem useSpeed_srv (m : Speed) (o : SpeedOrigin) (s : State) : (useSpeed m o s).srv = s.srv.setSpeed s.now m o := by
  unfold useSpeed; dsimp only; split <;> rfl

theorem useSpeed_place (m : Speed) (o : SpeedOrigin) (s : State) : SamePlace s.pos (useSpeed m o s).pos := by
  unfold useSpeed
  dsimp only
  split
  · exact .refl _
  · exact requote_place _ _

theorem stopWriting_frame (s : State) : SameBut [.trc, .pos] s (stopWriting s) := by
  unfold stopWriting
  intro p hp
  split <;> cases p <;> simp_all [Part.same]

@[simp] theorem stopWriting_srv (s : State) : (stopWriting s).srv = s.srv := stopWriting_frame s .srv (by decide)
@[simp] theorem stopWriting_now (s : State) : (stopWriting s).now = s.now := stopWriting_frame s .now (by decide)
@[simp] theorem stopWriting_pins (s : State) : (stopWriting s).pins = s.pins := stopWriting_frame s .pins (by decide)
@[simp] theorem stopWriting_straps (s : State) : (stopWriting s).straps = s.straps :=
  stopWriting_frame s .straps (by decide)

@[simp] theorem stopWriting_counter (s : State) : (stopWriting s).pos.counter = s.pos.counter := by
  unfold stopWriting; split <;> rfl

theorem stopWriting_of_not {s : State} (h : s.trc.writing = false) : stopWriting s = s := by simp [stopWriting, h]

/-! ### The entry of a state: the drives, the place and the frame -/

section
variable (st : TransportState) (on : Bool) (s : State)

theorem enterCore_srv :
    (enterCore st on s).srv = s.srv.drive s.pins.mainGood s.straps.fr30 s.now (setSpeed s.mpath.settings)
      (rowOf (enterCore st on s).trc) on := by
  rw [enterCore_eq]
  split <;> rfl

theorem enterCore_place : SamePlace s.pos (enterCore st on s).pos := by
  have h := applyRow_place on (s.setTrc (s.trc.entering st s.now))
  rw [enterCore_eq]
  split <;> exact h

theorem enterCore_frame : SameBut [.trc, .srv, .pos] s (enterCore st on s) := by
  have h1 : SameBut [.trc, .srv, .pos] s (s.setTrc (s.trc.entering st s.now)) := (setTrc_frame s _).mono (by simp)
  have h2 := h1.with ((applyRow_frame on _).mono (by simp))
  have h3 : ∀ u : State, SameBut [.trc, .srv, .pos] u (restartDrum u) := fun u => (setTrc_frame u _).mono (by simp)
  have h4 : ∀ u : State, SameBut [.trc, .srv, .pos] u (restartCap u) := fun u => (setTrc_frame u _).mono (by simp)
  rw [enterCore_eq]
  split
  · exact h2.with (h3 _)
  · exact (h2.with (h3 _)).with (h4 _)

@[simp] theorem enterCore_row : (enterCore st on s).srv.row = rowOf (enterCore st on s).trc := by
  rw [enterCore_srv, drive_row]

@[simp] theorem enterCore_counter : (enterCore st on s).pos.counter = s.pos.counter := (enterCore_place st on s).counter
@[simp] theorem enterCore_pins : (enterCore st on s).pins = s.pins := enterCore_frame st on s .pins (by decide)
@[simp] theorem enterCore_now : (enterCore st on s).now = s.now := enterCore_frame st on s .now (by decide)
@[simp] theorem enterCore_straps : (enterCore st on s).straps = s.straps := enterCore_frame st on s .straps (by decide)
@[simp] theorem enterCore_rqu : (enterCore st on s).rqu = s.rqu := enterCore_frame st on s .rqu (by decide)
@[simp] theorem enterCore_mpath : (enterCore st on s).mpath = s.mpath := enterCore_frame st on s .mpath (by decide)

/-- R29: the row of a state that has one row. -/
theorem enterCore_rowOf (h1 : st ≠ .recPause) (h2 : st ≠ .seek) :
    rowOf (enterCore st on s).trc = rowOf { s.trc with st := st } := by
  unfold rowOf
  rw [enterCore_st]
  cases st <;> simp_all

/-- R17: the drum's allowance at an entry. -/
theorem enterCore_drumAllow :
    (enterCore st on s).trc.drumAllow = if drumMissing (enterCore st on s) then some s.now else none := by
  rw [enterCore_eq]
  split <;> rfl

/-- R17: the capstan's allowance at an entry, but for RECORD from REC_PAUSE. -/
theorem enterCore_capAllow (h : st ≠ .record) :
    (enterCore st on s).trc.capAllow
      = if capNeeded (enterCore st on s) && !(enterCore st on s).srv.capLock then some s.now else none := by
  rw [enterCore_eq, if_neg (by simp [h])]
  rfl

end

end Sys2Proof.Machine
end

section
/-! SUPPORT. TRC's operations where nothing stands in their way: what a request, a limit or a fault comes down to, and what
each leaves in the servo and the position unit. -/

namespace Sys2Proof.Machine

/-! ### Reports and entries -/

theorem reportState_frame (s : State) : SameBut [.untold] s (reportState s) := by
  unfold reportState
  intro p hp
  split <;> cases p <;> simp_all [Part.same, notify]

@[simp] theorem reportState_srv (s : State) : (reportState s).srv = s.srv := reportState_frame s .srv (by decide)
@[simp] theorem reportState_pos (s : State) : (reportState s).pos = s.pos := reportState_frame s .pos (by decide)
@[simp] theorem reportState_pins (s : State) : (reportState s).pins = s.pins := reportState_frame s .pins (by decide)
@[simp] theorem reportState_now (s : State) : (reportState s).now = s.now := reportState_frame s .now (by decide)

@[simp] theorem post_srv (e : Event) (s : State) : (post e s).srv = s.srv := post_frame e s .srv (by decide)
@[simp] theorem post_pos (e : Event) (s : State) : (post e s).pos = s.pos := post_frame e s .pos (by decide)
@[simp] theorem post_pins (e : Event) (s : State) : (post e s).pins = s.pins := post_frame e s .pins (by decide)
@[simp] theorem post_now (e : Event) (s : State) : (post e s).now = s.now := post_frame e s .now (by decide)

section
variable (s : State)

@[simp] theorem clearRewind_trc : (clearRewind s).trc = { s.trc with rewindDue := false } := rfl
@[simp] theorem clearRewind_srv : (clearRewind s).srv = s.srv := rfl
@[simp] theorem clearRewind_pos : (clearRewind s).pos = s.pos := rfl
@[simp] theorem clearRewind_pins : (clearRewind s).pins = s.pins := rfl
@[simp] theorem clearRewind_now : (clearRewind s).now = s.now := rfl

end

/-- R8: a state entered as the immediate effect of a request posts nothing. -/
theorem enter_quiet (st : TransportState) (o : Origin) (on : Bool) (s : State) :
    enter st o true on s = reportState (enterCore st on s) := rfl

/-- R8: any other entry posts TRANSPORT. -/
theorem enter_loud (st : TransportState) (o : Origin) (on : Bool) (s : State) :
    enter st o false on s = reportState (post (evTransport st o) (enterCore st on s)) := rfl

@[simp] theorem enter_srv (st : TransportState) (o : Origin) (quiet on : Bool) (s : State) :
    (enter st o quiet on s).srv = (enterCore st on s).srv := by cases quiet <;> simp [enter_quiet, enter_loud]
@[simp] theorem enter_pos (st : TransportState) (o : Origin) (quiet on : Bool) (s : State) :
    (enter st o quiet on s).pos = (enterCore st on s).pos := by cases quiet <;> simp [enter_quiet, enter_loud]
@[simp] theorem enter_pins (st : TransportState) (o : Origin) (quiet on : Bool) (s : State) :
    (enter st o quiet on s).pins = s.pins := by cases quiet <;> simp [enter_quiet, enter_loud]

@[simp] theorem enter_now (st : TransportState) (o : Origin) (quiet on : Bool) (s : State) :
    (enter st o quiet on s).now = s.now := by cases quiet <;> simp [enter_quiet, enter_loud]

/-- R29: the servo after an entry while the main rail is good. -/
theorem enter_drive {st : TransportState} {on : Bool} {s : State} {row : Row} (h : s.pins.mainGood = true)
    (hr : rowOf (enterCore st on s).trc = row) (o : Origin) (quiet : Bool) :
    (enter st o quiet on s).srv = s.srv.drive true s.straps.fr30 s.now (setSpeed s.mpath.settings) row on := by
  rw [enter_srv, enterCore_srv, hr, h]

/-- R63: while the speed stands at an entry, POS changes its row and quotes nothing anew. -/
theorem enterCore_pos_of_speed {st : TransportState} {on : Bool} {s : State}
    (h : (enterCore st on s).srv.speed = s.srv.speed) :
    (enterCore st on s).pos = s.pos.changeRow s.now s.srv.row s.srv.capOn (rowOf (enterCore st on s).trc) on := by
  have h' : (applyRow on (s.setTrc (s.trc.entering st s.now))).srv.speed = s.srv.speed := by
    rw [enterCore_eq] at h
    split at h <;> exact h
  have e := applyRow_pos_of_speed h'
  rw [enterCore_eq]
  split <;> exact e

/-! ### Entries as work of their own -/

section
variable {ps : List Part} {evs : List Event} {s u : State}

theorem Worked.setTrc (h : Worked ps evs s u) (x : Trc) (hq : .trc ∈ ps := by decide) (ho : OwnParts ps := by decide) :
    Worked ps evs s (u.setTrc x) := h.on (setTrc_frame u x) (by simpa using hq) ho

theorem Worked.clearRewind (h : Worked ps evs s u) (hq : .trc ∈ ps := by decide) (ho : OwnParts ps := by decide) :
    Worked ps evs s (clearRewind u) := h.setTrc _ hq ho

theorem Worked.enterCore (h : Worked ps evs s u) (st : TransportState) (on : Bool)
    (hq : ∀ p ∈ [Part.trc, .srv, .pos], p ∈ ps := by decide) (ho : OwnParts ps := by decide) :
    Worked ps evs s (enterCore st on u) := h.on (enterCore_frame st on u) hq ho

/-- A state entered as the immediate effect of a request under PANEL. -/
theorem Worked.enter_quiet (h : Worked ps evs s u) (st : TransportState) (o : Origin) (on : Bool)
    (hp : u.trc.owner = .panel) (hq : ∀ p ∈ [Part.trc, .srv, .pos], p ∈ ps := by decide)
    (ho : OwnParts ps := by decide) : Worked ps evs s (enter st o true on u) :=
  (h.enterCore st on hq ho).report (by simpa using hp)

end

/-- What a host request finds, before its owner's work. -/
theorem atRequest_start {s : State} (hi : ScheduleIdle s) (code : Byte) (ps : List Part) :
    Worked ps [] (atRequest code s) (atRequest code s) := .start ps hi.notices hi.taken

/-! ### No limit is met -/

theorem meetLimit_clear {s : State} (he : s.pins.endSense = false) (hs : s.pins.startSense = false) :
    meetLimit s = s := by
  have : limitMet s = none := by unfold limitMet; split <;> simp [he, hs]
  rw [meetLimit, this]

theorem meetLimit_forward {s : State} (hd : motionDir s.trc = some .forward) (he : s.pins.endSense = false) :
    meetLimit s = s := by
  have : limitMet s = none := by simp [limitMet, hd, he]
  rw [meetLimit, this]

theorem meetLimit_backward {s : State} (hd : motionDir s.trc = some .backward) (hs : s.pins.startSense = false) :
    meetLimit s = s := by
  have : limitMet s = none := by simp [limitMet, hd, hs]
  rw [meetLimit, this]

theorem stopSearch_of_ne {s : State} (h : s.trc.st ≠ .seek) : stopSearch s = s := by
  unfold stopSearch
  split
  · contradiction
  · rfl

end Sys2Proof.Machine
end

section
/-! LEMMA. The motion requests (R7, R8, R29): PLAY, CUE, REVIEW, FF and REW from STOP, and STOP. -/

namespace Sys2Proof.Machine

/-- A motion request's command, its code, its state, and what the state's row gives the drives of a still tape. -/
structure MotionCase (c : Instr) (code : Byte) (st : TransportState) (row : Row) (dir : Dir) (cap reel : Nat) : Prop where
  asCycle (s : State) : exec c s = hostCycle (hostWriteAt offCommand code) s
  acts (s : State) : ∃ req, ownerActs code s = some (requestMotion st req s)
  state : st ≠ .stop ∧ st ≠ .fault ∧ st ≠ .still ∧ st ≠ .recPause ∧ st ≠ .seek
  ofRow (t : Trc) : rowOf { t with st := st } = row
  moves : row ≠ .still ∧ row.drumRuns = true ∧ row.frameRef = false ∧ motionOf row false = some row
  turns : row.dir = some dir
  capDuty : cap = 0 ∧ row.capstan false = none ∨ cap = 384 ∧ (row.capstan false).isSome = true
  reelDuty : row.reel.startDuty = reel

theorem motionCase_of_mem {c : Instr} {code : Byte} {st : TransportState} {row : Row} {dir : Dir} {cap reel : Nat}
    (h : (c, code, st, row, dir, cap, reel) ∈
      [(Instr.play, (0x01 : Byte), TransportState.play, Row.play, Dir.forward, 384, 192),
       (.cue, 0x08, .cue, .cue, .forward, 384, 192), (.review, 0x09, .review, .review, .backward, 384, 192),
       (.ff, 0x06, .ff, .ff, .forward, 0, 600), (.rew, 0x07, .rew, .rew, .backward, 0, 600)]) :
    MotionCase c code st row dir cap reel := by
  simp only [List.mem_cons, List.not_mem_nil, or_false, Prod.mk.injEq] at h
  rcases h with ⟨rfl, rfl, rfl, rfl, rfl, rfl, rfl⟩ | ⟨rfl, rfl, rfl, rfl, rfl, rfl, rfl⟩ | ⟨rfl, rfl, rfl, rfl, rfl, rfl, rfl⟩
    | ⟨rfl, rfl, rfl, rfl, rfl, rfl, rfl⟩ | ⟨rfl, rfl, rfl, rfl, rfl, rfl, rfl⟩ <;>
  exact ⟨fun _ => rfl, fun _ => ⟨_, rfl⟩, by decide, fun _ => rfl, by decide, rfl, by decide, rfl⟩

/-- A motion request in STOP, with no limit sensor active, enters its state. -/
theorem requestMotion_stop {st : TransportState} {req : TargetRequest} {s : State} (ho : s.trc.owner = .panel)
    (hs : s.trc.st = .stop) (hp : s.trc.pending = none) (hst : st ≠ .stop) (he : s.pins.endSense = false)
    (hb : s.pins.startSense = false) :
    requestMotion st req s = (enter st (hostOrigin s) true false (clearRewind s), answer .done) := by
  have hc : stopSearch (clearRewind s) = clearRewind s := stopSearch_of_ne (by simp [clearRewind, hs])
  simp only [requestMotion, ownedByPanel, motionTable, ho, hs, hp, hc, enterMotion]
  rw [meetLimit_clear (by simpa [clearRewind] using he) (by simpa [clearRewind] using hb)]
  simp [hst.symm]

/-- STOP under PANEL in a motion or STILL enters STOP. -/
theorem requestStop_motion {s : State} (h0 : s.rqu.arg0 = 0) (ho : s.trc.owner = .panel)
    (hs : s.trc.st ∈ [TransportState.play, .still, .cue, .review, .ff, .rew]) (hw : s.trc.writing = false) :
    requestStop s = (enter .stop (hostOrigin s) true false (clearRewind s), answer .done) := by
  have hc : stopSearch (stopWriting (clearRewind s)) = clearRewind s := by
    rw [stopWriting_of_not (by simpa using hw), stopSearch_of_ne]
    intro e
    have e' : s.trc.st = .seek := e
    simp [e'] at hs
  have ht : stopTape (hostOrigin s) true (clearRewind s) = enter .stop (hostOrigin s) true false (clearRewind s) := by
    rw [stopTape, hc, clearRewind_trc, if_neg]
    intro e
    simp_all
  have hb : stopByTable s = (stopTape (hostOrigin s) true (clearRewind s), answer .done) := by
    simp only [List.mem_cons, List.not_mem_nil, or_false] at hs
    rcases hs with e | e | e | e | e | e <;> simp only [stopByTable, e]
  rw [requestStop, h0, if_neg (by decide), if_pos (by simp [ownedByPanel, ho]), hb, ht]

end Sys2Proof.Machine

open Sys2Proof Sys2Proof.Machine

/-- Settles O16: the request enters its state, and the row of STILL gives way to that of the motion. -/
theorem motionRequestsFromStop : Obligations.MotionRequestsFromStop := by
  intro c code st row dir cap reel hmem s hh hi ho hs hp hmain he hb hrow horig
  obtain ⟨hexec, hacts, ⟨hstop, hfault, hstill, hpause, hseek⟩, hrowOf, ⟨hne, hdrum, href, hmotion⟩, hdir, hcap, hreel⟩ :=
    motionCase_of_mem hmem
  obtain ⟨req, hreq⟩ := hacts (atRequest code s)
  rw [requestMotion_stop (s := atRequest code s) ho hs hp hstop he hb] at hreq
  obtain ⟨t, hx, htrc, hsrv, hpos, hans, hsame⟩ :=
    ((atRequest_start hi code [.trc, .srv, .pos]).clearRewind.enter_quiet st _ false ho).answered hreq hh hi
  have hr : rowOf (enterCore st false (clearRewind (atRequest code s))).trc = row := by
    rw [enterCore_rowOf _ _ _ hpause hseek, hrowOf]
  have hv : t.srv = s.srv.drive true s.straps.fr30 s.now (setSpeed s.mpath.settings) row false :=
    hsrv.trans (enter_drive (s := clearRewind (atRequest code s)) hmain hr _ true)
  have hn : s.srv.row ≠ row := by rw [hrow]; exact hne.symm
  have hspeed : t.srv.speed = s.srv.speed := by rw [hv, drive_speed hn, takeDefault_of_origin horig]
  have hstands : (enterCore st false (clearRewind (atRequest code s))).srv.speed = s.srv.speed := by
    rw [← hspeed, hsrv, enter_srv]
  have hq : t.pos = s.pos.changeRow s.now s.srv.row s.srv.capOn row false := by
    rw [hpos, enter_pos, enterCore_pos_of_speed hstands, hr]; rfl
  have hplace := changeRow_place s.now s.srv.row s.srv.capOn row false s.pos
  have hcaps : t.srv.capDuty = cap ∧ t.srv.capLock = false := by
    rw [hv]
    rcases hcap with ⟨rfl, hc⟩ | ⟨rfl, hc⟩
    · exact drive_capOff hn hc
    · exact drive_capStart hn (by rw [hrow]; rfl) hc
  rw [hexec]
  refine ⟨t, hx, ?_, ?_, ?_, ?_, ?_, ?_, ?_, ?_, ?_, ?_, ?_, ?_, hcaps.1, ?_, hcaps.2, ?_, ?_, hspeed, ?_, ?_, ?_, ?_, ?_, ?_, ?_,
    hans, hsame⟩
  iterate 10 · simp [htrc, hstop, hfault, ho, hp]
  · rw [hv, drive_row]
  · rw [hv, drive_dir hn, hdir]; rfl
  · rw [hv, drive_reelDuty hn (by rw [hrow]; decide), hreel]
  · rw [hv, drive_drumDuty hn, hdrum, hrow]; rfl
  · rw [hv, drive_drumLock hn, hdrum, hrow]; rfl
  · rw [hv, drive_source hn href]
  · rw [hq, hplace.counter]
  · rw [hq, hplace.unsure]
  · rw [hq, hplace.lastMark]
  · rw [hq, hplace.profile]
  · rw [hq, changeRow_remaining]
  · rw [hq, changeRow_window _ hmotion]
    rw [hmotion, hrow]
    exact nofun

/-- Settles O17: STOP is entered quietly; the row of STILL releases the capstan and the reels and keeps the drum running. -/
theorem stopEndsMotion : Obligations.StopEndsMotion := by
  intro s hh hi h0 ho hp hs hw hmain hrow
  have hreq : ownerActs 0x03 (atRequest 0x03 s) = some (enter .stop (hostOrigin (atRequest 0x03 s)) true false
      (clearRewind (atRequest 0x03 s)), answer .done) :=
    congrArg some (requestStop_motion (s := atRequest 0x03 s) h0 ho hs hw)
  obtain ⟨t, hx, htrc, hsrv, hpos, hans, hsame⟩ :=
    ((atRequest_start hi 0x03 [.trc, .srv, .pos]).clearRewind.enter_quiet .stop _ false ho).answered hreq hh hi
  have hv : t.srv = s.srv.drive true s.straps.fr30 s.now (setSpeed s.mpath.settings) .still false :=
    hsrv.trans (enter_drive (s := clearRewind (atRequest 0x03 s)) hmain (enterCore_rowOf _ _ _ (by decide) (by decide)) _ true)
  have hplace := enterCore_place .stop false (clearRewind (atRequest 0x03 s))
  have hdrum : s.srv.row.drumRuns = true := by
    rw [hrow]
    simp only [List.mem_cons, List.not_mem_nil, or_false] at hs
    rcases hs with e | e | e | e | e | e <;> simp [rowOf, e, Row.drumRuns]
  obtain ⟨u, hu, hduty, hlock, hdir, hspeed⟩ := drive_drumRunsOn (fr30 := s.straps.fr30) (now := s.now)
    (dflt := setSpeed s.mpath.settings) (row := .still) (on := false) rfl rfl rfl hdrum
  rw [hu] at hv
  refine ⟨t, hx, ?_, ?_, ?_, ?_, ?_, ?_, ?_, ?_, ?_, ?_, ?_, ?_, ?_, ?_, ?_, hans, hsame⟩
  iterate 7 · simp [htrc, ho, hp]
  · rw [hv, ← hu, drive_row]
  · rw [hv, hduty]
  · rw [hv, hlock]
  · intro hne
    have hn : s.srv.row ≠ .still := by
      rw [hrow]
      simp only [List.mem_cons, List.not_mem_nil, or_false] at hs
      rcases hs with e | e | e | e | e | e <;> simp_all [rowOf]
    rw [hv, ← hu]
    exact ⟨(drive_capOff hn rfl).1, (drive_capOff hn rfl).2, drive_reelOff hn rfl⟩
  · rw [hv, hdir]
  · rw [hv, hspeed]
  · rw [hpos, enter_pos, hplace.counter]; rfl
  · rw [hpos, enter_pos, hplace.lastMark]; rfl

end

section
/-! LEMMA. RECORD, PAUSE and RESUME (R16, R18, R19), and EJECT (R12, R13). -/

namespace Sys2Proof.Machine

/-! ### Back-space and catch-up -/

theorem startRun_frame (goal : Nat) (s : State) : SameBut [.srv] s (startRun goal s) := setSrv_frame s _

theorem stopWriting_markWrite {s : State} (h : s.trc.writing = true) : (stopWriting s).pos.markWrite = none := by
  simp [stopWriting, h]

/-- R18: the state in which TRC enters REC_PAUSE. -/
def readyToPause (s : State) : State :=
  (stopWriting s).setTrc
    { (stopWriting s).trc with pausePoint := some (stopWriting s).pos.counter, phase := .backSpace, heldResume := none }

theorem readyToPause_frame (s : State) : SameBut [.trc, .pos] s (readyToPause s) :=
  (stopWriting_frame s).with ((setTrc_frame _ _).mono (by simp))

@[simp] theorem readyToPause_srv (s : State) : (readyToPause s).srv = s.srv := stopWriting_srv s
@[simp] theorem readyToPause_pins (s : State) : (readyToPause s).pins = s.pins := stopWriting_pins s
@[simp] theorem readyToPause_pos (s : State) : (readyToPause s).pos = (stopWriting s).pos := rfl
@[simp] theorem readyToPause_trc (s : State) : (readyToPause s).trc =
    { s.trc with writing := false, pausePoint := some s.pos.counter, phase := .backSpace, heldResume := none } := by
  simp [readyToPause]

theorem readyToPause_row (s : State) : rowOf (enterCore .recPause false (readyToPause s)).trc = .backSpace := by
  simp [rowOf]

/-- R18: a pause with the start sensor open enters REC_PAUSE and runs the tape back. -/
theorem beginPause_quiet {s : State} (o : Origin) (hb : s.pins.startSense = false) :
    beginPause o true s = startRun (framePulses s.srv.speed 30) (enter .recPause o true false (readyToPause s)) := by
  have hd : motionDir (startRun (pausePulses (readyToPause s)) (enter .recPause o true false (readyToPause s))).trc
      = some .backward := by simp [motionDir]
  show meetLimit (startRun (pausePulses (readyToPause s)) (enter .recPause o true false (readyToPause s))) = _
  rw [meetLimit_backward hd (by simpa [startRun] using hb), pausePulses, readyToPause_srv]
  rfl

/-- The servo in back-space, from a row of another state. -/
theorem backSpace_srv {s : State} (o : Origin) (n : Nat) (hm : s.pins.mainGood = true) :
    (startRun n (enter .recPause o true false (readyToPause s))).srv =
      (s.srv.drive true s.straps.fr30 s.now (setSpeed s.mpath.settings) .backSpace false).startRun n := by
  have hf := readyToPause_frame s
  have e := enter_drive (s := readyToPause s) (by simpa using hm) (readyToPause_row s) o true
  rw [hf .straps (by decide), hf .now (by decide), hf .mpath (by decide), readyToPause_srv] at e
  exact congrArg (Srv.startRun n) e

theorem enterPhase_frame (p : RecPhase) (s : State) : SameBut [.trc, .srv, .pos] s (enterPhase p s) := by
  have h1 : SameBut [.trc, .srv, .pos] s (s.setTrc { s.trc with phase := p }) := (setTrc_frame s _).mono (by simp)
  exact (h1.with ((applyRow_frame false _).mono (by simp))).with ((setTrc_frame _ _).mono (by simp))

/-- R19: the state in which a RESUME has begun catch-up, and its run is still to be asked for. -/
def catchingUp (o : Origin) (s : State) : State :=
  enterPhase .catchUp (s.setTrc { s.trc with resumeBy := o, heldResume := none })

theorem catchingUp_frame (o : Origin) (s : State) : SameBut [.trc, .srv, .pos] s (catchingUp o s) :=
  ((setTrc_frame s _).mono (by simp)).with (enterPhase_frame _ _)

theorem catchingUp_trc (o : Origin) (s : State) : ∃ c, (catchingUp o s).trc =
    { s.trc with resumeBy := o, heldResume := none, phase := .catchUp, capAllow := c } := ⟨_, rfl⟩

theorem catchingUp_srv {o : Origin} {s : State} (hs : s.trc.st = .recPause) (hm : s.pins.mainGood = true) :
    (catchingUp o s).srv =
      s.srv.drive true s.straps.fr30 s.now (setSpeed s.mpath.settings) .catchUp false := by
  have hr : rowOf { s.trc with resumeBy := o, heldResume := none, phase := .catchUp } = .catchUp := by simp [rowOf, hs]
  show s.srv.drive s.pins.mainGood _ _ _ (rowOf { s.trc with resumeBy := o, heldResume := none, phase := .catchUp }) _ = _
  rw [hr, hm]
  rfl

theorem catchingUp_counter (o : Origin) (s : State) : (catchingUp o s).pos.counter = s.pos.counter :=
  (applyRow_place false (s.setTrc { s.trc with resumeBy := o, heldResume := none, phase := .catchUp })).counter

/-- R19: a RESUME at rest, with the end sensor open, runs the tape forward in catch-up. -/
theorem startCatchUp_clear {s : State} (o : Origin) (hs : s.trc.st = .recPause) (he : s.pins.endSense = false) :
    startCatchUp o s = startRun (pausePulses (catchingUp o s)) (catchingUp o s) := by
  refine meetLimit_forward ?_ he
  obtain ⟨c, e⟩ := catchingUp_trc o s
  show motionDir (catchingUp o s).trc = _
  simp [e, motionDir, hs]

/-! ### PAUSE and RESUME -/

theorem requestPause_play {s : State} (ho : s.trc.owner = .panel) (hs : s.trc.st = .play) :
    requestPause s = (enter .still (hostOrigin s) true false (clearRewind s), answer .done) := by
  simp [requestPause, ownedByPanel, ho, hs]

theorem requestPause_record {s : State} (ho : s.trc.owner = .panel) (hs : s.trc.st = .record)
    (hb : s.pins.startSense = false) :
    requestPause s = (startRun (framePulses s.srv.speed 30)
      (enter .recPause (hostOrigin s) true false (readyToPause (clearRewind s))), answer .done) := by
  simp [requestPause, ownedByPanel, ho, hs, beginPause_quiet (s := clearRewind s) (hostOrigin s) hb]

theorem requestResume_atRest {s : State} (ho : s.trc.owner = .panel) (hs : s.trc.st = .recPause)
    (hp : s.trc.phase = .atRest) :
    requestResume s = (startCatchUp (hostOrigin s) (clearRewind s), answer .accepted) := by
  simp [requestResume, resumeInPause, ownedByPanel, ho, hs, hp]

/-- PAUSE in PLAY is answered in STILL. -/
theorem pauseInPlay {s : State} (hh : HostRuns s) (hi : ScheduleIdle s) (ho : s.trc.owner = .panel) (hs : s.trc.st = .play)
    (hm : s.pins.mainGood = true) (hrow : s.srv.row = .play) :
    ∃ t, exec .pause s = .next t ∧ t.trc.st = .still ∧ t.trc.pauseT = some s.now ∧ t.trc.writing = s.trc.writing
      ∧ t.srv.row = .still ∧ t.srv.capDuty = 0 ∧ t.srv.drumDuty = s.srv.drumDuty ∧ t.pos.counter = s.pos.counter
      ∧ Answered 0x04 [] [] (answer .done) s t ∧ SameBut [.trc, .srv, .pos, .mem, .mpath, .rqu] s t := by
  have hreq := congrArg some (requestPause_play (s := atRequest 0x04 s) ho hs)
  obtain ⟨t, hx, htrc, hsrv, hpos, hans, hsame⟩ :=
    ((atRequest_start hi 0x04 [.trc, .srv, .pos]).clearRewind.enter_quiet .still _ false ho).answered hreq hh hi
  have hv : t.srv = s.srv.drive true s.straps.fr30 s.now (setSpeed s.mpath.settings) .still false :=
    hsrv.trans (enter_drive (s := clearRewind (atRequest 0x04 s)) hm (enterCore_rowOf _ _ _ (by decide) (by decide)) _ true)
  have hn : s.srv.row ≠ .still := by rw [hrow]; decide
  refine ⟨t, hx, ?_, ?_, ?_, ?_, ?_, ?_, ?_, hans, hsame⟩
  iterate 3 · simp [htrc, ho]
  · rw [hv, drive_row]
  · rw [hv, (drive_capOff hn rfl).1]
  · rw [hv, drive_drumDuty hn, hrow]; rfl
  · rw [hpos, enter_pos, enterCore_counter]; rfl

/-- PAUSE in RECORD is answered in REC_PAUSE, in back-space. -/
theorem pauseInRecord {s : State} (hh : HostRuns s) (hi : ScheduleIdle s) (ho : s.trc.owner = .panel)
    (hs : s.trc.st = .record) (hw : s.trc.writing = true) (hm : s.pins.mainGood = true) (hb : s.pins.startSense = false)
    (hrow : s.srv.row = .record) (hon : s.srv.capOn = true) :
    ∃ t, exec .pause s = .next t ∧ t.trc.st = .recPause ∧ t.trc.phase = .backSpace ∧ t.trc.writing = false
      ∧ t.trc.pausePoint = some s.pos.counter ∧ t.srv.row = .backSpace ∧ t.srv.dir = .backward
      ∧ t.srv.capLock = false ∧ t.srv.capDuty = s.srv.capDuty
      ∧ t.srv.run = some ⟨0, 12 / s.srv.speed.m * 30⟩ ∧ t.pos.markWrite = none ∧ t.pos.counter = s.pos.counter
      ∧ Answered 0x04 [] [] (answer .done) s t ∧ SameBut [.trc, .srv, .pos, .mem, .mpath, .rqu] s t := by
  have hreq := congrArg some (requestPause_record (s := atRequest 0x04 s) ho hs hb)
  have hwork := (((atRequest_start hi 0x04 [.trc, .srv, .pos]).clearRewind.on (readyToPause_frame _)).enter_quiet .recPause
    (hostOrigin (atRequest 0x04 s)) false (by simpa using ho)).on (startRun_frame (framePulses s.srv.speed 30) _)
  obtain ⟨t, hx, htrc, hsrv, hpos, hans, hsame⟩ := hwork.answered hreq hh hi
  have hv := hsrv.trans (backSpace_srv (s := clearRewind (atRequest 0x04 s)) _ _ hm)
  have hn : s.srv.row ≠ .backSpace := by rw [hrow]; decide
  have hc : s.srv.row.capstan s.srv.capOn = some (false, .forward) := by rw [hrow, hon]; rfl
  have hplace := enterCore_place .recPause false (readyToPause (clearRewind (atRequest 0x04 s)))
  obtain ⟨hduty, hlock⟩ := drive_capTurn (fr30 := s.straps.fr30) (now := s.now) (dflt := setSpeed s.mpath.settings)
    (on := false) (row := .backSpace) (b := (false, .backward)) hn hc rfl (by decide)
  refine ⟨t, hx, ?_, ?_, ?_, ?_, ?_, ?_, ?_, ?_, ?_, ?_, ?_, hans, hsame⟩
  iterate 4 · simp [htrc]
  · rw [hv]; exact drive_row
  · rw [hv]; exact drive_dir hn
  · rw [hv]; exact hlock
  · rw [hv]; exact hduty
  · rw [hv]; rfl
  · rw [hpos]; exact (congrArg Pos.markWrite (enter_pos ..)).trans (hplace.markWrite.trans (stopWriting_markWrite hw))
  · rw [hpos]; exact (congrArg Pos.counter (enter_pos ..)).trans (hplace.counter.trans (stopWriting_counter _))

/-- RESUME at rest is accepted, and catch-up begins. -/
theorem resumeAtRest {s : State} (hh : HostRuns s) (hi : ScheduleIdle s) (ho : s.trc.owner = .panel)
    (hs : s.trc.st = .recPause) (hp : s.trc.phase = .atRest) (hm : s.pins.mainGood = true) (he : s.pins.endSense = false)
    (hrow : s.srv.row = .rest) :
    ∃ t, exec .resume s = .next t ∧ t.trc.st = .recPause ∧ t.trc.phase = .catchUp
      ∧ t.trc.resumeBy = ⟨s.rqu.tag, .request⟩ ∧ t.srv.row = .catchUp ∧ t.srv.dir = .forward ∧ t.srv.capDuty = 384
      ∧ t.srv.run = some ⟨0, 12 / s.srv.speed.m * 30⟩ ∧ t.pos.counter = s.pos.counter
      ∧ Answered 0x05 [] [] (answer .accepted) s t ∧ SameBut [.trc, .srv, .pos, .mem, .mpath, .rqu] s t := by
  have hreq := congrArg some ((requestResume_atRest (s := atRequest 0x05 s) ho hs hp).trans
    (congrArg (·, answer .accepted) (startCatchUp_clear (s := clearRewind (atRequest 0x05 s)) _ hs he)))
  have hwork := ((atRequest_start hi 0x05 [.trc, .srv, .pos]).clearRewind.on (catchingUp_frame (hostOrigin (atRequest 0x05 s)) _)).on
    (startRun_frame (pausePulses (catchingUp (hostOrigin (atRequest 0x05 s)) (clearRewind (atRequest 0x05 s)))) _)
  obtain ⟨t, hx, htrc, hsrv, hpos, hans, hsame⟩ := hwork.answered hreq hh hi
  obtain ⟨c, hc⟩ := catchingUp_trc (hostOrigin (atRequest 0x05 s)) (clearRewind (atRequest 0x05 s))
  have hd := catchingUp_srv (o := hostOrigin (atRequest 0x05 s)) (s := clearRewind (atRequest 0x05 s)) hs hm
  have hn : s.srv.row ≠ .catchUp := by rw [hrow]; decide
  have hspeed : (catchingUp (hostOrigin (atRequest 0x05 s)) (clearRewind (atRequest 0x05 s))).srv.speed = s.srv.speed := by
    rw [hd]
    exact (drive_speed hn).trans (by simp [Srv.takeDefault])
  have hv := hsrv.trans (congrArg (Srv.startRun _) hd)
  have hq := htrc.trans hc
  refine ⟨t, hx, ?_, ?_, ?_, ?_, ?_, ?_, ?_, ?_, hans, hsame⟩
  · rw [hq]; exact hs
  · rw [hq]
  · rw [hq]; rfl
  · rw [hv]; exact drive_row
  · rw [hv]; exact drive_dir hn
  · rw [hv]; exact (drive_capStart hn (by rw [hrow]; rfl) rfl).1
  · rw [hv, pausePulses, hspeed]; rfl
  · rw [hpos]; exact catchingUp_counter (hostOrigin (atRequest 0x05 s)) (clearRewind (atRequest 0x05 s))

end Sys2Proof.Machine

open Sys2Proof Sys2Proof.Machine

/-- Settles O19: one lemma for each request and state. -/
theorem pauseAndResume : Obligations.PauseAndResume := by
  refine ⟨?_, ?_, ?_⟩
  · intro s hh hi ho hs hm hrow
    exact pauseInPlay hh hi ho hs hm hrow
  · intro s hh hi ho hs hw hm hb hrow hon
    exact pauseInRecord hh hi ho hs hw hm hb hrow hon
  · intro s hh hi ho hs hp hm he hrow
    exact resumeAtRest hh hi ho hs hp hm he hrow

section
namespace Sys2Proof.Machine

/-! ### EJECT -/

theorem requestEject_unthreaded {s : State} (ho : s.trc.owner = .panel) (hs : s.trc.st = .unthreaded) :
    requestEject s = (beginEject (hostOrigin s) (clearRewind s), answer .accepted) := by
  simp [requestEject, ejectByTable, ownedByPanel, ho, hs]

theorem requestEject_stop {s : State} (ho : s.trc.owner = .panel) (hs : s.trc.st = .stop) :
    requestEject s = (beginUnthread (some ⟨.eject, hostOrigin s⟩) .auto (clearRewind s), answer .accepted) := by
  have hc : stopSearch (clearRewind s) = clearRewind s := stopSearch_of_ne (by simp [hs])
  simp [requestEject, ejectByTable, ownedByPanel, ho, hs, hc]

/-- R13: an eject is the entry of EJECTING under what it ends with. -/
theorem beginEject_eq (o : Origin) (s : State) :
    beginEject o s = enter .ejecting o true false (s.setTrc { s.trc with pending := none, op := o, reverseRun := false }) :=
  rfl

/-- R12: the state in which TRC enters UNTHREADING, under what follows it. -/
def readyToUnthread (p : Option Target) (o : Origin) (s : State) : State :=
  s.setTrc { s.trc with pending := p, op := o }

theorem readyToUnthread_frame (p : Option Target) (o : Origin) (s : State) : SameBut [.trc] s (readyToUnthread p o s) :=
  setTrc_frame s _

@[simp] theorem readyToUnthread_trc (p : Option Target) (o : Origin) (s : State) :
    (readyToUnthread p o s).trc = { s.trc with pending := p, op := o } := rfl

theorem beginUnthread_eq (p : Option Target) (o : Origin) {s : State} (hw : s.trc.writing = false) :
    beginUnthread p o s = enter .unthreading o true false (readyToUnthread p o s) := by
  rw [beginUnthread, stopWriting_of_not hw]
  rfl

end Sys2Proof.Machine

open Sys2Proof Sys2Proof.Machine

/-- Settles O20: both entries load the reverse motor; from STOP the drives of a still tape are switched off. -/
theorem ejectBegins : Obligations.EjectBegins := by
  constructor
  · intro s hh hi ho hs hrow
    have hreq := congrArg some (requestEject_unthreaded (s := atRequest 0x0A s) ho hs)
    rw [beginEject_eq] at hreq
    obtain ⟨t, hx, htrc, hsrv, hpos, hans, hsame⟩ := (((atRequest_start hi 0x0A [.trc, .srv, .pos]).clearRewind.setTrc
      _).enter_quiet .ejecting _ false (by exact ho)).answered hreq hh hi
    refine ⟨t, hx, ?_, ?_, ?_, ?_, ?_, ?_, ?_, ?_, hans, hsame⟩
    iterate 6 · simp [htrc, hostOrigin]
    · rw [hsrv, enter_srv, enterCore_row, enterCore_rowOf _ _ _ (by decide) (by decide)]; rfl
    · rw [hpos, enter_pos, enterCore_counter]; rfl
  · intro s hh hi ho hs hw hm hrow
    have hreq := congrArg some (requestEject_stop (s := atRequest 0x0A s) ho hs)
    rw [beginUnthread_eq _ _ (by simpa using hw)] at hreq
    obtain ⟨t, hx, htrc, hsrv, hpos, hans, hsame⟩ := (((atRequest_start hi 0x0A [.trc, .srv, .pos]).clearRewind.setTrc
      _).enter_quiet .unthreading _ false (by exact ho)).answered hreq hh hi
    have hv : t.srv = s.srv.drive true s.straps.fr30 s.now (setSpeed s.mpath.settings) .allOff false := by
      refine hsrv.trans (enter_drive ?_ (enterCore_rowOf _ _ _ (by decide) (by decide)) _ _)
      exact hm
    have hn : s.srv.row ≠ .allOff := by rw [hrow]; decide
    refine ⟨t, hx, ?_, ?_, ?_, ?_, ?_, ?_, ?_, ?_, ?_, ?_, ?_, hans, hsame⟩
    iterate 5 · simp [htrc, hostOrigin]
    · rw [hv, drive_row]
    · rw [hv, drive_drumDuty hn]; rfl
    · rw [hv, (drive_capOff hn rfl).1]
    · rw [hv, drive_reelOff hn rfl]
    · rw [hv, drive_drumLock hn]; rfl
    · rw [hpos, enter_pos, enterCore_counter]; rfl

end

end

section
/-! LEMMA. RECORD from STOP (R16, R18), at once and paused. -/

namespace Sys2Proof.Machine

/-- R38: a speed set while the capstan stands changes the speed and its origin alone. -/
theorem setSpeed_stopped {v : Srv} (h : v.row.capstan v.capOn = none) (now : Nat) (m : Speed) (o : SpeedOrigin) :
    v.setSpeed now m o = { v with speed := m, origin := o } := by
  simp [Srv.setSpeed, h]

/-- R17: a state that does not wait for the rail begins the drum's allowance while the lock that it requires is missing. -/
theorem enterCore_drumWaits {st : TransportState} {on : Bool} {s : State} {need : DrumLock} (hn : drumNeed st = some need)
    (hw : waitsForRail st = false) (hm : drumMeets need (enterCore st on s).srv.drumLock = false) :
    (enterCore st on s).trc.drumAllow = some s.now := by
  rw [enterCore_drumAllow, if_pos]
  simp [drumMissing, hn, hw, hm]

theorem speedOf_toByte (m : Speed) : speedOf (Byte.of m.m).toNat = some m := by cases m <;> rfl

theorem bool_of_flag {b : Byte} (h : b.toNat < 2) : (b != 0) = (b == 1) := by
  have hb : b = 0 ∨ b = 1 := by bv_omega
  rcases hb with rfl | rfl <;> rfl

/-- R16: the state in which a RECORD enters its state: its speed is in use, and its mark flag is mark due. -/
def readyToRecord (m : Speed) (mark : Bool) (s : State) : State :=
  useSpeed m .recorded (s.setTrc { s.trc with markDue := mark })

section
variable (m : Speed) (mark : Bool) (s : State)

theorem readyToRecord_frame : SameBut [.trc, .srv, .pos] s (readyToRecord m mark s) :=
  ((setTrc_frame s _).mono (by simp)).with ((useSpeed_frame m .recorded _).mono (by simp))

@[simp] theorem readyToRecord_trc : (readyToRecord m mark s).trc = { s.trc with markDue := mark } := by
  simp [readyToRecord]

theorem readyToRecord_srv (h : s.srv.row.capstan s.srv.capOn = none) :
    (readyToRecord m mark s).srv = { s.srv with speed := m, origin := .recorded } := by
  rw [readyToRecord, useSpeed_srv]
  exact setSpeed_stopped h _ _ _

@[simp] theorem readyToRecord_counter : (readyToRecord m mark s).pos.counter = s.pos.counter :=
  (useSpeed_place m .recorded (s.setTrc { s.trc with markDue := mark })).counter

@[simp] theorem readyToRecord_pins : (readyToRecord m mark s).pins = s.pins :=
  readyToRecord_frame m mark s .pins (by decide)

@[simp] theorem readyToRecord_now : (readyToRecord m mark s).now = s.now := readyToRecord_frame m mark s .now (by decide)

@[simp] theorem readyToRecord_straps : (readyToRecord m mark s).straps = s.straps :=
  readyToRecord_frame m mark s .straps (by decide)
@[simp] theorem readyToRecord_mpath : (readyToRecord m mark s).mpath = s.mpath :=
  readyToRecord_frame m mark s .mpath (by decide)

end

/-- R7, R16: a RECORD of the current source, from STOP with the main rail good. -/
theorem requestRecord_stop {s : State} {m : Speed} (ho : s.trc.owner = .panel) (hs : s.trc.st = .stop)
    (hp : s.trc.pending = none) (ht : s.trc.tab = true) (hm : s.pins.mainGood = true) (h0 : s.rqu.arg0 = 0)
    (h3 : s.rqu.arg3 = Byte.of m.m) (h4 : s.rqu.arg4.toNat < 2) (h5 : s.rqu.arg5.toNat < 2) :
    requestRecord s =
      (enterRecord m (s.rqu.arg4 == 1) (s.rqu.arg5 == 1) (hostOrigin s) true (clearRewind s), answer .done) := by
  have hsrc : recordSource (0 : Byte) = some .current := rfl
  have hbad : recordBadArg s.rqu = none := by
    simp only [recordBadArg, h0, hsrc, h3, speedOf_toByte]
    simp [Nat.not_le.mpr h4, Nat.not_le.mpr h5]
  have htab : recordTable s.trc = none := by simp [recordTable, hs, ht]
  simp only [requestRecord, hbad, htab, ownedByPanel, ho, h0, hsrc, recordTune, Option.getD_some, h3, speedOf_toByte,
    bool_of_flag h4, bool_of_flag h5]
  simp [takeRecord, hs, hp, hm]

/-- R16: RECORD at once, while the drum has no PHASE_LOCK, enters RECORD with the capstan held. -/
theorem enterRecord_atOnce {m : Speed} {mark : Bool} {o : Origin} {s : State}
    (hc : s.srv.row.capstan s.srv.capOn = none) (hl : s.srv.drumLock ≠ .phase) (he : s.pins.endSense = false) :
    enterRecord m mark false o true s = enter .record o true false (readyToRecord m mark s) := by
  have hb : ((readyToRecord m mark s).srv.drumLock == .phase) = false := by
    rw [readyToRecord_srv _ _ _ hc]; simpa using hl
  have hw : tryWriting (enter .record o true false (readyToRecord m mark s))
      = enter .record o true false (readyToRecord m mark s) := by
    simp [tryWriting, enterCore_srv, drive_capOn]
  have hd : motionDir (enter .record o true false (readyToRecord m mark s)).trc = some .forward := by
    simp [motionDir]
  show meetLimit (tryWriting (enter .record o true ((readyToRecord m mark s).srv.drumLock == .phase)
    (readyToRecord m mark s))) = _
  rw [hb, hw, meetLimit_forward hd (by simpa using he)]

/-- R18: RECORD with start paused enters REC_PAUSE and runs the tape back. -/
theorem enterRecord_paused {m : Speed} {mark : Bool} {o : Origin} {s : State}
    (hc : s.srv.row.capstan s.srv.capOn = none) (hb : s.pins.startSense = false) :
    enterRecord m mark true o true s =
      startRun (framePulses m 30) (enter .recPause o true false (readyToPause (readyToRecord m mark s))) := by
  have h := beginPause_quiet (s := readyToRecord m mark s) o (by simpa using hb)
  rw [readyToRecord_srv _ _ _ hc] at h
  exact h

/-- What the two forms of RECORD start from: STOP under PANEL with the drum running short of PHASE_LOCK, nothing held and
no limit met, and arguments that name the current source and a speed. -/
structure RecordStart (m : Speed) (s : State) : Prop where
  owner : s.trc.owner = .panel
  stop : s.trc.st = .stop
  free : s.trc.pending = none
  tab : s.trc.tab = true
  writing : s.trc.writing = false
  main : s.pins.mainGood = true
  endOpen : s.pins.endSense = false
  startOpen : s.pins.startSense = false
  row : s.srv.row = .still
  lock : s.srv.drumLock ≠ .phase
  source : s.rqu.arg0 = 0
  speed : s.rqu.arg3 = Byte.of m.m
  flag : s.rqu.arg4.toNat < 2

/-- RECORD at once. -/
theorem recordAtOnce {m : Speed} {s : State} (hh : HostRuns s) (hi : ScheduleIdle s) (h : RecordStart m s)
    (h5 : s.rqu.arg5 = 0) : ∃ t, exec .record s = .next t
      ∧ t.trc.st = .record ∧ t.trc.markDue = (s.rqu.arg4 == 1) ∧ t.trc.writing = false
      ∧ t.srv.row = .record ∧ t.srv.capOn = false ∧ t.srv.speed = m ∧ t.srv.origin = .recorded
      ∧ t.srv.capDuty = 0 ∧ t.srv.reelDuty = 192 ∧ t.srv.dir = .forward ∧ t.srv.drumDuty = s.srv.drumDuty
      ∧ t.trc.drumAllow = some s.now ∧ t.pos.counter = s.pos.counter
      ∧ Answered 0x02 [] [] (answer .done) s t ∧ SameBut [.trc, .srv, .pos, .mem, .mpath, .rqu] s t := by
  obtain ⟨ho, hs, hp, ht, hw, hm, he, hb, hrow, hl, h0, h3, h4⟩ := h
  have hc : s.srv.row.capstan s.srv.capOn = none := by rw [hrow]; rfl
  have hreq := requestRecord_stop (s := atRequest 0x02 s) ho hs hp ht hm h0 h3 h4 (by
    show s.rqu.arg5.toNat < 2
    rw [h5]; decide)
  have h5' : ((atRequest 0x02 s).rqu.arg5 == 1) = false := by rw [atRequest_rqu, h5]; rfl
  rw [h5', enterRecord_atOnce (s := clearRewind (atRequest 0x02 s)) hc hl he] at hreq
  have hwork := ((atRequest_start hi 0x02 [.trc, .srv, .pos]).clearRewind.on (readyToRecord_frame m (s.rqu.arg4 == 1) _)).enter_quiet .record
    (hostOrigin (atRequest 0x02 s)) false (by simpa using ho)
  obtain ⟨t, hx, htrc, hsrv, hpos, hans, hsame⟩ := hwork.answered (congrArg some hreq) hh hi
  have hv : t.srv = Srv.drive true s.straps.fr30 s.now (setSpeed s.mpath.settings) .record false
      { s.srv with speed := m, origin := .recorded } := by
    rw [hsrv, enter_srv, enterCore_srv, readyToRecord_srv _ _ (clearRewind (atRequest 0x02 s)) hc,
      enterCore_rowOf _ _ _ (by decide) (by decide)]
    simp only [readyToRecord_pins, readyToRecord_straps, readyToRecord_now, readyToRecord_mpath]
    show Srv.drive s.pins.mainGood _ _ _ _ _ _ = _
    rw [hm]
    rfl
  have hn : ({ s.srv with speed := m, origin := .recorded } : Srv).row ≠ .record := by
    show s.srv.row ≠ _
    rw [hrow]; decide
  refine ⟨t, hx, ?_, ?_, ?_, ?_, ?_, ?_, ?_, ?_, ?_, ?_, ?_, ?_, ?_, hans, hsame⟩
  · simp [htrc]
  · simp [htrc]
  · simp [htrc, hw]
  · rw [hv, drive_row]
  · rw [hv, drive_capOn]
  · rw [hv, drive_speed hn]; simp [Srv.takeDefault]
  · rw [hv, drive_origin hn]
  · rw [hv, (drive_capOff hn rfl).1]
  · rw [hv, drive_reelDuty hn (by show s.srv.row.reel ≠ _; rw [hrow]; decide)]; rfl
  · rw [hv, drive_dir hn]; rfl
  · rw [hv, drive_drumDuty hn]; simp [hrow, Row.drumRuns]
  · have hlock : t.srv.drumLock = s.srv.drumLock := by
      rw [hv, drive_drumLock hn]; simp [hrow, Row.drumRuns]
    rw [hsrv, enter_srv] at hlock
    rw [htrc, enter_trc, enterCore_drumWaits (need := .phase) rfl rfl (by rw [hlock]; simpa [drumMeets] using hl)]
    simp
  · simp [hpos]

/-- RECORD with start paused. -/
theorem recordPaused {m : Speed} {s : State} (hh : HostRuns s) (hi : ScheduleIdle s) (h : RecordStart m s)
    (h5 : s.rqu.arg5 = 1) : ∃ t, exec .record s = .next t
      ∧ t.trc.st = .recPause ∧ t.trc.phase = .backSpace ∧ t.trc.pausePoint = some s.pos.counter
      ∧ t.trc.markDue = (s.rqu.arg4 == 1) ∧ t.trc.writing = false
      ∧ t.srv.row = .backSpace ∧ t.srv.dir = .backward ∧ t.srv.capDuty = 384 ∧ t.srv.reelDuty = 192
      ∧ t.srv.speed = m ∧ t.srv.origin = .recorded ∧ t.srv.run = some ⟨0, 12 / m.m * 30⟩
      ∧ t.pos.counter = s.pos.counter
      ∧ Answered 0x02 [] [] (answer .done) s t ∧ SameBut [.trc, .srv, .pos, .mem, .mpath, .rqu] s t := by
  obtain ⟨ho, hs, hp, ht, hw, hm, he, hb, hrow, hl, h0, h3, h4⟩ := h
  have hc : s.srv.row.capstan s.srv.capOn = none := by rw [hrow]; rfl
  have hreq := requestRecord_stop (s := atRequest 0x02 s) ho hs hp ht hm h0 h3 h4 (by
    show s.rqu.arg5.toNat < 2
    rw [h5]; decide)
  have h5' : ((atRequest 0x02 s).rqu.arg5 == 1) = true := by rw [atRequest_rqu, h5]; rfl
  rw [h5', enterRecord_paused (s := clearRewind (atRequest 0x02 s)) hc hb] at hreq
  have hwork := ((((atRequest_start hi 0x02 [.trc, .srv, .pos]).clearRewind.on (readyToRecord_frame m (s.rqu.arg4 == 1) _)).on
    (readyToPause_frame _)).enter_quiet .recPause (hostOrigin (atRequest 0x02 s)) false (by simpa using ho)).on
    (startRun_frame (framePulses m 30) _)
  obtain ⟨t, hx, htrc, hsrv, hpos, hans, hsame⟩ := hwork.answered (congrArg some hreq) hh hi
  have hv : t.srv = (Srv.drive true s.straps.fr30 s.now (setSpeed s.mpath.settings) .backSpace false
      { s.srv with speed := m, origin := .recorded }).startRun (framePulses m 30) := by
    rw [hsrv, backSpace_srv _ _ (by simpa using hm), readyToRecord_srv _ _ (clearRewind (atRequest 0x02 s)) hc]
    simp only [readyToRecord_straps, readyToRecord_now, readyToRecord_mpath]
    rfl
  have hn : ({ s.srv with speed := m, origin := .recorded } : Srv).row ≠ .backSpace := by
    show s.srv.row ≠ _
    rw [hrow]; decide
  refine ⟨t, hx, ?_, ?_, ?_, ?_, ?_, ?_, ?_, ?_, ?_, ?_, ?_, ?_, ?_, hans, hsame⟩
  iterate 5 · simp [htrc]
  · rw [hv]; exact drive_row
  · rw [hv]; exact drive_dir hn
  · rw [hv]; exact (drive_capStart hn hc rfl).1
  · rw [hv]; exact drive_reelDuty hn (by show s.srv.row.reel ≠ _; rw [hrow]; decide)
  · rw [hv]; exact (drive_speed hn).trans (by simp [Srv.takeDefault])
  · rw [hv]; exact drive_origin hn
  · rw [hv]; rfl
  · simp [hpos, startRun]

end Sys2Proof.Machine

open Sys2Proof Sys2Proof.Machine

/-- Settles O18: both forms start from the same state, and use the speed that RECORD names. -/
theorem recordFromStop : Obligations.RecordFromStop := by
  intro s m hh hi ho hs hp ht hm hrow hon hl he hb hw h0 h3 h4
  have h : RecordStart m s := ⟨ho, hs, hp, ht, hw, hm, he, hb, hrow, hl, h0, h3, h4⟩
  exact ⟨recordAtOnce hh hi h, recordPaused hh hi h⟩

end

section
/-! LEMMA. Searches that start from STOP (R24, R25). -/

namespace Sys2Proof.Machine

/-- R29: the row of a search. -/
def Search.row (k : Search) : Row := if k.phase = .wind then .seekWind k.dir else .seekSlow k.dir

theorem Search.row_dir (k : Search) : k.row.dir = some k.dir := by unfold Search.row; split <;> rfl

/-- The state in which TRC enters SEEK. -/
def readyToSeek (k : Search) (s : State) : State := s.setTrc { s.trc with search := some k }

theorem readyToSeek_row (k : Search) (s : State) : rowOf (enterCore .seek false (readyToSeek k s)).trc = k.row := by
  obtain ⟨_, _, _, phase, _, _, _, _, _⟩ := k
  cases phase <;> simp [rowOf, readyToSeek, Search.row]

/-- 1.9: the search of a GOTO that starts at a counter. -/
def gotoSearch (target c : Int) (tag : Byte) (now : Nat) : Search :=
  { kind := .goto, tag, dir := if c < target then .forward else .backward,
    phase := if (target - c).natAbs ≤ 250 then .approach else .wind,
    target, count := 0, counted := 0, start := c, since := now }

/-- 1.9: the search of an INDEX_SEARCH that starts at a counter. -/
def indexSearch (d : Dir) (n : Nat) (c : Int) (tag : Byte) (now : Nat) : Search :=
  { kind := .index, tag, dir := d, phase := .wind, target := 0, count := n, counted := 0, start := c, since := now }

section
variable {s : State} {o : Origin}

/-- R24: a GOTO to the counter itself, in STOP. -/
theorem startGoto_here {target : Int} (h : s.pos.counter = target) (hs : s.trc.st = .stop) :
    startGoto target o true s = post (evSearch 0x01 o.tag .goto) s := by
  simp [startGoto, h, hs]

/-- R24: a GOTO elsewhere enters SEEK, while no limit sensor is active. -/
theorem startGoto_away {target : Int} (h : s.pos.counter ≠ target) (he : s.pins.endSense = false)
    (hb : s.pins.startSense = false) :
    startGoto target o true s = enter .seek o true false (readyToSeek (gotoSearch target s.pos.counter o.tag s.now) s) := by
  unfold startGoto
  dsimp only
  rw [if_neg h]
  exact meetLimit_clear (by simpa using he) (by simpa using hb)

/-- R25: an INDEX_SEARCH enters SEEK, while no limit sensor is active. -/
theorem startIndex_clear {d : Dir} {n : Nat} (he : s.pins.endSense = false) (hb : s.pins.startSense = false) :
    startIndex d n o true s = enter .seek o true false (readyToSeek (indexSearch d n s.pos.counter o.tag s.now) s) :=
  meetLimit_clear (by simpa using he) (by simpa using hb)

/-- R7: a search request in STOP starts its search. -/
theorem requestSearch_stop {req : TargetRequest} {start : State → State} (ho : s.trc.owner = .panel)
    (hs : s.trc.st = .stop) (hp : s.trc.pending = none) :
    requestSearch req start s = (start (clearRewind s), answer .accepted) := by
  have hc : stopSearch (clearRewind s) = clearRewind s := stopSearch_of_ne (by simp [hs])
  simp [requestSearch, ownedByPanel, motionTable, ho, hs, hp, hc]

end

/-- What a search that starts from STOP finds: nothing held, the main rail good and no limit met. -/
structure SearchStart (s : State) : Prop where
  owner : s.trc.owner = .panel
  stop : s.trc.st = .stop
  free : s.trc.pending = none
  main : s.pins.mainGood = true
  endOpen : s.pins.endSense = false
  startOpen : s.pins.startSense = false
  row : s.srv.row = .still

/-- A request that enters SEEK. -/
theorem seek_answered {code : Byte} {k : Search} {o : Origin} {s : State} (hh : HostRuns s) (hi : ScheduleIdle s)
    (h : SearchStart s) (hreq : ownerActs code (atRequest code s) =
      some (enter .seek o true false (readyToSeek k (clearRewind (atRequest code s))), answer .accepted)) :
    ∃ t, hostCycle (hostWriteAt offCommand code) s = .next t ∧ t.trc.st = .seek ∧ t.trc.search = some k
      ∧ t.srv.row = k.row ∧ t.srv.reelDuty = k.row.reel.startDuty ∧ t.srv.dir = k.dir ∧ t.pos.counter = s.pos.counter
      ∧ Answered code [] [] (answer .accepted) s t ∧ SameBut [.trc, .srv, .pos, .mem, .mpath, .rqu] s t := by
  obtain ⟨ho, hs, hp, hm, he, hb, hrow⟩ := h
  obtain ⟨t, hx, htrc, hsrv, hpos, hans, hsame⟩ := (((atRequest_start hi code [.trc, .srv, .pos]).clearRewind.setTrc
    _).enter_quiet .seek o false (by exact ho)).answered hreq hh hi
  have hv : t.srv = s.srv.drive true s.straps.fr30 s.now (setSpeed s.mpath.settings) k.row false := by
    refine hsrv.trans (enter_drive ?_ (readyToSeek_row k _) o true)
    exact hm
  have hn : s.srv.row ≠ k.row := by
    rw [hrow]
    unfold Search.row
    split <;> exact nofun
  refine ⟨t, hx, ?_, ?_, ?_, ?_, ?_, ?_, hans, hsame⟩
  iterate 2 · simp [htrc]
  · rw [hv, drive_row]
  · rw [hv, drive_reelDuty hn (by rw [hrow]; decide)]
  · rw [hv, drive_dir hn, k.row_dir]; rfl
  · rw [hpos, enter_pos, enterCore_counter]; rfl

/-- R24: the GOTO request in STOP, to a target within the counter's limit. -/
theorem requestGoto_stop {s : State} (ho : s.trc.owner = .panel) (hs : s.trc.st = .stop) (hp : s.trc.pending = none)
    (hlo : -(Config.counterLimit s.straps.fr30) ≤ s.rqu.arg24) (hhi : s.rqu.arg24 ≤ Config.counterLimit s.straps.fr30) :
    requestGoto s = (startGoto s.rqu.arg24 (hostOrigin s) true (clearRewind s), answer .accepted) := by
  have hr : ¬ (s.rqu.arg24 < -(Config.counterLimit s.straps.fr30) ∨ Config.counterLimit s.straps.fr30 < s.rqu.arg24) := by
    omega
  simp [requestGoto, hr, requestSearch_stop ho hs hp]

/-- 11.2: the direction byte of INDEX_SEARCH. -/
def Dir.toArg : Dir → Byte
  | .forward => 0
  | .backward => 1

/-- R25: the INDEX_SEARCH request in STOP, with its arguments in range. -/
theorem requestIndex_stop {s : State} {d : Dir} (ho : s.trc.owner = .panel) (hs : s.trc.st = .stop)
    (hp : s.trc.pending = none) (hd : s.rqu.arg0 = d.toArg) (hlo : 1 ≤ s.rqu.arg1.toNat) (hhi : s.rqu.arg1.toNat ≤ 20) :
    requestIndex s = (startIndex d s.rqu.arg1.toNat (hostOrigin s) true (clearRewind s), answer .accepted) := by
  have h1 : (!(decide (1 ≤ s.rqu.arg1.toNat) && decide (s.rqu.arg1.toNat ≤ 20))) = false := by simp [hlo, hhi]
  cases d <;> simp only [requestIndex, hd, Dir.toArg, h1] <;> exact requestSearch_stop ho hs hp

/-- A GOTO to the counter itself. -/
theorem gotoHere {s : State} (hh : HostRuns s) (hi : ScheduleIdle s) (h : SearchStart s)
    (hlo : -(Config.counterLimit s.straps.fr30) ≤ s.rqu.arg24) (hhi : s.rqu.arg24 ≤ Config.counterLimit s.straps.fr30)
    (hd : s.rqu.arg24 = s.pos.counter) (hroom : EventRoom 1 s) :
    ∃ t, exec .goto s = .next t ∧ t.trc = { s.trc with rewindDue := false }
      ∧ Answered 0x0C [evSearch 0x01 s.rqu.tag .goto] (eventGroups s [evSearch 0x01 s.rqu.tag .goto])
          (answer .accepted) s t
      ∧ SameBut [.trc, .mem, .mpath, .rqu] s t := by
  have hreq := requestGoto_stop (s := atRequest 0x0C s) h.owner h.stop h.free hlo hhi
  rw [atRequest_rqu, startGoto_here (s := clearRewind (atRequest 0x0C s)) hd.symm h.stop] at hreq
  have hwork := (atRequest_start hi 0x0C [.trc]).clearRewind.post (evSearch 0x01 s.rqu.tag .goto) hroom.overflow
    (by have := hroom.count; exact Nat.le_of_succ_le_succ this) (by
      show (s.mpath.queue).length + 0 < 4
      rw [hh.drained.queue]; decide)
  obtain ⟨t, hx, htrc, -, -, hans, hsame⟩ := hwork.answered (congrArg some hreq) hh hi
  exact ⟨t, hx, by rw [htrc, post_trc]; rfl, hans, hsame⟩

end Sys2Proof.Machine

open Sys2Proof Sys2Proof.Machine

/-- Settles O21: a GOTO to the counter only posts; every other search enters SEEK with its context. -/
theorem searchesStart : Obligations.SearchesStart := by
  intro s hh hi ho hs hp hm he hb hrow _
  have h : SearchStart s := ⟨ho, hs, hp, hm, he, hb, hrow⟩
  constructor
  · intro d hlo hhi hd
    constructor
    · rintro rfl hroom
      exact gotoHere hh hi h hlo hhi (by simpa using hd) hroom
    · intro hne
      have hreq := requestGoto_stop (s := atRequest 0x0C s) ho hs hp hlo hhi
      rw [startGoto_away (s := clearRewind (atRequest 0x0C s)) (by
        show s.pos.counter ≠ s.rqu.arg24
        omega) he hb] at hreq
      obtain ⟨t, hx, hst, hk, hr, -, hdir, hc, hans, hsame⟩ := seek_answered (code := 0x0C) hh hi h (congrArg some hreq)
      have hto : s.pos.counter < s.rqu.arg24 ↔ 0 < d := by omega
      have hfar : (s.rqu.arg24 - s.pos.counter).natAbs = d.natAbs := by rw [hd]; congr 1; omega
      refine ⟨t, hx, hst, ?_, ?_, ?_, hc, hans, hsame⟩
      · rw [hk]
        show some (gotoSearch s.rqu.arg24 s.pos.counter s.rqu.tag s.now) = _
        simp only [gotoSearch, hto, hfar]
      · rw [hr]
        show (gotoSearch s.rqu.arg24 s.pos.counter s.rqu.tag s.now).row = _
        simp only [gotoSearch, Search.row, hto, hfar]
        by_cases hnear : d.natAbs ≤ 250 <;> simp [hnear]
      · rw [hdir]
        show (if s.pos.counter < s.rqu.arg24 then Dir.forward else .backward) = _
        simp only [hto]
  · intro d hd hlo hhi
    have hreq := requestIndex_stop (s := atRequest 0x0B s) (d := d) ho hs hp (by
      show s.rqu.arg0 = _
      rw [hd]; cases d <;> rfl) hlo hhi
    rw [startIndex_clear (s := clearRewind (atRequest 0x0B s)) he hb] at hreq
    obtain ⟨t, hx, hst, hk, hr, hreel, hdir, hc, hans, hsame⟩ := seek_answered (code := 0x0B) hh hi h (congrArg some hreq)
    exact ⟨t, hx, hst, hk, hr, hreel, hdir, hc, hans, hsame⟩

end

section
/-! SUPPORT. Commands that post: the event's own work, told as what stands after the command. -/

namespace Sys2Proof.Machine

section
variable {ps : List Part} {evs : List Event} {n : Nat} {s u : State}

/-- R171: an event is posted where there is room for `n` events and nothing waited to drain. -/
theorem Worked.posts (h : Worked ps evs s u) (e : Event) (hr : EventRoom n s) (hd : Drained s)
    (hl : evs.length < n ∧ n ≤ 4 := by simp) (ho : OwnParts ps := by decide) : Worked ps (evs ++ [e]) s (Machine.post e u) := by
  obtain ⟨h1, h2⟩ := hl
  obtain ⟨hov, hc⟩ := hr
  exact h.post e hov (by omega) (by rw [hd.queue, List.length_nil]; omega) ho

/-- The state after a command that posted, whatever it made of the power. -/
theorem Worked.posted_powered {f : State → State} (h : Worked ps evs s u) (hf : f s = u) (hi : ScheduleIdle s)
    (hd : Drained s) (hp : s.pwr.power ≠ .backup) (hs : u.pwr.phase ≠ .stopping) (hh : u.pwr.phase ≠ .resetHold)
    (ho : OwnParts ps := by decide) :
    ∃ t, Machine.command f s = .next t ∧ t.pwr = u.pwr ∧ t.now = u.now ∧ t.pins = u.pins ∧ t.trc = u.trc ∧ t.srv = u.srv
      ∧ t.pos = u.pos ∧ Posted evs s t ∧ SameBut (ps ++ [.mpath, .rqu]) s t :=
  ⟨_, h.command hf hi hp hs hh ho, rfl, rfl, rfl, rfl, rfl, rfl, h.ended_posted hi hd ho⟩

/-- The state after a command that posted. -/
theorem Worked.posted {f : State → State} (h : Worked ps evs s u) (hf : f s = u) (hi : ScheduleIdle s) (hd : Drained s)
    (hp : PowerSteady s) (hps : .pwr ∉ ps := by decide) (ho : OwnParts ps := by decide) :
    ∃ t, Machine.command f s = .next t ∧ t.now = u.now ∧ t.pins = u.pins ∧ t.trc = u.trc ∧ t.srv = u.srv ∧ t.pos = u.pos
      ∧ Posted evs s t ∧ SameBut (ps ++ [.mpath, .rqu]) s t := by
  have hpwr : u.pwr = s.pwr := h.frame .pwr (by simpa using hps)
  obtain ⟨t, hx, -, ht⟩ := h.posted_powered hf hi hd hp.powered (by rw [hpwr]; exact hp.notStopping)
    (by rw [hpwr]; exact hp.notResetHold) ho
  exact ⟨t, hx, ht⟩

/-- The state after a command that posted nothing. -/
theorem Worked.unposted {f : State → State} (h : Worked ps [] s u) (hf : f s = u) (hi : ScheduleIdle s) (hl : LinesStand s)
    (hp : PowerSteady s) (hps : .pwr ∉ ps := by decide) (ho : OwnParts ps := by decide) :
    ∃ t, Machine.command f s = .next t ∧ t.now = u.now ∧ t.trc = u.trc ∧ t.srv = u.srv ∧ t.pos = u.pos ∧ SameBut ps s t := by
  have hpwr : u.pwr = s.pwr := h.frame .pwr (by simpa using hps)
  exact ⟨_, h.command hf hi hp.powered (by rw [hpwr]; exact hp.notStopping) (by rw [hpwr]; exact hp.notResetHold) ho,
    rfl, rfl, rfl, rfl, h.ended_quiet hi hl hpwr⟩

end

/-- A command's outcome depends on what its own work leaves. -/
theorem command_of {f : State → State} {s u : State} (h : f s = u) : command f s = command (fun _ => u) s := by
  simp only [command, event, h]

theorem reachLimit_frame (since limit : Nat) (s : State) : SameBut [.now] s (reachLimit since limit s) :=
  reachTime_frame _ s

/-! ### A fault under PANEL (R22) -/

/-- R22: the state in which TRC enters FAULT. -/
def readyToFault (code : FaultCode) (detail : Nat) (s : State) : State :=
  (stopWriting s).setTrc
    { (stopWriting s).trc with
      fault := some ⟨code, detail⟩, pending := none, markDue := false, search := none, reverseRun := false }

theorem readyToFault_frame (code : FaultCode) (detail : Nat) (s : State) :
    SameBut [.trc, .pos] s (readyToFault code detail s) :=
  (stopWriting_frame s).with ((setTrc_frame _ _).mono (by simp))

@[simp] theorem readyToFault_trc (code : FaultCode) (detail : Nat) (s : State) : (readyToFault code detail s).trc =
    { s.trc with
      writing := false, fault := some ⟨code, detail⟩, pending := none, markDue := false, search := none
      reverseRun := false } := by
  simp [readyToFault]

@[simp] theorem readyToFault_counter (code : FaultCode) (detail : Nat) (s : State) :
    (readyToFault code detail s).pos.counter = s.pos.counter := stopWriting_counter s

theorem latchFault_panel {code : FaultCode} {detail : Nat} {s : State} (hst : s.trc.st ≠ .fault)
    (ho : s.trc.owner = .panel) : latchFault code detail s =
      notify .check (post (evTfault code detail) (enterCore .fault false (readyToFault code detail s))) := by
  have hp : (post (evTfault code detail) (enterCore .fault false (readyToFault code detail s))).trc.owner = .panel := by
    simpa using ho
  unfold latchFault
  rw [if_neg (by simpa using hst)]
  dsimp only
  split
  · rename_i h
    exact absurd (h.symm.trans hp) (by decide)
  · rfl

/-- A command whose own work is to latch a fault, after the time was reached or the pins were set. -/
theorem fault_latched {f : State → State} {code : FaultCode} {detail : Nat} {s u : State} (hf : f s = latchFault code detail u)
    (hu : SameBut [.now, .pins] s u) (hi : ScheduleIdle s) (hd : Drained s) (hr : EventRoom 1 s) (hp : PowerSteady s)
    (ho : s.trc.owner = .panel) (hst : s.trc.st ≠ .fault) :
    ∃ t, command f s = .next t
      ∧ t.trc.st = .fault ∧ t.trc.fault = some ⟨code, detail⟩ ∧ t.trc.pending = none ∧ t.trc.writing = false
      ∧ t.trc.brake = true ∧ t.trc.loadMotor = .off ∧ t.trc.loadTimer = none ∧ t.trc.search = none
      ∧ t.trc.owner = .panel ∧ t.trc.cassette = s.trc.cassette ∧ t.srv.row = .allOff
      ∧ t.pos.counter = s.pos.counter
      ∧ Posted [evTfault code detail] s t
      ∧ SameBut [.now, .pins, .trc, .srv, .pos, .mpath, .rqu] s t := by
  have htrc : u.trc = s.trc := hu .trc (by decide)
  have hpos : u.pos = s.pos := hu .pos (by decide)
  have hwork := (((((Worked.start [.now, .pins, .trc, .srv, .pos] hi.notices hi.taken).on hu).on
    (readyToFault_frame code detail u)).enterCore .fault false).posts (evTfault code detail) hr hd).check
  obtain ⟨t, hx, -, -, ht, hv, hq, hpost, hsame⟩ :=
    hwork.posted (hf.trans (latchFault_panel (by rw [htrc]; exact hst) (by rw [htrc]; exact ho))) hi hd hp
  have ht' : t.trc = (enterCore .fault false (readyToFault code detail u)).trc := by rw [ht]; exact post_trc _ _
  have hv' : t.srv = (enterCore .fault false (readyToFault code detail u)).srv := by rw [hv]; exact post_srv _ _
  have hq' : t.pos = (enterCore .fault false (readyToFault code detail u)).pos := by rw [hq]; exact post_pos _ _
  refine ⟨t, hx, ?_, ?_, ?_, ?_, ?_, ?_, ?_, ?_, ?_, ?_, ?_, ?_, hpost, hsame⟩
  iterate 10 · simp [ht', htrc, ho]
  · rw [hv', enterCore_row, enterCore_rowOf _ _ _ (by decide) (by decide)]; rfl
  · simp [hq', hpos]

/-- R11: a first threading failure reverses the load motor under a new timer. -/
theorem threadFailure_first {s : State} (ha : s.trc.attempt = 1) (hr : s.trc.reverseRun = false) : threadFailure s =
    s.setTrc { s.trc with reverseRun := true, loadMotor := .reverse, loadTimer := some s.now } := by
  simp [threadFailure, ha, hr]

/-- R11: a second threading failure is a JAM. -/
theorem threadFailure_second {s : State} (h : s.trc.attempt = 2) : threadFailure s = latchFault .jam 0 s := by
  simp [threadFailure, h]

end Sys2Proof.Machine
end

section
/-! LEMMA. What latches a fault under PANEL (R22, R11, R12, R13, R17). -/

open Sys2Proof Sys2Proof.Machine

/-- Settles O25: each cause reaches its time or sets its pin, and latches the fault. -/
theorem faultsAreLatched : Obligations.FaultsAreLatched := by
  intro c code detail s hi hd hr hp ho hmem hun hej hth hdr hca hoc hthm hst hload
  have latched {f : State → State} {u : State} (hf : f s = latchFault code detail u) (hu : SameBut [.now, .pins] s u) :=
    fault_latched hf hu hi hd hr hp ho hst
  have hnow (since limit : Nat) : SameBut [.now, .pins] s (reachLimit since limit s) :=
    (reachLimit_frame since limit s).mono (by simp)
  have hpins (x : Pins) : SameBut [.now, .pins] s (s.setPins x) := (setPins_frame s x).mono (by simp)
  simp only [List.mem_cons, List.not_mem_nil, or_false, Prod.mk.injEq] at hmem
  rcases hmem with ⟨rfl, rfl, rfl⟩ | ⟨rfl, rfl, rfl⟩ | ⟨rfl, rfl, rfl⟩ | ⟨rfl, rfl, rfl⟩ | ⟨rfl, rfl, rfl⟩ | ⟨rfl, rfl, rfl⟩
    | ⟨rfl, rfl, rfl⟩ | ⟨rfl, rfl, rfl⟩ | ⟨rfl, rfl, rfl⟩ | ⟨rfl, rfl, rfl⟩
  · obtain ⟨hs, ht⟩ := hun rfl
    obtain ⟨since, ht⟩ := Option.isSome_iff_exists.mp ht
    exact latched (by simp only [hs, ht]) (hnow since Config.threadLimit)
  · obtain ⟨hs, ht⟩ := hej rfl
    obtain ⟨since, ht⟩ := Option.isSome_iff_exists.mp ht
    exact latched (by simp only [hs, ht]) (hnow since Config.ejectLimit)
  · obtain ⟨hs, ht, ha⟩ := hth rfl
    obtain ⟨since, ht⟩ := Option.isSome_iff_exists.mp ht
    exact latched (by simp only [hs, ht]; exact threadFailure_second ha) (hnow since Config.threadLimit)
  · obtain ⟨since, ht⟩ := Option.isSome_iff_exists.mp (hdr rfl)
    exact latched (by simp only [ht]) (hnow since Config.drumAllowance)
  · obtain ⟨since, ht⟩ := Option.isSome_iff_exists.mp (hca rfl)
    exact latched (by simp only [ht]) (hnow since Config.capstanAllowance)
  · exact latched (by simp [hoc]) (hpins { s.pins with motorOc := setOc s.pins.motorOc 0 true })
  · exact latched (by simp [hoc]) (hpins { s.pins with motorOc := setOc s.pins.motorOc 1 true })
  · exact latched (by simp [hoc]) (hpins { s.pins with motorOc := setOc s.pins.motorOc 2 true })
  · exact latched (by simp [hoc, hload rfl]) (hpins { s.pins with motorOc := setOc s.pins.motorOc 3 true })
  · exact latched (by simp [hthm]) (hpins { s.pins with thermal := true })

end

section
/-! LEMMA. The ends of the transport's timers (R11, R14, R15, R24). -/

namespace Sys2Proof.Machine

/-- R14: the idle timer's end unthreads. -/
theorem idleEnds {s : State} {since : Nat} (hi : ScheduleIdle s) (hp : PowerSteady s) (hl : LinesStand s)
    (ho : s.trc.owner = .panel) (hs : s.trc.st = .stop) (hw : s.trc.writing = false) (ht : s.trc.idle = some since) :
    ∃ t, exec .idleTimeout s = .next t
      ∧ t.now = max s.now (since + 300000000) ∧ t.trc.st = .unthreading ∧ t.trc.pending = none
      ∧ t.trc.op = ⟨0, .auto⟩ ∧ t.trc.loadMotor = .reverse ∧ t.trc.loadTimer = some t.now ∧ t.trc.idle = none
      ∧ t.srv.row = .allOff ∧ t.pos.counter = s.pos.counter ∧ SameBut [.now, .trc, .srv, .pos] s t := by
  have hexec : exec .idleTimeout s = command (fun _ => enter .unthreading .auto true false
      (readyToUnthread none .auto (reachLimit since Config.idleLimit s))) s :=
    command_of (by simp only [ht, hs, beq_self_eq_true, if_true]; exact beginUnthread_eq none .auto hw)
  have hwork := (((Worked.start [.now, .trc, .srv, .pos] hi.notices hi.taken).on
    (reachLimit_frame since Config.idleLimit s)).on (readyToUnthread_frame none .auto _)).enter_quiet .unthreading .auto false
    ho
  obtain ⟨t, hx, hn, htrc, hsrv, hpos, hsame⟩ := hwork.unposted (f := fun _ => _) rfl hi hl hp
  rw [hexec]
  have hnow : t.now = (readyToUnthread none .auto (reachLimit since Config.idleLimit s)).now := by rw [hn, enter_now]
  refine ⟨t, hx, hnow, ?_, ?_, ?_, ?_, ?_, ?_, ?_, ?_, hsame⟩
  iterate 2 · simp [htrc]
  · simp [htrc, Origin.auto]
  · simp [htrc]
  · simp [htrc, hnow]
  · simp [htrc]
  · rw [hsrv, enter_srv, enterCore_row, enterCore_rowOf _ _ _ (by decide) (by decide)]; rfl
  · rw [hpos, enter_pos, enterCore_counter]; rfl

/-- R15: the pause timer's end goes to STOP. -/
theorem pauseEnds {s : State} {since : Nat} (hi : ScheduleIdle s) (hp : PowerSteady s) (hd : Drained s) (hr : EventRoom 1 s)
    (ho : s.trc.owner = .panel) (hs : s.trc.st ∈ [TransportState.still, .recPause]) (hn : s.trc.pending = none)
    (ht : s.trc.pauseT = some since) :
    ∃ t, exec .pauseTimeout s = .next t
      ∧ t.now = max s.now (since + 300000000) ∧ t.trc.st = .stop ∧ t.trc.pauseT = none ∧ t.trc.idle = some t.now
      ∧ t.trc.heldResume = none ∧ t.trc.writing = false ∧ t.trc.brake = true ∧ t.srv.row = .still
      ∧ t.pos.counter = s.pos.counter
      ∧ Posted [evTransport .stop .auto] s t ∧ SameBut [.now, .trc, .srv, .pos, .mpath, .rqu] s t := by
  have hst : (s.trc.st == .still || s.trc.st == .recPause) = true := by simpa using hs
  have hexec : exec .pauseTimeout s =
      command (fun _ => enter .stop .auto false false (stopWriting (reachLimit since Config.idleLimit s))) s :=
    command_of (by simp only [ht, hst, if_true]; rfl)
  have hwork := (((((Worked.start [.now, .trc, .srv, .pos] hi.notices hi.taken).on
    (reachLimit_frame since Config.idleLimit s)).on (stopWriting_frame _)).enterCore .stop false).posts
    (evTransport .stop .auto) hr hd).report (by simpa using ho)
  obtain ⟨t, hx, htime, -, htrc, hsrv, hpos, hpost, hsame⟩ := hwork.posted (f := fun _ => _) rfl hi hd hp
  rw [← enter_loud] at htrc hsrv hpos htime
  have hnow : t.now = (reachLimit since Config.idleLimit s).now := by rw [htime, enter_now, stopWriting_now]
  rw [hexec]
  refine ⟨t, hx, hnow, ?_, ?_, ?_, ?_, ?_, ?_, ?_, ?_, hpost, hsame⟩
  iterate 2 · simp [htrc]
  · simp [htrc, hnow, ho, hn]
  iterate 3 · simp [htrc]
  · rw [hsrv, enter_srv, enterCore_row, enterCore_rowOf _ _ _ (by decide) (by decide)]; rfl
  · rw [hpos, enter_pos, enterCore_counter, stopWriting_counter]; rfl

/-- R11: the first failure of a threading reverses the load motor. -/
theorem threadingReverses {s : State} {since : Nat} (hi : ScheduleIdle s) (hp : PowerSteady s) (hl : LinesStand s)
    (hs : s.trc.st = .threading) (ha : s.trc.attempt = 1) (hr : s.trc.reverseRun = false)
    (ht : s.trc.loadTimer = some since) :
    ∃ t, exec .threadTimeout s = .next t
      ∧ t.now = max s.now (since + 6000000)
      ∧ t.trc = { s.trc with
          reverseRun := true, loadMotor := .reverse, loadTimer := some (max s.now (since + 6000000)) }
      ∧ SameBut [.now, .trc] s t := by
  have hexec : exec .threadTimeout s = command (fun _ => threadFailure (reachLimit since Config.threadLimit s)) s :=
    command_of (by simp only [hs, ht])
  have hwork := ((Worked.start [.now, .trc] hi.notices hi.taken).on (reachLimit_frame since Config.threadLimit s)).setTrc
    { s.trc with reverseRun := true, loadMotor := .reverse, loadTimer := some (max s.now (since + 6000000)) }
  obtain ⟨t, hx, hn, htrc, -, -, hsame⟩ := hwork.unposted (f := fun _ => _) rfl hi hl hp
  rw [hexec, threadFailure_first (s := reachLimit since Config.threadLimit s) ha hr]
  exact ⟨t, hx, hn, htrc, hsame⟩

/-- R24: a GOTO whose counter stands ends at STOP. -/
theorem gotoEnds {k : Search} {s : State} (hi : ScheduleIdle s) (hd : Drained s) (hr : EventRoom 2 s) (hp : PowerSteady s)
    (ho : s.trc.owner = .panel) (hs : s.trc.st = .seek) (hk : s.trc.search = some k) (hg : k.kind = .goto) :
    ∃ t, exec .searchCounterTimeout s = .next t
      ∧ t.now = max s.now (k.since + 4000000) ∧ t.trc.st = .stop ∧ t.trc.search = none ∧ t.srv.row = .still
      ∧ t.pos.counter = s.pos.counter
      ∧ Posted [evSearch 0x02 k.tag .goto, evTransport .stop .auto] s t
      ∧ SameBut [.now, .trc, .srv, .pos, .mpath, .rqu] s t := by
  have hexec : exec .searchCounterTimeout s = command (fun _ => reportState (post (evTransport .stop .auto)
      (post (evSearch 0x02 k.tag .goto) (enterCore .stop false (reachLimit k.since Config.searchLimit s))))) s :=
    command_of (by simp [searchTimeout, hs, hk, hg])
  have hwork := (((((Worked.start [.now, .trc, .srv, .pos] hi.notices hi.taken).on
    (reachLimit_frame k.since Config.searchLimit s)).enterCore .stop false).posts (evSearch 0x02 k.tag .goto) hr hd).posts
    (evTransport .stop .auto) hr hd).report (by simpa using ho)
  obtain ⟨t, hx, hn, -, htrc, hsrv, hpos, hpost, hsame⟩ := hwork.posted (f := fun _ => _) rfl hi hd hp
  rw [hexec]
  refine ⟨t, hx, ?_, ?_, ?_, ?_, ?_, hpost, hsame⟩
  · rw [hn, reportState_now, post_now, post_now, enterCore_now]; rfl
  iterate 2 · simp [htrc]
  · rw [hsrv, reportState_srv, post_srv, post_srv, enterCore_row, enterCore_rowOf _ _ _ (by decide) (by decide)]; rfl
  · rw [hpos, reportState_pos, post_pos, post_pos, enterCore_counter]; rfl

end Sys2Proof.Machine

open Sys2Proof Sys2Proof.Machine

/-- Settles O26: one lemma for each timer. -/
theorem transportTimersEnd : Obligations.TransportTimersEnd := by
  refine ⟨⟨?_, ?_⟩, ?_, ?_⟩
  · intro s since hi hp hl ho hs hw ht
    exact idleEnds hi hp hl ho hs hw ht
  · intro s since hi hp hd hr ho hs hn ht
    exact pauseEnds hi hp hd hr ho hs hn ht
  · intro s since hi hp hl hs ha hr ht
    exact threadingReverses hi hp hl hs ha hr ht
  · intro k s hi hd hr hp ho hs hk hg _
    exact gotoEnds hi hd hr hp ho hs hk hg

end

section
/-! LEMMA. The tape end (R20), the ends of threading and unthreading (R9, R12), and the cassette (R2, R3). -/

namespace Sys2Proof.Machine

/-! ### Rows with or without the main rail -/

section
variable {main fr30 : Bool} {now : Nat} {dflt : Speed} {row : Row} {on : Bool} {v : Srv}

/-- R29, R44: the drives of a change of row: powered by the main rail, or down without it. -/
def Srv.takeOrDrop (main : Bool) (now : Nat) (row : Row) (on : Bool) (v : Srv) : Srv :=
  if main then v.takeDrives now row on else v.powerDown

theorem takeOrDrop_rest : (v.takeOrDrop main now row on).speed = v.speed
    ∧ (v.takeOrDrop main now row on).origin = v.origin := by
  unfold Srv.takeOrDrop
  split
  · exact ⟨takeDrives_rest.1, takeDrives_rest.2.2.1⟩
  · exact ⟨rfl, rfl⟩

/-- A change of row, with or without the main rail. -/
theorem drive_turned (h : ¬(v.row = row ∧ v.capOn = on)) : v.drive main fr30 now dflt row on =
    (if main && row.moves on then Srv.segment now else Srv.reelsStop)
      { (v.beforeDrives fr30 now dflt row on).takeOrDrop main now row on with
        row := row, capOn := on
        dir := row.dir.getD ((v.beforeDrives fr30 now dflt row on).takeOrDrop main now row on).dir, run := none } := by
  have hc : (decide (v.row = row) && v.capOn == on) = false := by simpa using h
  simp only [Srv.drive, hc, Bool.false_eq_true, if_false]
  split <;> rfl

/-- R29: a row that sets the direction output sets it without the main rail too. -/
theorem drive_dirSet {d : Dir} (h : v.row ≠ row) (hd : row.dir = some d) :
    (v.drive main fr30 now dflt row on).dir = d := by
  rw [drive_turned fun e => h e.1, hd]
  split <;> rfl

/-- R38: a row without the capstan leaves the speed and its origin. -/
theorem drive_speed_kept (hc : row.capstan on = none) :
    (v.drive main fr30 now dflt row on).speed = v.speed ∧ (v.drive main fr30 now dflt row on).origin = v.origin := by
  by_cases h : v.row = row ∧ v.capOn = on
  · simp [Srv.drive, h]
  · have hs : v.takeDefault dflt row on = v := by simp [Srv.takeDefault, hc]
    obtain ⟨_, _, _, e⟩ := beforeDrives_eq fr30 now dflt row on v
    obtain ⟨e1, e2⟩ := takeOrDrop_rest (v := v.beforeDrives fr30 now dflt row on) (main := main) (now := now) (row := row)
      (on := on)
    rw [e, hs] at e1 e2
    rw [drive_turned h, e, hs]
    split <;> exact ⟨e1, e2⟩

end

/-! ### The tape end -/

/-- R20: the tape is stopped at a limit, and a rewind may be due. -/
def stoppedAtLimit (e : TapeEnd) (stall due : Bool) (s : State) : State :=
  let u := post (evTapeLimit e stall) (enterCore .stop false (stopWriting s))
  u.setTrc { u.trc with rewindDue := due }

@[simp] theorem stoppedAtLimit_trc (e : TapeEnd) (stall due : Bool) (s : State) :
    (stoppedAtLimit e stall due s).trc = { (enterCore .stop false (stopWriting s)).trc with rewindDue := due } := by
  simp [stoppedAtLimit]

section
variable (e : TapeEnd) (stall due : Bool) (s : State)

@[simp] theorem stoppedAtLimit_counter : (stoppedAtLimit e stall due s).pos.counter = s.pos.counter := by
  simp [stoppedAtLimit]
@[simp] theorem stoppedAtLimit_row : (stoppedAtLimit e stall due s).srv.row = .still := by
  simp [stoppedAtLimit, rowOf]
@[simp] theorem stoppedAtLimit_pins : (stoppedAtLimit e stall due s).pins = s.pins := by simp [stoppedAtLimit]

end

/-- R20: a limit under PANEL, met outside SEEK. -/
theorem limitCore_panel {s : State} (hs : s.trc.st ≠ .seek) (ho : s.trc.owner = .panel) (e : TapeEnd) (stall : Bool) :
    limitCore e stall s = reportState (post (evTransport .stop .auto)
      (stoppedAtLimit e stall (e == .ending && setAutoRewind s.mpath.settings) s)) := by
  have hk : (if s.trc.st == .seek then s.trc.search else none) = none := by simp [hs]
  unfold limitCore
  simp only [hk]
  split
  · rename_i h
    simp [ho] at h
  · simp [stoppedAtLimit]

/-- R20: no rewind is due. -/
theorem takeRewind_none {s : State} (h : s.trc.rewindDue = false) : takeRewind s = s := by simp [takeRewind, h]

/-- R20: a due rewind is taken in STOP, away from the tape's beginning. -/
theorem takeRewind_due {s : State} (hs : s.trc.st = .stop) (ho : s.trc.owner = .panel) (hr : s.trc.rewindDue = true)
    (hb : s.pins.startSense = false) : takeRewind s = enter .rew .auto false false s := by
  have hb' : (enterPosting .rew .auto false s).pins.startSense = false := by simpa [enterPosting] using hb
  simp [takeRewind, hs, ho, hr, hb', enter]

/-- END_SENSE becomes active. -/
def atEnd (s : State) : State := s.setPins { s.pins with endSense := true }

section
variable {s : State}

@[simp] theorem atEnd_trc : (atEnd s).trc = s.trc := rfl
@[simp] theorem atEnd_pos : (atEnd s).pos = s.pos := rfl
@[simp] theorem atEnd_pins : (atEnd s).pins = { s.pins with endSense := true } := rfl

theorem motion_forward (hs : s.trc.st ∈ [TransportState.play, .record, .cue, .ff]) :
    motionDir s.trc = some .forward ∧ s.trc.st ≠ .seek := by
  simp only [List.mem_cons, List.not_mem_nil, or_false] at hs
  rcases hs with e | e | e | e <;> simp [motionDir, e]

theorem tapeEnd_exec (hs : s.trc.st ∈ [TransportState.play, .record, .cue, .ff]) :
    exec (.tapeLimit .ending true) s = command (fun _ => tapeLimit .ending false (atEnd s)) s :=
  command_of (by simp [(motion_forward hs).1, atEnd])

/-- R20: END_SENSE in a forward motion under PANEL. -/
theorem tapeLimit_end (hs : s.trc.st ∈ [TransportState.play, .record, .cue, .ff]) (ho : s.trc.owner = .panel) :
    tapeLimit .ending false (atEnd s) = takeRewind (reportState (post (evTransport .stop .auto)
      (stoppedAtLimit .ending false (setAutoRewind s.mpath.settings) (atEnd s)))) := by
  rw [tapeLimit, limitCore_panel (s := atEnd s) (motion_forward hs).2 ho]
  rfl

/-- What a tape end does before a due rewind is taken. -/
theorem tapeEnd_worked {n : Nat} (due : Bool) (hi : ScheduleIdle s) (hd : Drained s) (hr : EventRoom n s)
    (hn : 2 ≤ n ∧ n ≤ 4) (ho : s.trc.owner = .panel) :
    Worked [.pins, .trc, .srv, .pos] [evTapeLimit .ending false, evTransport .stop .auto] s
      (reportState (post (evTransport .stop .auto) (stoppedAtLimit .ending false due (atEnd s)))) := by
  have h0 : Worked [.pins, .trc, .srv, .pos] [] s (atEnd s) :=
    (Worked.start _ hi.notices hi.taken).on (setPins_frame s _)
  have h1 := ((h0.on (stopWriting_frame _)).enterCore .stop false).posts (evTapeLimit .ending false) hr hd
    (by simp only [List.length_nil]; omega)
  exact ((h1.on (setTrc_frame _ _)).posts (evTransport .stop .auto) hr hd
    (by simp only [List.length_append, List.length_cons, List.length_nil]; omega)).report (by simpa using ho)

end

end Sys2Proof.Machine

open Sys2Proof Sys2Proof.Machine

/-- Settles O27: the tape stops with its two events; a rewind that is due is the third. -/
theorem tapeEndStopsTheTape : Obligations.TapeEndStopsTheTape := by
  constructor
  · intro s hi hd hr hp ho hs hn hauto
    obtain ⟨t, hx, -, hpins, htrc, hsrv, hpos, hpost, hsame⟩ :=
      (tapeEnd_worked false hi hd hr (by decide) ho).posted (f := fun _ => _) rfl hi hd hp
    rw [tapeEnd_exec hs, tapeLimit_end hs ho, hauto, takeRewind_none (by simp)]
    refine ⟨t, hx, ?_, ?_, ?_, ?_, ?_, ?_, ?_, hpost, hsame⟩
    iterate 4 · simp [htrc]
    · simp [hsrv]
    · simp [hpos]
    · simp [hpins]
  · intro s hi hd hr hp ho hs hn hb hauto
    have hwork := (((tapeEnd_worked true hi hd hr (by decide) ho).enterCore .rew false).posts (evTransport .rew .auto)
      hr hd).report (by simpa using ho)
    obtain ⟨t, hx, -, hpins, htrc, hsrv, hpos, hpost, hsame⟩ := hwork.posted (f := fun _ => _) rfl hi hd hp
    rw [tapeEnd_exec hs, tapeLimit_end hs ho, hauto, takeRewind_due (by simp) (by simpa using ho) (by simp) (by simpa using hb)]
    refine ⟨t, hx, ?_, ?_, ?_, ?_, ?_, ?_, hpost, hsame⟩
    iterate 2 · simp [htrc]
    · simp [hsrv, rowOf]
    · rw [hsrv, reportState_srv, post_srv, enterCore_srv]
      exact drive_dirSet (by simp [rowOf]) (by simp [rowOf, Row.dir])
    · simp [hpos]
    · simp [hpins]

end

section
/-! LEMMA. The ends of threading and unthreading (R9, R12), and the cassette (R2, R3, R46, R184). -/

namespace Sys2Proof.Machine

/-! ### Threading and unthreading -/

/-- The pins after the THREADED switch closed. -/
def atThreaded (s : State) : State := s.setPins { s.pins with threadedSw := true, unthreadedSw := false }

/-- The pins after the UNTHREADED switch closed. -/
def atUnthreaded (s : State) : State := s.setPins { s.pins with unthreadedSw := true, threadedSw := false }

theorem atThreaded_frame (s : State) : SameBut [.pins] s (atThreaded s) := setPins_frame s _
theorem atUnthreaded_frame (s : State) : SameBut [.pins] s (atUnthreaded s) := setPins_frame s _

@[simp] theorem atThreaded_trc (s : State) : (atThreaded s).trc = s.trc := rfl
@[simp] theorem atUnthreaded_trc (s : State) : (atUnthreaded s).trc = s.trc := rfl

/-- R9: TRC as threading ends, its target taken. -/
def threaded (s : State) : State :=
  s.setTrc { s.trc with pending := none, loadMotor := .off, loadTimer := none }

theorem threaded_frame (s : State) : SameBut [.trc] s (threaded s) := setTrc_frame s _

@[simp] theorem threaded_trc (s : State) :
    (threaded s).trc = { s.trc with pending := none, loadMotor := .off, loadTimer := none } := rfl

/-- R9: a pending PLAY is entered as threading ends. -/
theorem threadingDone_play {s : State} {o : Origin} (hp : s.trc.pending = some ⟨.play, o⟩) (hm : s.pins.mainGood = true)
    (he : s.pins.endSense = false) : threadingDone s = enter .play o false false (threaded s) := by
  have hd : motionDir (enter .play o false false (threaded s)).trc = some .forward := by simp [motionDir]
  unfold threadingDone
  dsimp only
  split
  · rename_i h
    exact absurd (h.symm.trans hp) nofun
  · rename_i p h
    obtain rfl : p = ⟨.play, o⟩ := Option.some.inj (h.symm.trans hp)
    rw [if_neg (by simp [hm])]
    exact meetLimit_forward hd (by simpa [threaded] using he)

/-- R12: nothing is pending as the UNTHREADED switch closes. -/
theorem unthreadedSwitch_rest {s : State} (hs : s.trc.st = .unthreading) (hp : s.trc.pending = none) :
    unthreadedSwitch s = enter (restState s) s.trc.op false false s := by
  simp only [unthreadedSwitch, hs, hp]

/-- R12: the load motor is off in the resting states. -/
theorem enterCore_rest (s u : State) :
    (enterCore (restState s) false u).trc.loadMotor = .off ∧ (enterCore (restState s) false u).trc.loadTimer = none := by
  rw [enterCore_loadMotor, enterCore_loadTimer, restState]
  cases s.pins.cassSw <;> exact ⟨rfl, rfl⟩

/-- R9: the end of threading, with PLAY pending. -/
theorem threadingEnds {o : Origin} {s : State} (hi : ScheduleIdle s) (hd : Drained s) (hr : EventRoom 1 s)
    (hp : PowerSteady s) (ho : s.trc.owner = .panel) (hs : s.trc.st = .threading) (hl : s.trc.loadMotor = .forward)
    (hn : s.trc.pending = some ⟨.play, o⟩) (hm : s.pins.mainGood = true) (he : s.pins.endSense = false)
    (hrow : s.srv.row = .allOff) :
    ∃ t, exec (.threadingComplete true) s = .next t
      ∧ t.trc.st = .play ∧ t.trc.pending = none ∧ t.trc.loadMotor = .off ∧ t.trc.loadTimer = none
      ∧ t.trc.drumAllow = some s.now ∧ t.trc.capAllow = some s.now
      ∧ t.srv.row = .play ∧ t.srv.drumDuty = 512 ∧ t.srv.capDuty = 384 ∧ t.srv.reelDuty = 192
      ∧ t.pins = { s.pins with threadedSw := true, unthreadedSw := false } ∧ t.pos.counter = s.pos.counter
      ∧ Posted [evTransport .play o] s t ∧ SameBut [.trc, .srv, .pos, .pins, .mpath, .rqu] s t := by
  have hexec : exec (.threadingComplete true) s = command (fun _ => enter .play o false false (threaded (atThreaded s))) s := by
    rw [← threadingDone_play (s := atThreaded s) hn hm he]
    exact command_of (by simp [atThreaded, hs, hl])
  have hwork := (((((Worked.start [.trc, .srv, .pos, .pins] hi.notices hi.taken).on (atThreaded_frame s)).on
    (threaded_frame _)).enterCore .play false).posts (evTransport .play o) hr hd).report (by simpa using ho)
  obtain ⟨t, hx, -, hpins, htrc, hsrv, hpos, hpost, hsame⟩ := hwork.posted (f := fun _ => _) rfl hi hd hp
  rw [← enter_loud] at hpins htrc hsrv hpos
  have hv : t.srv = s.srv.drive true s.straps.fr30 s.now (setSpeed s.mpath.settings) .play false := by
    refine hsrv.trans (enter_drive ?_ (enterCore_rowOf _ _ _ (by decide) (by decide)) o false)
    exact hm
  have hn : s.srv.row ≠ .play := by rw [hrow]; decide
  obtain ⟨hduty, hlock⟩ := drive_capStart (fr30 := s.straps.fr30) (now := s.now) (dflt := setSpeed s.mpath.settings)
    (on := false) hn (by rw [hrow]; rfl) rfl
  have hdrum : t.srv.drumLock = .unlocked := by rw [hv, drive_drumLock hn, hrow]; rfl
  rw [hexec]
  refine ⟨t, hx, ?_, ?_, ?_, ?_, ?_, ?_, ?_, ?_, ?_, ?_, ?_, ?_, hpost, hsame⟩
  iterate 4 · simp [htrc]
  · rw [hsrv, enter_srv] at hdrum
    rw [htrc, enter_trc, enterCore_drumWaits (need := .speed) rfl rfl (by rw [hdrum]; rfl)]
    rfl
  · rw [← hv, hsrv, enter_srv] at hlock
    rw [htrc, enter_trc, enterCore_capAllow _ _ _ (by decide), if_pos (by simp [capNeeded, hlock])]
    rfl
  · rw [hv, drive_row]
  · rw [hv, drive_drumDuty hn, hrow]; rfl
  · rw [hv, hduty]
  · rw [hv, drive_reelDuty hn (by rw [hrow]; decide)]; rfl
  · rw [hpins, enter_pins]; rfl
  · rw [hpos, enter_pos, enterCore_counter]; rfl

/-- R12: the end of an unthreading with nothing pending. -/
theorem unthreadingEnds {s : State} (hi : ScheduleIdle s) (hd : Drained s) (hr : EventRoom 1 s) (hp : PowerSteady s)
    (ho : s.trc.owner = .panel) (hs : s.trc.st = .unthreading) (hn : s.trc.pending = none) :
    ∃ t, exec (.unthreadingComplete true) s = .next t
      ∧ t.trc.st = (if s.pins.cassSw then .unthreaded else .noCassette) ∧ t.trc.loadMotor = .off
      ∧ t.trc.loadTimer = none ∧ t.pins = { s.pins with unthreadedSw := true, threadedSw := false }
      ∧ t.pos.counter = s.pos.counter
      ∧ Posted [evTransport (if s.pins.cassSw then .unthreaded else .noCassette) s.trc.op] s t
      ∧ SameBut [.trc, .srv, .pos, .pins, .mpath, .rqu] s t := by
  have hexec : exec (.unthreadingComplete true) s =
      command (fun _ => enter (restState s) s.trc.op false false (atUnthreaded s)) s :=
    command_of (unthreadedSwitch_rest (s := atUnthreaded s) hs hn)
  have hwork := ((((Worked.start [.trc, .srv, .pos, .pins] hi.notices hi.taken).on (atUnthreaded_frame s)).enterCore
    (restState s) false).posts (evTransport (restState s) s.trc.op) hr hd).report (by simpa using ho)
  obtain ⟨t, hx, -, hpins, htrc, hsrv, hpos, hpost, hsame⟩ := hwork.posted (f := fun _ => _) rfl hi hd hp
  rw [← enter_loud] at hpins htrc hsrv hpos
  rw [hexec]
  refine ⟨t, hx, ?_, ?_, ?_, ?_, ?_, hpost, hsame⟩
  · simp [htrc, restState]
  · rw [htrc, enter_trc, (enterCore_rest s _).1]
  · rw [htrc, enter_trc, (enterCore_rest s _).2]
  · rw [hpins, enter_pins]; rfl
  · rw [hpos, enter_pos, enterCore_counter]; rfl

end Sys2Proof.Machine

open Sys2Proof Sys2Proof.Machine

/-- Settles O24: the closing switch is the entry of PLAY, or of the resting state. -/
theorem threadingAndUnthreadingComplete : Obligations.ThreadingAndUnthreadingComplete := by
  constructor
  · intro o s hi hd hr hp ho hs hl hn hm he hrow
    exact threadingEnds hi hd hr hp ho hs hl hn hm he hrow
  · intro s hi hd hr hp ho hs hn _
    exact unthreadingEnds hi hd hr hp ho hs hn

end

section
/-! LEMMA. The cassette goes in and comes out (R2, R3, R46, R184). -/

namespace Sys2Proof.Machine

/-- R46: no profile, no R, and no remaining time to show. -/
structure Pos.Unidentified (p : Pos) : Prop where
  profile : p.profile = none
  r : p.r = none
  remaining : p.remaining = 0xFFFF

theorem newCassette_unidentified (p : Pos) : p.newCassette.Unidentified := ⟨rfl, rfl, rfl⟩
theorem cassetteOut_unidentified (p : Pos) : p.cassetteOut.Unidentified := ⟨rfl, rfl, rfl⟩

section
variable {s : State}

theorem Pos.Unidentified.requote {p : Pos} (h : p.Unidentified) (m : Speed) : (p.requote m).Unidentified :=
  ⟨h.profile, h.r, by simp [Pos.requote, Pos.quote, h.r]⟩

theorem Pos.Unidentified.changeRow {p : Pos} (h : p.Unidentified) (now : Nat) (old : Row) (oldOn : Bool) (new : Row)
    (newOn : Bool) : (p.changeRow now old oldOn new newOn).Unidentified :=
  have hp := changeRow_place now old oldOn new newOn p
  ⟨hp.profile.trans h.profile, hp.r.trans h.r, changeRow_remaining.trans h.remaining⟩

theorem useSpeed_unidentified (h : s.pos.Unidentified) (m : Speed) (o : SpeedOrigin) :
    (useSpeed m o s).pos.Unidentified := by
  unfold useSpeed
  dsimp only
  split
  · exact h
  · exact h.requote m

theorem enterCore_unidentified (h : s.pos.Unidentified) (st : TransportState) (on : Bool) :
    (enterCore st on s).pos.Unidentified := by
  have hrow : (applyRow on (s.setTrc (s.trc.entering st s.now))).pos.Unidentified := by
    unfold applyRow
    dsimp only
    split
    · exact h.changeRow ..
    · exact (h.changeRow ..).requote _
  rw [enterCore_eq]
  split <;> exact hrow

end

/-- R38: the speed that is set stands with its origin. -/
theorem setSpeed_speed (now : Nat) (m : Speed) (o : SpeedOrigin) (v : Srv) :
    (v.setSpeed now m o).speed = m ∧ (v.setSpeed now m o).origin = o := by
  unfold Srv.setSpeed
  dsimp only
  split_ifs <;> exact ⟨rfl, rfl⟩

/-! ### Insertion and removal in TRC -/

theorem cassetteIn_frame (tab : Bool) (s : State) : SameBut [.trc, .srv, .pos] s (cassetteIn tab s) :=
  (((setTrc_frame s _).mono (by simp)).with ((setPos_frame _ _).mono (by simp))).with
    ((useSpeed_frame _ _ _).mono (by simp))

theorem cassetteGone_frame (s : State) : SameBut [.trc, .srv, .pos] s (cassetteGone s) :=
  (((setTrc_frame s _).mono (by simp)).with ((setPos_frame _ _).mono (by simp))).with
    ((useSpeed_frame _ _ _).mono (by simp))

theorem cassetteIn_place (tab : Bool) (s : State) : SamePlace s.pos.newCassette (cassetteIn tab s).pos :=
  useSpeed_place _ _ ((s.setTrc { s.trc with cassette := true, tab }).setPos s.pos.newCassette)

theorem cassetteIn_unidentified (tab : Bool) (s : State) : (cassetteIn tab s).pos.Unidentified :=
  useSpeed_unidentified (newCassette_unidentified s.pos) _ _

theorem cassetteGone_place (s : State) : SamePlace s.pos.cassetteOut (cassetteGone s).pos :=
  useSpeed_place _ _ ((s.setTrc { s.trc with cassette := false, tab := false }).setPos s.pos.cassetteOut)

theorem cassetteGone_unidentified (s : State) : (cassetteGone s).pos.Unidentified :=
  useSpeed_unidentified (cassetteOut_unidentified s.pos) _ _

theorem cassetteIn_srv (tab : Bool) (s : State) :
    (cassetteIn tab s).srv = s.srv.setSpeed s.now (setSpeed s.mpath.settings) .default := useSpeed_srv _ _ _

/-- R2: the pins after CASS_SW closed. -/
def atInsertion (tab : Bool) (s : State) : State := s.setPins { s.pins with cassSw := true, tabSw := tab }

/-- R3: the pins after CASS_SW opened. -/
def atRemoval (s : State) : State := s.setPins { s.pins with cassSw := false }

theorem atInsertion_frame (tab : Bool) (s : State) : SameBut [.pins] s (atInsertion tab s) := setPins_frame s _
theorem atRemoval_frame (s : State) : SameBut [.pins] s (atRemoval s) := setPins_frame s _

@[simp] theorem atInsertion_trc (tab : Bool) (s : State) : (atInsertion tab s).trc = s.trc := rfl
@[simp] theorem atRemoval_trc (s : State) : (atRemoval s).trc = s.trc := rfl

/-- R2: TRC in UNTHREADED with a new cassette. -/
def inserted (tab : Bool) (s : State) : State := enterCore .unthreaded false (cassetteIn tab (atInsertion tab s))

/-- R3: TRC in NO_CASSETTE after a removal. -/
def removed (s : State) : State := enterCore .noCassette false (cassetteGone (atRemoval s))

theorem inserted_place (tab : Bool) (s : State) : SamePlace s.pos.newCassette (inserted tab s).pos :=
  (cassetteIn_place tab (atInsertion tab s)).trans (enterCore_place _ _ _)

theorem removed_place (s : State) : SamePlace s.pos.cassetteOut (removed s).pos :=
  (cassetteGone_place (atRemoval s)).trans (enterCore_place _ _ _)

/-- R38: an insertion sets the default speed. -/
theorem inserted_speed (tab : Bool) (s : State) :
    (inserted tab s).srv.speed = setSpeed s.mpath.settings ∧ (inserted tab s).srv.origin = .default := by
  obtain ⟨hin, hin'⟩ : (cassetteIn tab (atInsertion tab s)).srv.speed = setSpeed s.mpath.settings
      ∧ (cassetteIn tab (atInsertion tab s)).srv.origin = .default := by
    rw [cassetteIn_srv]
    exact setSpeed_speed _ _ _ _
  rw [inserted, enterCore_srv, enterCore_rowOf _ _ _ (by decide) (by decide)]
  exact ⟨(drive_speed_kept rfl).1.trans hin, (drive_speed_kept rfl).2.trans hin'⟩

/-- R2: TRC has told of the insertion. -/
def insertionTold (tab : Bool) (s : State) : State :=
  reportState (post (evTransport .unthreaded .auto) (post (evCassetteIn tab) (inserted tab s)))

/-- R3: TRC has told of the removal. -/
def removalTold (s : State) : State :=
  reportState (post (evTransport .noCassette .auto) (post evCassetteOut (removed s)))

section
variable (tab : Bool) (s : State)

@[simp] theorem insertionTold_trc : (insertionTold tab s).trc = (inserted tab s).trc := by simp [insertionTold]
@[simp] theorem insertionTold_srv : (insertionTold tab s).srv = (inserted tab s).srv := by simp [insertionTold]
@[simp] theorem insertionTold_pos : (insertionTold tab s).pos = (inserted tab s).pos := by simp [insertionTold]
@[simp] theorem insertionTold_pins : (insertionTold tab s).pins = (inserted tab s).pins := by simp [insertionTold]
@[simp] theorem removalTold_pins : (removalTold s).pins = (removed s).pins := by simp [removalTold]
@[simp] theorem removalTold_trc : (removalTold s).trc = (removed s).trc := by simp [removalTold]
@[simp] theorem removalTold_pos : (removalTold s).pos = (removed s).pos := by simp [removalTold]

theorem inserted_pins : (inserted tab s).pins = { s.pins with cassSw := true, tabSw := tab } := by
  rw [inserted, enterCore_pins]
  exact cassetteIn_frame tab (atInsertion tab s) .pins (by decide)

theorem removed_pins : (removed s).pins = { s.pins with cassSw := false } := by
  rw [removed, enterCore_pins]
  exact cassetteGone_frame (atRemoval s) .pins (by decide)

end

section
variable {ps : List Part} {tab : Bool} {s : State}

/-- R2, R184: an insertion in NO_CASSETTE; it wakes the deck. -/
theorem insertion_exec (hs : s.trc.st = .noCassette) :
    exec (.cassetteInsertion tab) s = command (fun _ => wake .cassette (insertionTold tab s)) s := by
  have h : (atInsertion tab s).trc.st = .noCassette := hs
  have hin : insertCassette tab (atInsertion tab s) = (insertionTold tab s, true) := by
    simp only [insertCassette, h]
    rfl
  refine command_of ?_
  show (if (insertCassette tab (atInsertion tab s)).2 then wake .cassette (insertCassette tab (atInsertion tab s)).1
    else (insertCassette tab (atInsertion tab s)).1) = _
  rw [hin]
  rfl

/-- R3: a removal in UNTHREADED. -/
theorem removal_exec (hs : s.trc.st = .unthreaded) :
    exec .cassetteRemoval s = command (fun _ => removalTold s) s := by
  have h : (atRemoval s).trc.st = .unthreaded := hs
  refine command_of (f := fun s => removeCassette (atRemoval s)) ?_
  simp only [removeCassette, h]
  rfl

theorem inserted_worked (hi : ScheduleIdle s) (hd : Drained s) (hr : EventRoom 2 s) (ho : s.trc.owner = .panel)
    (hq : ∀ p ∈ [Part.pins, .trc, .srv, .pos], p ∈ ps := by decide) (hps : OwnParts ps := by decide) :
    Worked ps [evCassetteIn tab, evTransport .unthreaded .auto] s (insertionTold tab s) := by
  have h0 : Worked ps [] s (inserted tab s) :=
    (((Worked.start ps hi.notices hi.taken).on (atInsertion_frame tab s) (by simp_all) hps).on (cassetteIn_frame tab _)
      (by simp_all) hps).enterCore .unthreaded false (by simp_all) hps
  exact ((h0.posts (evCassetteIn tab) hr hd (by simp) hps).posts (evTransport .unthreaded .auto) hr hd (by simp)
    hps).report (by simpa [inserted] using ho)

theorem removed_worked (hi : ScheduleIdle s) (hd : Drained s) (hr : EventRoom 2 s) (ho : s.trc.owner = .panel) :
    Worked [.trc, .srv, .pos, .pins] [evCassetteOut, evTransport .noCassette .auto] s (removalTold s) := by
  have h0 : Worked [.trc, .srv, .pos, .pins] [] s (removed s) :=
    (((Worked.start _ hi.notices hi.taken).on (atRemoval_frame s)).on (cassetteGone_frame _)).enterCore .noCassette false
  exact ((h0.posts evCassetteOut hr hd).posts (evTransport .noCassette .auto) hr hd).report (by simpa [removed] using ho)

end

/-- R184: an insertion while the deck is on wakes nothing. -/
theorem wake_on {c : WakeCause} {s : State} (h : s.pwr.power = .on) : wake c s = s := by simp [wake, h]

/-- R184: a wake in STANDBY. -/
theorem wake_standby {c : WakeCause} {s : State} (h : s.pwr.power = .standby) : wake c s = s.setPwr { s.pwr with
    power := .on, phase := .rising, mainEn := true, railTimer := some s.now, cause := c, keySince := false
    wakeDue := some c } := by
  simp [wake, h]

/-- R2: an insertion while the deck is on. -/
theorem insertionOn {tab : Bool} {s : State} (hi : ScheduleIdle s) (hd : Drained s) (hr : EventRoom 2 s)
    (hpow : s.pwr.power = .on) (hph : s.pwr.phase = .running) (ho : s.trc.owner = .panel)
    (hs : s.trc.st = .noCassette) :
    ∃ t, exec (.cassetteInsertion tab) s = .next t
      ∧ t.trc.st = .unthreaded ∧ t.trc.cassette = true ∧ t.trc.tab = tab
      ∧ t.pos.counter = 0 ∧ t.pos.unsure = false ∧ t.pos.overrange = false ∧ t.pos.profile = none
      ∧ t.pos.r = none ∧ t.pos.remaining = 0xFFFF ∧ t.pos.lastMark = none
      ∧ t.srv.speed = setSpeed s.mpath.settings ∧ t.srv.origin = .default ∧ t.srv.row = .allOff
      ∧ t.pins = { s.pins with cassSw := true, tabSw := tab }
      ∧ Posted [evCassetteIn tab, evTransport .unthreaded .auto] s t
      ∧ SameBut [.trc, .srv, .pos, .pins, .mpath, .rqu] s t := by
  have hwork := inserted_worked (ps := [.trc, .srv, .pos, .pins]) (tab := tab) hi hd hr ho
  have hpwr : (insertionTold tab s).pwr = s.pwr := hwork.frame .pwr (by decide)
  obtain ⟨t, hx, -, hpins, htrc, hsrv, hpos, hpost, hsame⟩ := hwork.posted (f := fun _ => _) rfl hi hd
    ⟨by rw [hpow]; decide, by rw [hph]; decide, by rw [hph]; decide⟩
  rw [insertionTold_trc] at htrc
  rw [insertionTold_srv] at hsrv
  rw [insertionTold_pos] at hpos
  have hplace := inserted_place tab s
  have hnew : t.pos.Unidentified := hpos ▸ enterCore_unidentified (cassetteIn_unidentified tab _) _ _
  rw [insertion_exec hs, wake_on (by rw [hpwr, hpow])]
  refine ⟨t, hx, ?_, ?_, ?_, ?_, ?_, ?_, hnew.profile, hnew.r, hnew.remaining, ?_, ?_, ?_, ?_, ?_, hpost, hsame⟩
  iterate 3 · simp [htrc, inserted]
  · rw [hpos, hplace.counter]; rfl
  · rw [hpos, hplace.unsure]; rfl
  · rw [hpos, hplace.overrange]; rfl
  · rw [hpos, hplace.lastMark]; rfl
  · rw [hsrv, (inserted_speed tab s).1]
  · rw [hsrv, (inserted_speed tab s).2]
  · rw [hsrv, inserted, enterCore_row, enterCore_rowOf _ _ _ (by decide) (by decide)]; rfl
  · rw [hpins, insertionTold_pins, inserted_pins]

/-- R184: an insertion in STANDBY. -/
theorem insertionStandby {tab : Bool} {s : State} (hi : ScheduleIdle s) (hd : Drained s) (hr : EventRoom 2 s)
    (hpow : s.pwr.power = .standby) (ho : s.trc.owner = .panel) (hs : s.trc.st = .noCassette) :
    ∃ t, exec (.cassetteInsertion tab) s = .next t
      ∧ t.pwr = { s.pwr with
          power := .on, phase := .rising, mainEn := true, railTimer := some s.now, cause := .cassette, keySince := false
          wakeDue := some .cassette }
      ∧ t.trc.st = .unthreaded ∧ t.trc.cassette = true ∧ t.trc.tab = tab ∧ t.pos.counter = 0
      ∧ t.pins = { s.pins with cassSw := true, tabSw := tab }
      ∧ Posted [evCassetteIn tab, evTransport .unthreaded .auto] s t
      ∧ SameBut [.pwr, .trc, .srv, .pos, .pins, .mpath, .rqu] s t := by
  have hframe := (inserted_worked (ps := [.trc, .srv, .pos, .pins]) (tab := tab) hi hd hr ho).frame
  have hpwr : (insertionTold tab s).pwr = s.pwr := hframe .pwr (by decide)
  have hnow : (insertionTold tab s).now = s.now := hframe .now (by decide)
  have hwork := (inserted_worked (ps := [.pwr, .trc, .srv, .pos, .pins]) (tab := tab) hi hd hr ho).on (setPwr_frame _
    { s.pwr with
      power := .on, phase := .rising, mainEn := true, railTimer := some s.now, cause := .cassette, keySince := false
      wakeDue := some .cassette })
  obtain ⟨t, hx, hpower, -, hpins, htrc, -, hpos, hpost, hsame⟩ := hwork.posted_powered (f := fun _ => _) rfl hi hd
    (by rw [hpow]; decide) nofun nofun
  have htrc' : t.trc = (inserted tab s).trc := htrc.trans (insertionTold_trc tab s)
  have hpos' : t.pos = (inserted tab s).pos := hpos.trans (insertionTold_pos tab s)
  have hpins' : t.pins = (inserted tab s).pins := hpins.trans (insertionTold_pins tab s)
  rw [insertion_exec hs, wake_standby (by rw [hpwr, hpow]), hpwr, hnow]
  refine ⟨t, hx, hpower, ?_, ?_, ?_, ?_, ?_, hpost, hsame⟩
  iterate 3 · simp [htrc', inserted]
  · rw [hpos', (inserted_place tab s).counter]; rfl
  · rw [hpins', inserted_pins]

/-- R3: a removal in UNTHREADED. -/
theorem removalUnthreaded {s : State} (hi : ScheduleIdle s) (hd : Drained s) (hr : EventRoom 2 s)
    (hpow : s.pwr.power = .on) (hph : s.pwr.phase = .running) (ho : s.trc.owner = .panel)
    (hs : s.trc.st = .unthreaded) :
    ∃ t, exec .cassetteRemoval s = .next t
      ∧ t.trc.st = .noCassette ∧ t.trc.cassette = false ∧ t.trc.tab = false ∧ t.pos.profile = none
      ∧ t.pos.r = none ∧ t.pos.remaining = 0xFFFF
      ∧ t.pos.counter = s.pos.counter ∧ t.pins = { s.pins with cassSw := false }
      ∧ Posted [evCassetteOut, evTransport .noCassette .auto] s t
      ∧ SameBut [.trc, .srv, .pos, .pins, .mpath, .rqu] s t := by
  obtain ⟨t, hx, -, hpins, htrc, -, hpos, hpost, hsame⟩ := (removed_worked hi hd hr ho).posted (f := fun _ => _) rfl hi hd
    ⟨by rw [hpow]; decide, by rw [hph]; decide, by rw [hph]; decide⟩
  rw [removalTold_trc] at htrc
  rw [removalTold_pos] at hpos
  have hout : t.pos.Unidentified := hpos ▸ enterCore_unidentified (cassetteGone_unidentified _) _ _
  rw [removal_exec hs]
  refine ⟨t, hx, ?_, ?_, ?_, hout.profile, hout.r, hout.remaining, ?_, ?_, hpost, hsame⟩
  iterate 3 · simp [htrc, removed]
  · rw [hpos, (removed_place s).counter]; rfl
  · rw [hpins, removalTold_pins, removed_pins]

end Sys2Proof.Machine

open Sys2Proof Sys2Proof.Machine

/-- Settles O23: the two insertions share their work in TRC, and differ by the wake alone. -/
theorem cassetteInAndOut : Obligations.CassetteInAndOut := by
  refine ⟨?_, ?_, ?_⟩
  · intro tab s hi hd hr hpow hph ho hs _
    exact insertionOn hi hd hr hpow hph ho hs
  · intro tab s hi hd hr hpow ho hs _
    exact insertionStandby hi hd hr hpow ho hs
  · intro s hi hd hr hpow hph ho hs _
    exact removalUnthreaded hi hd hr hpow hph ho hs

end

section
/-! SUPPORT. The bounds of SRV and POS (R30, R31, R32, R42, R51, R55): what `ServoWf` says of each of the two blocks, and that
every operation of a block keeps its own bounds. -/

namespace Sys2Proof.Machine

/-! ### What `ServoWf` says of each block -/

/-- R30, R31, R32, R42: each duty, and each duty that an output carries, lies in 0..1023. -/
def Srv.Wf (v : Srv) : Prop :=
  (v.drumDuty ≤ 1023 ∧ v.capDuty ≤ 1023 ∧ v.reelDuty ≤ 1023) ∧ v.drumPwm ≤ 1023 ∧ v.capPwm ≤ 1023 ∧ v.reelPwm ≤ 1023

/-- R51, R55: the counter lies within its limits, and the mark window holds at most 60 pulses. -/
def Pos.Wf (limit : Int) (p : Pos) : Prop := (-limit ≤ p.counter ∧ p.counter ≤ limit) ∧ p.window.length ≤ 60

/-- The parts of the machine that `ServoWf` speaks of. -/
structure Tape where
  srv : Srv
  pos : Pos
  straps : Straps

/-- The servo, the position unit and the straps of a machine. -/
def State.tape (s : State) : Tape := ⟨s.srv, s.pos, s.straps⟩

/-- Both blocks lie within their bounds. -/
def Tape.Wf (d : Tape) : Prop := d.srv.Wf ∧ d.pos.Wf (Config.counterLimit d.straps.fr30)

theorem servoWf_iff (s : State) : ServoWf s ↔ s.tape.Wf :=
  ⟨fun ⟨h1, h2, h3, h4, h5, h6, h7, h8, h9⟩ => ⟨⟨⟨h1, h2, h3⟩, h4, h5, h6⟩, ⟨h7, h8⟩, h9⟩,
    fun ⟨⟨⟨h1, h2, h3⟩, h4, h5, h6⟩, ⟨h7, h8⟩, h9⟩ => ⟨h1, h2, h3, h4, h5, h6, h7, h8, h9⟩⟩

theorem Srv.ite_wf {c : Prop} [Decidable c] {v w : Srv} (hv : v.Wf) (hw : w.Wf) : (if c then v else w).Wf := by
  split <;> assumption

/-! ### The servo -/

/-- R31, R32, R35, R36, R42: a duty that a correction was added to, as the clamped number. -/
theorem addDuty_eq (duty : Nat) (e : Int) (gain : Nat) :
    (addDuty duty e gain : Int) = clampInt 0 1023 (duty + e * gain / 4096) := by
  have : 0 ≤ clampInt 0 1023 ((duty : Int) + e * gain / 4096) := by unfold clampInt; omega
  rw [addDuty, Int.toNat_of_nonneg this]

theorem addDuty_le (duty : Nat) (e : Int) (gain : Nat) : addDuty duty e gain ≤ 1023 := by
  have h : clampInt 0 1023 ((duty : Int) + e * gain / 4096) ≤ 1023 := by unfold clampInt; omega
  have := addDuty_eq duty e gain
  omega

section
variable {v : Srv} (h : v.Wf)
include h

/-! One duty is set. -/

theorem Srv.Wf.withDrum {d : Nat} (hd : d ≤ 1023) : ({ v with drumDuty := d } : Srv).Wf := ⟨⟨hd, h.1.2⟩, h.2⟩
theorem Srv.Wf.withCap {d : Nat} (hd : d ≤ 1023) : ({ v with capDuty := d } : Srv).Wf := ⟨⟨h.1.1, hd, h.1.2.2⟩, h.2⟩
theorem Srv.Wf.withReel {d : Nat} (hd : d ≤ 1023) : ({ v with reelDuty := d } : Srv).Wf := ⟨⟨h.1.1, h.1.2.1, hd⟩, h.2⟩

/-! The drives (R29, R30, R44). -/

theorem Srv.Wf.drumOff : v.drumOff.Wf := h.withDrum (d := 0) (by decide)
theorem Srv.Wf.drumStart (now : Nat) : (v.drumStart now).Wf := h.withDrum (d := 512) (by decide)
theorem Srv.Wf.capOff : v.capOff.Wf := h.withCap (d := 0) (by decide)
theorem Srv.Wf.capStart (now : Nat) : (v.capStart now).Wf := h.withCap (d := 384) (by decide)
theorem Srv.Wf.powerDown : v.powerDown.Wf := (h.drumOff.capOff).withReel (d := 0) (by decide)
theorem Srv.Wf.loadPwm : v.loadPwm.Wf := ⟨h.1, h.1⟩

theorem Srv.Wf.powerUp (now : Nat) : (v.powerUp now).Wf := by
  have hdrum : (if v.row.drumRuns then v.drumStart now else v).Wf := Srv.ite_wf (h.drumStart now) h
  unfold Srv.powerUp
  generalize (if v.row.drumRuns then v.drumStart now else v) = u at hdrum ⊢
  have hcap : (if (u.row.capstan u.capOn).isSome then u.capStart now else u).Wf :=
    Srv.ite_wf (hdrum.capStart now) hdrum
  dsimp only
  generalize (if (u.row.capstan u.capOn).isSome then u.capStart now else u) = u at hcap ⊢
  have hreel : (match u.row.reel with | .off => 0 | .tension => 192 | .wind => 600) ≤ 1023 := by split <;> decide
  exact Srv.ite_wf (hcap.withReel hreel) (hcap.withReel hreel)

theorem Srv.Wf.changeDrum (now : Nat) (row : Row) : (v.changeDrum now row).Wf := by
  unfold Srv.changeDrum
  split_ifs
  exacts [h.drumOff, h, h.drumStart now]

theorem Srv.Wf.changeCapstan (now : Nat) (row : Row) (on : Bool) : (v.changeCapstan now row on).Wf := by
  unfold Srv.changeCapstan
  split
  · exact h.capOff
  · exact h.capStart now
  · split <;> exact h

theorem Srv.Wf.changeReel (row : Row) : (v.changeReel row).Wf := by
  unfold Srv.changeReel
  split
  · exact h.withReel (d := 0) (by decide)
  · exact h.withReel (d := 192) (by decide)
  · split
    · exact h
    · exact h.withReel (d := 600) (by decide)

/-- R29: a change of row. -/
theorem Srv.Wf.drive (main fr30 : Bool) (now : Nat) (dflt : Speed) (row : Row) (on : Bool) :
    (v.drive main fr30 now dflt row on).Wf := by
  by_cases hc : v.row = row ∧ v.capOn = on
  · simpa [Srv.drive, hc] using h
  · obtain ⟨_, _, _, e⟩ := beforeDrives_eq fr30 now dflt row on v
    have hb : (v.beforeDrives fr30 now dflt row on).Wf := by rw [e]; exact h
    have hd : ((v.beforeDrives fr30 now dflt row on).takeOrDrop main now row on).Wf := by
      unfold Srv.takeOrDrop
      split
      · exact ((hb.changeDrum now row).changeCapstan now row on).changeReel row
      · exact hb.powerDown
    rw [drive_turned hc]
    split <;> exact hd

theorem Srv.Wf.setSpeed (now : Nat) (m : Speed) (o : SpeedOrigin) : (v.setSpeed now m o).Wf := by
  unfold Srv.setSpeed
  dsimp only
  split_ifs <;> exact h

theorem Srv.Wf.drumMeasure (fr30 : Bool) (meas : Nat) : (v.drumMeasure fr30 meas).1.Wf :=
  h.withDrum (addDuty_le _ _ _)

theorem Srv.Wf.capMeasure (fr30 : Bool) (meas : Nat) : (v.capMeasure fr30 meas).1.Wf := by
  unfold Srv.capMeasure
  split
  · exact h
  · exact h.withCap (addDuty_le _ _ _)

theorem Srv.Wf.drumFgPulse (fr30 : Bool) (at_ : Nat) : (v.drumFgPulse fr30 at_).1.Wf := by
  unfold Srv.drumFgPulse
  dsimp only
  split
  · exact h
  · exact Srv.Wf.drumMeasure (v := { v with drumFg := some at_, drumGap := at_ }) h _ _

theorem Srv.Wf.drumFgGap (fr30 : Bool) : (v.drumFgGap fr30).1.Wf :=
  Srv.Wf.drumMeasure (v := { v with drumGap := v.drumGap + Config.fgLimit }) h _ _

theorem Srv.Wf.capFgPulse (fr30 : Bool) (at_ : Nat) : (v.capFgPulse fr30 at_).1.Wf := by
  unfold Srv.capFgPulse
  dsimp only
  split
  · exact h
  · exact Srv.Wf.capMeasure (v := { v with capFg := some at_, capGap := at_ }) h _ _

theorem Srv.Wf.capFgGap (fr30 : Bool) : (v.capFgGap fr30).1.Wf :=
  Srv.Wf.capMeasure (v := { v with capGap := v.capGap + Config.fgLimit }) h _ _

theorem Srv.Wf.countRun : v.countRun.1.Wf := by
  unfold Srv.countRun
  split
  · exact h
  · split <;> exact h

theorem Srv.Wf.pgPulse (fr30 : Bool) (at_ : Nat) (tie : Bool) (lastCtl : Option Nat) :
    (v.pgPulse fr30 at_ tie lastCtl).1.Wf := by
  have hd : ∀ e : Int, ({ v with drumDuty := addDuty v.drumDuty e 16 } : Srv).Wf := fun e =>
    h.withDrum (addDuty_le _ _ _)
  unfold Srv.pgPulse
  dsimp only
  split
  · exact h
  · split_ifs <;> exact hd _

theorem Srv.Wf.track (fr30 : Bool) (at_ : Nat) (tie : Bool) (open_ : Nat) : (v.track fr30 at_ tie open_).Wf := by
  unfold Srv.track
  split
  · exact h.withCap (addDuty_le _ _ _)
  · exact h

theorem Srv.Wf.detect (fr30 : Bool) (interval : Nat) : (v.detect fr30 interval).1.Wf := by
  unfold Srv.detect
  split
  · exact h
  · split_ifs <;> exact h

theorem Srv.Wf.setReel (n : ReelName) (r : Reel) : (v.setReel n r).Wf := by cases n <;> exact h

theorem Srv.Wf.windCorrect (r : Reel) : (v.windCorrect r).Wf := by
  unfold Srv.windCorrect
  split
  · exact h
  · exact h.withReel (addDuty_le _ _ _)

theorem Srv.Wf.settleTest (before after : Reel) : (v.settleTest before after).Wf := by
  unfold Srv.settleTest
  split <;> exact h

theorem Srv.Wf.reelMark (n : ReelName) (ms : Nat) : (v.reelMark n ms).1.Wf := by
  unfold Srv.reelMark
  dsimp only
  split
  · exact h
  · dsimp only
    split
    · exact ((h.setReel n _).windCorrect _).settleTest _ _
    · exact h.setReel n _

end

/-! ### The position unit -/

theorem counterLimit_nonneg (fr30 : Bool) : 0 ≤ Config.counterLimit fr30 := by cases fr30 <;> decide

section
variable {limit : Int} {p : Pos} (h : p.Wf limit)
include h

/-- A counter at 0 lies within the limits. -/
theorem Pos.Wf.zero : -limit ≤ 0 ∧ 0 ≤ limit := by
  obtain ⟨⟨hlow, hhigh⟩, -⟩ := h
  omega

/-- R51: a count saturates at the limits. -/
theorem Pos.Wf.count (d : Int) : (p.count limit d).Wf limit := by
  obtain ⟨hlow, hhigh⟩ := h.zero
  unfold Pos.count
  dsimp only
  split_ifs
  · exact ⟨⟨by dsimp only; omega, le_refl _⟩, h.2⟩
  · exact ⟨⟨le_refl _, by dsimp only; omega⟩, h.2⟩
  · exact ⟨⟨by dsimp only; omega, by dsimp only; omega⟩, h.2⟩

theorem Pos.Wf.reset (now : Nat) : (p.reset now).Wf limit := ⟨h.zero, h.2⟩

theorem Pos.Wf.newCassette : p.newCassette.Wf limit := ⟨h.zero, Nat.zero_le _⟩

theorem Pos.Wf.changeMotion (now : Nat) (old new : Option Row) : (p.changeMotion now old new).Wf limit := by
  unfold Pos.changeMotion
  split
  · exact h
  · split
    · exact ⟨h.1, Nat.zero_le _⟩
    · exact h
    · exact h

theorem Pos.Wf.changeBlank (now : Nat) (old new : Row) : (p.changeBlank now old new).Wf limit := by
  unfold Pos.changeBlank
  dsimp only
  split_ifs <;> exact h

theorem Pos.Wf.changeRow (now : Nat) (old : Row) (oldOn : Bool) (new : Row) (newOn : Bool) :
    (p.changeRow now old oldOn new newOn).Wf limit := (h.changeMotion now _ _).changeBlank now old new

theorem Pos.Wf.forwardMark : p.forwardMark.1.Wf limit := by
  unfold Pos.forwardMark
  split
  · split
    · exact ⟨h.1, Nat.zero_le _⟩
    · exact h
  · exact h

theorem Pos.Wf.backwardMark (pulse : ReadPulse) : (p.backwardMark pulse).1.Wf limit := by
  unfold Pos.backwardMark
  split
  · split_ifs
    · exact h
    · exact ⟨h.1, Nat.zero_le _⟩
    · exact h
  · split <;> exact h

theorem Pos.Wf.pulseBlank (at_ : Nat) (row : Row) (capLock : Bool) : (p.pulseBlank at_ row capLock).Wf limit := by
  unfold Pos.pulseBlank
  split_ifs <;> exact h

/-- R47, R55: a read pulse joins a window that keeps its newest 60. -/
theorem Pos.Wf.readPulse (dir : Dir) (rise high : Nat) (row : Row) (capLock : Bool) :
    (p.readPulse limit dir rise high row capLock).1.Wf limit := by
  have hp : ∀ (d : Int) (pulse : ReadPulse), ({ (p.count limit d).pulseBlank rise row capLock with
      capSource := false, unsure := false, lastPulse := some rise, window := (pulse :: p.window).take 60 } : Pos).Wf
        limit := fun d pulse =>
    ⟨((h.count d).pulseBlank rise row capLock).1, List.length_take_le _ _⟩
  cases dir with
  | forward => exact (hp 1 _).forwardMark
  | backward => exact (hp (-1) _).backwardMark _

theorem Pos.Wf.beginWriting (markDue : Bool) : (p.beginWriting limit markDue).Wf limit := ⟨h.1, Nat.zero_le _⟩

theorem Pos.Wf.writeFrame (fr30 : Bool) : (p.writeFrame limit fr30).1.Wf limit := by
  have hc := h.count 1
  unfold Pos.writeFrame
  dsimp only
  split
  · exact hc
  · split <;> exact hc

theorem Pos.Wf.evaluate (m : Speed) (ts tt : Nat) : (p.evaluate m ts tt).Wf limit := by
  unfold Pos.evaluate
  dsimp only
  split
  · split <;> exact h
  · split <;> exact h

theorem Pos.Wf.compute (m : Speed) (ts tt : Nat) : (p.compute m ts tt).Wf limit := by
  unfold Pos.compute
  split <;> exact h

theorem Pos.Wf.takePeriod (n : ReelName) (st : TransportState) (phase : Option SearchPhase) (m : Speed)
    (capLock windSettled : Bool) (supply takeup : Option Nat) :
    (p.takePeriod n st phase m capLock windSettled supply takeup).Wf limit := by
  unfold Pos.takePeriod
  split
  · rename_i ts tt
    dsimp only
    have he : ∀ b : Bool, (if b then p.evaluate m ts tt else p).Wf limit := fun b => by
      split
      exacts [h.evaluate m ts tt, h]
    split
    · exact (he _).compute m ts tt
    · exact he _
  · exact h

theorem Pos.Wf.profileWritten (m : Speed) (before : Memory) : (p.profileWritten m before).Wf limit := by
  unfold Pos.profileWritten
  split
  · exact h
  · dsimp only
    split_ifs <;> exact h

end

end Sys2Proof.Machine
end

section
/-! SUPPORT. What leaves SRV, POS and the straps alone: every operation of the other blocks keeps `State.tape`. One lemma per
operation, in the order of the model's definitions. -/

namespace Sys2Proof.Machine

/-! ### One field of another block -/

section
variable (s : State)

@[simp] theorem State.setPending_tape (x : List Instr) : (s.setPending x).tape = s.tape := by rfl
@[simp] theorem State.setNow_tape (x : Nat) : (s.setNow x).tape = s.tape := by rfl
@[simp] theorem State.setFree_tape (x : Nat) : (s.setFree x).tape = s.tape := by rfl
@[simp] theorem State.setNotices_tape (x : List Notice) : (s.setNotices x).tape = s.tape := by rfl
@[simp] theorem State.setTaken_tape (x : List (Fin 16)) : (s.setTaken x).tape = s.tape := by rfl
@[simp] theorem State.setMem_tape (x : Memory) : (s.setMem x).tape = s.tape := by rfl
@[simp] theorem State.setHd_tape (x : Option Byte) : (s.setHd x).tape = s.tape := by rfl
@[simp] theorem State.setCtlOut_tape (x : Option Nat) : (s.setCtlOut x).tape = s.tape := by rfl
@[simp] theorem State.setPins_tape (x : Pins) : (s.setPins x).tape = s.tape := by rfl
@[simp] theorem State.setTrc_tape (x : Trc) : (s.setTrc x).tape = s.tape := by rfl
@[simp] theorem State.setTun_tape (x : Tun) : (s.setTun x).tape = s.tape := by rfl
@[simp] theorem State.setLds_tape (x : Lds) : (s.setLds x).tape = s.tape := by rfl
@[simp] theorem State.setClk_tape (x : Clk) : (s.setClk x).tape = s.tape := by rfl
@[simp] theorem State.setSch_tape (x : Sch) : (s.setSch x).tape = s.tape := by rfl
@[simp] theorem State.setMpath_tape (x : Mpath) : (s.setMpath x).tape = s.tape := by rfl
@[simp] theorem State.setRqu_tape (x : Rqu) : (s.setRqu x).tape = s.tape := by rfl
@[simp] theorem State.setPwr_tape (x : Pwr) : (s.setPwr x).tape = s.tape := by rfl

end

/-- An operation whose frame holds the three parts. -/
theorem SameBut.tape {ps : List Part} {s t : State} (h : SameBut ps s t)
    (hp : .srv ∉ ps ∧ .pos ∉ ps ∧ .straps ∉ ps := by decide) : t.tape = s.tape := by
  have h1 : t.srv = s.srv := h .srv hp.1
  have h2 : t.pos = s.pos := h .pos hp.2.1
  have h3 : t.straps = s.straps := h .straps hp.2.2
  simp only [State.tape, h1, h2, h3]

/-! ### Time, memory, groups and events -/

@[simp] theorem reachTime_tape (t : Nat) (s : State) : (reachTime t s).tape = s.tape := by rfl
@[simp] theorem reachLimit_tape (since limit : Nat) (s : State) : (reachLimit since limit s).tape = s.tape := by rfl
@[simp] theorem writeRegion_tape (off : Nat) (v : Byte) (s : State) : (writeRegion off v s).tape = s.tape := by rfl
@[simp] theorem enqueue_tape (g : WriteGroup) (s : State) : (enqueue g s).tape = s.tape := by rfl
@[simp] theorem askSlot_tape (b : Block) (s : State) : (askSlot b s).tape = s.tape := by rfl
@[simp] theorem dropAsk_tape (b : Block) (s : State) : (dropAsk b s).tape = s.tape := by rfl
@[simp] theorem notify_tape (n : Notice) (s : State) : (notify n s).tape = s.tape := by rfl
@[simp] theorem setLines_tape (ran : Bool) (s : State) : (setLines ran s).tape = s.tape := by rfl

@[simp] theorem groupLeft_tape (g : WriteGroup) (s : State) : (groupLeft g s).tape = s.tape := by
  unfold groupLeft; split <;> rfl

@[simp] theorem groupsLeft_tape (gs : List WriteGroup) (s : State) : (groupsLeft gs s).tape = s.tape := by
  induction gs generalizing s with
  | nil => rfl
  | cons g rest ih => simp [groupsLeft, ih]

@[simp] theorem clearPending_tape (off : Nat) (s : State) : (clearPending off s).tape = s.tape := by simp [clearPending]

@[simp] theorem drainByte_tape (s : State) : (drainByte s).tape = s.tape := by
  unfold drainByte
  split
  · rfl
  · split
    · simp
    · dsimp only; split <;> simp

@[simp] theorem post_tape (e : Event) (s : State) : (post e s).tape = s.tape := (post_frame e s).tape

@[simp] theorem offerRqu_tape (g : WriteGroup) (s : State) : (offerRqu g s).tape = s.tape := by
  unfold offerRqu; split <;> simp

@[simp] theorem acknowledge_tape (seq : Byte) (s : State) : (acknowledge seq s).tape = s.tape := by
  unfold acknowledge; dsimp only; split <;> simp

@[simp] theorem makeResult_tape (a : Answer) (tag : Byte) (s : State) : (makeResult a tag s).tape = s.tape := by
  unfold makeResult; dsimp only; split
  · simp
  · split <;> simp

/-! ### The clock -/

@[simp] theorem applyStep_tape (subject source : Byte) (new : DateTime) (limit : Bool) (s : State) :
    (applyStep subject source new limit s).tape = s.tape := by simp [applyStep]

@[simp] theorem broadcastStep_tape (subject : Byte) (d : Int) (s : State) : (broadcastStep subject d s).tape = s.tape := by
  unfold broadcastStep; dsimp only; split <;> simp

@[simp] theorem requestSetTime_tape (s : State) : (requestSetTime s).1.tape = s.tape := by
  unfold requestSetTime
  split
  · rfl
  · split <;> simp

@[simp] theorem deferStep_tape (d : Int) (s : State) : (deferStep d s).tape = s.tape := by
  unfold deferStep; split <;> simp

@[simp] theorem confirm_tape (d code : Int) (s : State) : (confirm d code s).tape = s.tape := by
  unfold confirm; dsimp only; split_ifs <;> simp

@[simp] theorem meetSample_tape (d code : Int) (s : State) : (meetSample d code s).tape = s.tape := by
  unfold meetSample
  split
  · rfl
  · split <;> simp

@[simp] theorem timePacket_tape (year month day hour minute second code : Byte) (s : State) :
    (timePacket year month day hour minute second code s).tape = s.tape := by
  unfold timePacket; dsimp only; split_ifs <;> simp

@[simp] theorem reportRunning_tape (s : State) : (reportRunning s).tape = s.tape := by rfl
@[simp] theorem retain_tape (r : Retained) (s : State) : (retain r s).tape = s.tape := by rfl
@[simp] theorem clearRetained_tape (s : State) : (clearRetained s).tape = s.tape := by rfl

@[simp] theorem reportNotRunning_tape (s : State) : (reportNotRunning s).tape = s.tape := by
  unfold reportNotRunning
  split
  · dsimp only; split <;> simp
  · rfl

@[simp] theorem postInvalid_tape (s : State) : (postInvalid s).tape = s.tape := by unfold postInvalid; split <;> simp

/-! ### The tuner -/

@[simp] theorem sendWord_tape (s : State) : (sendWord s).tape = s.tape := by
  unfold sendWord
  split
  · rfl
  · dsimp only; split <;> rfl

@[simp] theorem tunEnter_tape (st : TunerState) (s : State) : (tunEnter st s).tape = s.tape := by
  unfold tunEnter; dsimp only; split_ifs <;> rfl

@[simp] theorem settleOrHold_tape (s : State) : (settleOrHold s).tape = s.tape := by unfold settleOrHold; split <;> simp

@[simp] theorem tuneDirect_tape (n : Nat) (tag : Byte) (s : State) : (tuneDirect n tag s).tape = s.tape := by
  simp [tuneDirect]

@[simp] theorem tunePreset_tape (n : Nat) (tag : Byte) (s : State) : (tunePreset n tag s).tape = s.tape := by
  simp [tunePreset]

@[simp] theorem tuneLine_tape (s : State) : (tuneLine s).tape = s.tape := by simp [tuneLine]

@[simp] theorem dropStation_tape (s : State) : (dropStation s).tape = s.tape := by unfold dropStation; split <;> simp

@[simp] theorem closeScan_tape (code : Byte) (s : State) : (closeScan code s).tape = s.tape := by
  unfold closeScan; split <;> simp

@[simp] theorem endScan_tape (code : Byte) (s : State) : (endScan code s).tape = s.tape := by simp [endScan]

@[simp] theorem railScan_tape (s : State) : (railScan s).tape = s.tape := by simp [railScan]

@[simp] theorem scanTo_tape (n : Int) (s : State) : (scanTo n s).tape = s.tape := by
  unfold scanTo
  split
  · rfl
  · split <;> simp

@[simp] theorem scanNext_tape (s : State) : (scanNext s).tape = s.tape := by unfold scanNext; split <;> simp

@[simp] theorem scanResume_tape (l : Int) (s : State) : (scanResume l s).tape = s.tape := by
  unfold scanResume; split <;> simp

@[simp] theorem handTun_tape (h : TunHeld) (s : State) : (handTun h s).tape = s.tape := by
  unfold handTun
  split
  · rfl
  · rfl
  · split <;> simp

@[simp] theorem offerTun_tape (h : TunHeld) (s : State) : (offerTun h s).tape = s.tape := by
  unfold offerTun; split <;> simp

@[simp] theorem offerOffset_tape (n : Nat) (v : Byte) (s : State) : (offerOffset n v s).tape = s.tape := by
  unfold offerOffset; split <;> simp

@[simp] theorem writeOffset_tape (s : State) : (writeOffset s).tape = s.tape := by
  unfold writeOffset
  split
  · split <;> simp
  · rfl

@[simp] theorem dropHeldOffset_tape (n : Nat) (s : State) : (dropHeldOffset n s).tape = s.tape := by
  unfold dropHeldOffset; split <;> simp

@[simp] theorem makeStation_tape (net : Nat) (name : List Byte) (s : State) : (makeStation net name s).tape = s.tape := by
  unfold makeStation; split <;> simp

@[simp] theorem acquireFail_tape (sync : Bool) (s : State) : (acquireFail sync s).tape = s.tape := by
  unfold acquireFail
  split
  · simp
  · dsimp only; split <;> simp

@[simp] theorem acquireLock_tape (s : State) : (acquireLock s).tape = s.tape := by
  unfold acquireLock
  split
  · dsimp only; split <;> simp
  · simp

@[simp] theorem lastSample_tape (r : Reading) (s : State) : (lastSample r s).tape = s.tape := by
  unfold lastSample; split <;> simp

@[simp] theorem afcSample_tape (r : Reading) (s : State) : (afcSample r s).tape = s.tape := by
  unfold afcSample
  dsimp only
  split
  · split <;> simp
  · split_ifs <;> simp

@[simp] theorem startAcquire_tape (r : Reading) (s : State) : (startAcquire r s).tape = s.tape := by simp [startAcquire]

@[simp] theorem signalLost_tape (r : Reading) (s : State) : (signalLost r s).tape = s.tape := by
  unfold signalLost
  split
  · dsimp only; split <;> simp
  · simp

@[simp] theorem trackStep_tape (r : Reading) (s : State) : (trackStep r s).tape = s.tape := by
  unfold trackStep
  split
  · rfl
  · split <;> simp

@[simp] theorem trackSample_tape (r : Reading) (s : State) : (trackSample r s).tape = s.tape := by
  unfold trackSample; dsimp only; split_ifs <;> simp

@[simp] theorem takeTune_tape (k : TuneKind) (value : Nat) (tag : Byte) (s : State) :
    (takeTune k value tag s).tape = s.tape := by cases k <;> simp [takeTune]

@[simp] theorem requestTune_tape (s : State) : (requestTune s).1.tape = s.tape := by
  unfold requestTune
  split
  · rfl
  · split <;> simp

@[simp] theorem takeScan_tape (dir : ScanDir) (base : Nat) (s : State) : (takeScan dir base s).tape = s.tape := by
  unfold takeScan; dsimp only; split <;> simp

@[simp] theorem requestScan_tape (s : State) : (requestScan s).1.tape = s.tape := by
  unfold requestScan
  dsimp only
  split
  · rfl
  · split_ifs <;> simp

@[simp] theorem requestScanStop_tape (s : State) : (requestScanStop s).1.tape = s.tape := by
  unfold requestScanStop; split <;> simp

@[simp] theorem requestStore_tape (s : State) : (requestStore s).1.tape = s.tape := by
  unfold requestStore; dsimp only; split_ifs <;> simp

@[simp] theorem takeFine_tape (d : Int) (s : State) : (takeFine d s).tape = s.tape := by
  unfold takeFine; dsimp only; split <;> simp

@[simp] theorem requestFine_tape (s : State) : (requestFine s).1.tape = s.tape := by
  unfold requestFine
  dsimp only
  split
  · rfl
  · split_ifs <;> simp

@[simp] theorem takeTuner_tape (s : State) : (takeTuner s).tape = s.tape := by simp [takeTuner]
@[simp] theorem returnTuner_tape (s : State) : (returnTuner s).tape = s.tape := by rfl

@[simp] theorem tunerRailLost_tape (s : State) : (tunerRailLost s).tape = s.tape := by
  unfold tunerRailLost
  dsimp only
  split
  · simp
  · split <;> simp

@[simp] theorem tunerRailGood_tape (s : State) : (tunerRailGood s).tape = s.tape := by
  unfold tunerRailGood; split <;> simp

@[simp] theorem wordEnd_tape (s : State) : (wordEnd s).tape = s.tape := by unfold wordEnd; split <;> rfl
@[simp] theorem sawReading_tape (r : Reading) (s : State) : (sawReading r s).tape = s.tape := by rfl

@[simp] theorem settleEnd_tape (r : Reading) (s : State) : (settleEnd r s).tape = s.tape := by
  unfold settleEnd; split <;> simp

@[simp] theorem afcEvent_tape (r : Reading) (s : State) : (afcEvent r s).tape = s.tape := by
  unfold afcEvent; split <;> simp

@[simp] theorem trackEvent_tape (r : Reading) (s : State) : (trackEvent r s).tape = s.tape := by
  unfold trackEvent; split <;> simp

@[simp] theorem watchEvent_tape (r : Reading) (s : State) : (watchEvent r s).tape = s.tape := by
  unfold watchEvent; dsimp only; split_ifs <;> simp

@[simp] theorem stepTest_tape (r : Reading) (s : State) : (stepTest r s).tape = s.tape := by
  unfold stepTest
  split
  · rfl
  · dsimp only; split_ifs <;> simp

@[simp] theorem dwellEnd_tape (s : State) : (dwellEnd s).tape = s.tape := by unfold dwellEnd; split <;> simp

@[simp] theorem nameTake_tape (s : State) : (nameTake s).tape = s.tape := by
  unfold nameTake
  split
  · rfl
  · dsimp only
    split
    · split <;> simp
    · simp

/-! ### Power and the panel -/

@[simp] theorem wake_tape (c : WakeCause) (s : State) : (wake c s).tape = s.tape := by unfold wake; split <;> rfl

@[simp] theorem cancelOff_tape (s : State) : (cancelOff s).tape = s.tape := by unfold cancelOff; split <;> simp

@[simp] theorem completeOff_tape (s : State) : (completeOff s).tape = s.tape := by unfold completeOff; split <;> rfl

@[simp] theorem releaseHost_tape (s : State) : (releaseHost s).tape = s.tape := by
  unfold releaseHost
  split
  · dsimp only; split <;> simp
  · rfl

@[simp] theorem railLost_tape (s : State) : (railLost s).tape = s.tape := by simp [railLost]

@[simp] theorem takeSetting_tape (pos : Nat) (v : Byte) (s : State) : (takeSetting pos v s).tape = s.tape := by
  unfold takeSetting; dsimp only; split_ifs <;> rfl

@[simp] theorem handPwr_tape (h : PwrHeld) (s : State) : (handPwr h s).tape = s.tape := by cases h <;> simp [handPwr]

@[simp] theorem toggleTimer_tape (s : State) : (toggleTimer s).tape = s.tape := by
  unfold toggleTimer; dsimp only; split_ifs <;> simp

@[simp] theorem dropToggle_tape (s : State) : (dropToggle s).tape = s.tape := by unfold dropToggle; split <;> simp

/-! ### The scheduler's own work -/

@[simp] theorem setEntry_tape (k : Fin 16) (e : Entry) (s : State) : (setEntry k e s).tape = s.tape := by rfl

@[simp] theorem handSch_tape (h : SchHeld) (s : State) : (handSch h s).tape = s.tape := by cases h <;> simp [handSch]

@[simp] theorem writeStatus_tape (k : Fin 16) (s : State) : (writeStatus k s).tape = s.tape := by
  unfold writeStatus; dsimp only; split_ifs <;> simp

@[simp] theorem postProgramme_tape (k : Fin 16) (o : EndOutcome) (r : Reason) (s : State) :
    (postProgramme k o r s).tape = s.tape := by simp [postProgramme]

@[simp] theorem recompute_tape (k : Fin 16) (s : State) : (recompute k s).tape = s.tape := by
  unfold recompute
  dsimp only
  split
  · split
    · split <;> simp
    · simp
  · rfl

@[simp] theorem recomputeAll_tape (ks : List (Fin 16)) (s : State) : (recomputeAll ks s).tape = s.tape := by
  induction ks generalizing s with
  | nil => rfl
  | cons k rest ih => simp [recomputeAll, ih]

@[simp] theorem makeLog_tape (k : Fin 16) (f : LogFacts) (s : State) : (makeLog k f s).tape = s.tape := by
  unfold makeLog; dsimp only; split <;> simp

@[simp] theorem conclude_tape (k : Fin 16) (e : Entry) (f : LogFacts) (s : State) : (conclude k e f s).tape = s.tape := by
  simp [conclude]

@[simp] theorem missDay_tape (k : Fin 16) (day : Nat) (r : Reason) (s : State) : (missDay k day r s).tape = s.tape := by
  simp [missDay]

@[simp] theorem missNext_tape (k : Fin 16) (r : Reason) (s : State) : (missNext k r s).tape = s.tape := by
  simp [missNext]

@[simp] theorem concludeRun_tape (c : Run) (o : EndOutcome) (r : Reason) (detail : Nat) (s : State) :
    (concludeRun c o r detail s).tape = s.tape := by simp [concludeRun]

@[simp] theorem setRun_tape (c : Run) (s : State) : (setRun c s).tape = s.tape := by rfl

@[simp] theorem startEffects_tape (c : Run) (counter : Int) (s : State) : (startEffects c counter s).tape = s.tape := by
  simp [startEffects]

@[simp] theorem passOver_tape (k : Fin 16) (s : State) : (passOver k s).tape = s.tape := by simp [passOver]

@[simp] theorem endPassed_tape (k : Fin 16) (s : State) : (endPassed k s).tape = s.tape := by
  unfold endPassed
  dsimp only
  split
  · split_ifs <;> simp
  · rfl

@[simp] theorem endPassedAll_tape (ks : List (Fin 16)) (s : State) : (endPassedAll ks s).tape = s.tape := by
  induction ks generalizing s with
  | nil => rfl
  | cons k rest ih => simp [endPassedAll, ih]

@[simp] theorem setWait_tape (w : WaitReason) (ks : List (Fin 16)) (s : State) : (setWait w ks s).tape = s.tape := by
  induction ks generalizing s with
  | nil => rfl
  | cons k rest ih => simp [setWait, ih]

@[simp] theorem fallBack_tape (c : Run) (s : State) : (fallBack c s).tape = s.tape := by
  unfold fallBack; dsimp only; split <;> simp

@[simp] theorem takeUp_tape (k : Fin 16) (s : State) : (takeUp k s).tape = s.tape := by rfl

@[simp] theorem makeEmpty_tape (k : Fin 16) (s : State) : (makeEmpty k s).tape = s.tape := by
  unfold makeEmpty
  dsimp only
  split
  · split <;> simp
  · simp

@[simp] theorem expireClaim_tape (k : Fin 16) (s : State) : (expireClaim k s).tape = s.tape := by simp [expireClaim]

@[simp] theorem claimTick_tape (s : State) : (claimTick s).tape = s.tape := by
  unfold claimTick
  split
  · rfl
  · split <;> simp

@[simp] theorem requestClaim_tape (s : State) : (requestClaim s).1.tape = s.tape := by
  unfold requestClaim
  split
  · rfl
  · split
    · split <;> rfl
    · split <;> simp

@[simp] theorem takeCommit_tape (k : Fin 16) (s : State) : (takeCommit k s).tape = s.tape := by simp [takeCommit]

@[simp] theorem requestCommit_tape (s : State) : (requestCommit s).1.tape = s.tape := by
  unfold requestCommit
  split
  · rfl
  · split
    · rfl
    · split <;> simp

@[simp] theorem requestDiscard_tape (s : State) : (requestDiscard s).1.tape = s.tape := by
  unfold requestDiscard
  split
  · rfl
  · split <;> simp

@[simp] theorem requestDelete_tape (s : State) : (requestDelete s).1.tape = s.tape := by
  unfold requestDelete
  split
  · rfl
  · split <;> simp

@[simp] theorem stepOver_tape (new : Nat) (k : Fin 16) (s : State) : (stepOver new k s).tape = s.tape := by
  unfold stepOver
  dsimp only
  split
  · split <;> simp
  · rfl

@[simp] theorem stepOverAll_tape (new : Nat) (ks : List (Fin 16)) (s : State) : (stepOverAll new ks s).tape = s.tape := by
  induction ks generalizing s with
  | nil => rfl
  | cons k rest ih => simp [stepOverAll, ih]

@[simp] theorem clockMiss_tape (new : Nat) (k : Fin 16) (s : State) : (clockMiss new k s).tape = s.tape := by
  unfold clockMiss
  dsimp only
  split
  · split <;> simp
  · rfl

@[simp] theorem clockMissAll_tape (new : Nat) (ks : List (Fin 16)) (s : State) :
    (clockMissAll new ks s).tape = s.tape := by
  induction ks generalizing s with
  | nil => rfl
  | cons k rest ih => simp [clockMissAll, ih]

@[simp] theorem stepBack_tape (new : Nat) (s : State) : (stepBack new s).tape = s.tape := by
  unfold stepBack
  split
  · rfl
  · split <;> simp

@[simp] theorem stepNotice_tape (n : StepNotice) (s : State) : (stepNotice n s).tape = s.tape := by
  unfold stepNotice; dsimp only; split <;> simp

@[simp] theorem transportReport_tape (st : TransportState) (s : State) : (transportReport st s).tape = s.tape := by
  unfold transportReport
  split
  · rfl
  · split <;> simp

@[simp] theorem markDone_tape (m : MarkWrite) (s : State) : (markDone m s).tape = s.tape := by
  unfold markDone
  split
  · split <;> simp
  · rfl

/-! ### The memory path -/

@[simp] theorem finish_tape (ran : Bool) (s : State) : (finish ran s).tape = s.tape := by simp [finish]

@[simp] theorem handOldest_tape (b : Block) (s : State) : (handOldest b s).tape = s.tape := by
  cases b <;> simp only [handOldest] <;> split <;> simp

@[simp] theorem grants_tape (n : Nat) (s : State) : (grants n s).tape = s.tape := by
  induction n generalizing s with
  | zero => rfl
  | succ n ih =>
    unfold grants
    split
    · rfl
    · split <;> simp [ih]

@[simp] theorem grantSlots_tape (s : State) : (grantSlots s).tape = s.tape := by simp [grantSlots]
@[simp] theorem closeCycle_tape (s : State) : (closeCycle s).tape = s.tape := by rfl
@[simp] theorem releaseLatch_tape (s : State) : (releaseLatch s).tape = s.tape := by rfl
@[simp] theorem drain_tape (s : State) : (drain s).tape = s.tape := by simp [drain]

@[simp] theorem protect_tape (r : ProtectReason) (off : Nat) (data : Byte) (s : State) :
    (protect r off data s).tape = s.tape := by unfold protect; dsimp only; split <;> simp

@[simp] theorem passWrite_tape (off : Nat) (data : Byte) (s : State) : (passWrite off data s).tape = s.tape := by
  simp [passWrite]

@[simp] theorem takeCell_tape (n : Nat) (v : Byte) (s : State) : (takeCell n v s).tape = s.tape := by rfl

@[simp] theorem programmeCycle_tape (off : Nat) (data : Byte) (s : State) : (programmeCycle off data s).tape = s.tape := by
  unfold programmeCycle; dsimp only; split <;> split <;> simp

@[simp] theorem presetCycle_tape (off : Nat) (data : Byte) (s : State) : (presetCycle off data s).tape = s.tape := by
  unfold presetCycle; dsimp only; split_ifs <;> simp

@[simp] theorem settingsCycle_tape (off : Nat) (data : Byte) (s : State) : (settingsCycle off data s).tape = s.tape := by
  unfold settingsCycle; dsimp only; split <;> simp

@[simp] theorem useFree_tape (s : State) : (useFree s).tape = s.tape := by rfl

end Sys2Proof.Machine
end

section
/-! SUPPORT. R30 to R32, R42, R51, R55: every operation of TRC keeps SRV and POS within their bounds. An operation hands SRV a
row or a speed, and POS a motion, a count or a cassette; whatever state it enters, the two blocks keep their own bounds. -/

namespace Sys2Proof.Machine

/-! ### SRV and POS are written -/

section
variable {s : State} (h : s.tape.Wf)
include h

theorem Tape.Wf.setSrv {v : Srv} (hv : s.srv.Wf → v.Wf) : (s.setSrv v).tape.Wf := ⟨hv h.1, h.2⟩

theorem Tape.Wf.setPos {p : Pos}
    (hp : s.pos.Wf (Config.counterLimit s.straps.fr30) → p.Wf (Config.counterLimit s.straps.fr30)) :
    (s.setPos p).tape.Wf := ⟨h.1, hp h.2⟩

omit h in
/-- An operation of two branches. -/
theorem ite_tapeWf {c : Prop} [Decidable c] {t u : State} (ht : t.tape.Wf) (hu : u.tape.Wf) :
    (if c then t else u).tape.Wf := by
  split <;> assumption

/-- R29: the row that is handed changes SRV's drives and POS's motion. -/
@[simp] theorem applyRow_tapeWf (on : Bool) : (applyRow on s).tape.Wf := by
  refine (h.setSrv fun hv => hv.drive ..).setPos fun hp => ?_
  split <;> exact hp.changeRow ..

@[simp] theorem useSpeed_tapeWf (m : Speed) (o : SpeedOrigin) : (useSpeed m o s).tape.Wf := by
  have hv := h.setSrv fun hv => hv.setSpeed s.now m o
  unfold useSpeed
  dsimp only
  split
  · exact hv
  · exact hv.setPos id

@[simp] theorem defaultSpeed_tapeWf : (defaultSpeed s).tape.Wf := by simp [defaultSpeed, h]

@[simp] theorem startRun_tapeWf (goal : Nat) : (startRun goal s).tape.Wf := h

@[simp] theorem stopWriting_tapeWf : (stopWriting s).tape.Wf := by unfold stopWriting; split <;> exact h

@[simp] theorem beginWriting_tapeWf : (beginWriting s).tape.Wf := h.setPos fun hp => hp.beginWriting _

@[simp] theorem tryWriting_tapeWf : (tryWriting s).tape.Wf := by unfold tryWriting; split <;> simp [h]

end

/-! ### What TRC does to itself alone -/

section
variable (s : State)

@[simp] theorem restartDrum_tape : (restartDrum s).tape = s.tape := by rfl
@[simp] theorem restartCap_tape : (restartCap s).tape = s.tape := by rfl
@[simp] theorem clearRewind_tape : (clearRewind s).tape = s.tape := by rfl
@[simp] theorem replaceTarget_tape (p : Target) : (replaceTarget p s).tape = s.tape := by rfl
@[simp] theorem holdInStop_tape (p : Target) : (holdInStop p s).tape = s.tape := by rfl
@[simp] theorem takeTransport_tape : (takeTransport s).tape = s.tape := by rfl

@[simp] theorem reportState_tape : (reportState s).tape = s.tape := by unfold reportState; split <;> rfl
@[simp] theorem stopSearch_tape : (stopSearch s).tape = s.tape := by unfold stopSearch; split <;> simp
@[simp] theorem dropHeld_tape : (dropHeld s).tape = s.tape := by unfold dropHeld; split <;> rfl
@[simp] theorem stopDrumAllowance_tape : (stopDrumAllowance s).tape = s.tape := by
  unfold stopDrumAllowance; split <;> rfl

end

/-! ### Entries, faults and limits -/

section
variable {s : State} (h : s.tape.Wf)
include h

@[simp] theorem enterCore_tapeWf (st : TransportState) (on : Bool) : (enterCore st on s).tape.Wf := by
  rw [enterCore_eq]
  split <;> simp [h]

@[simp] theorem enterPosting_tapeWf (st : TransportState) (o : Origin) (on : Bool) : (enterPosting st o on s).tape.Wf := by
  simp [enterPosting, h]

@[simp] theorem enter_tapeWf (st : TransportState) (o : Origin) (quiet on : Bool) : (enter st o quiet on s).tape.Wf := by
  unfold enter; split <;> simp [h]

@[simp] theorem latchFault_tapeWf (code : FaultCode) (detail : Nat) : (latchFault code detail s).tape.Wf := by
  unfold latchFault
  split
  · exact h
  · dsimp only
    split <;> simp [h]

@[simp] theorem limitCore_tapeWf (e : TapeEnd) (stall : Bool) : (limitCore e stall s).tape.Wf := by
  unfold limitCore
  dsimp only
  split <;> split <;> simp [h]

@[simp] theorem takeRewind_tapeWf : (takeRewind s).tape.Wf := by
  unfold takeRewind
  dsimp only
  split_ifs <;> simp [h]

@[simp] theorem tapeLimit_tapeWf (e : TapeEnd) (stall : Bool) : (tapeLimit e stall s).tape.Wf := by simp [tapeLimit, h]

@[simp] theorem meetLimit_tapeWf : (meetLimit s).tape.Wf := by unfold meetLimit; split <;> simp [h]

/-! ### Motions, pause and record -/

@[simp] theorem enterMotion_tapeWf (st : TransportState) (o : Origin) (quiet : Bool) :
    (enterMotion st o quiet s).tape.Wf := by simp [enterMotion, h]

@[simp] theorem enterPhase_tapeWf (p : RecPhase) : (enterPhase p s).tape.Wf := by simp [enterPhase, h]

@[simp] theorem beginPause_tapeWf (o : Origin) (quiet : Bool) : (beginPause o quiet s).tape.Wf := by
  refine meetLimit_tapeWf (startRun_tapeWf ?_ _)
  simp [h]

@[simp] theorem startCatchUp_tapeWf (o : Origin) : (startCatchUp o s).tape.Wf := by
  refine meetLimit_tapeWf (startRun_tapeWf ?_ _)
  simp [h]

@[simp] theorem backSpaceDone_tapeWf : (backSpaceDone s).tape.Wf := by unfold backSpaceDone; split <;> simp [h]

@[simp] theorem reverseCatchUp_tapeWf : (reverseCatchUp s).tape.Wf := by
  have hp := enterPhase_tapeWf h .backSpace
  exact ite_tapeWf (meetLimit_tapeWf (backSpaceDone_tapeWf hp)) (meetLimit_tapeWf (startRun_tapeWf hp _))

@[simp] theorem catchUpDone_tapeWf : (catchUpDone s).tape.Wf := by simp [catchUpDone, h]

@[simp] theorem runDone_tapeWf : (runDone s).tape.Wf := by
  unfold runDone
  split
  · split <;> simp [h]
  · exact h

@[simp] theorem enterRecord_tapeWf (m : Speed) (mark paused : Bool) (o : Origin) (quiet : Bool) :
    (enterRecord m mark paused o quiet s).tape.Wf := by
  have hu : (useSpeed m .recorded (s.setTrc { s.trc with markDue := mark })).tape.Wf := useSpeed_tapeWf (by simp [h]) _ _
  exact ite_tapeWf (beginPause_tapeWf hu o quiet) (meetLimit_tapeWf (tryWriting_tapeWf (enter_tapeWf hu ..)))

/-! ### Searches -/

@[simp] theorem startGoto_tapeWf (target : Int) (o : Origin) (quiet : Bool) : (startGoto target o quiet s).tape.Wf := by
  unfold startGoto
  dsimp only
  split_ifs <;> simp [h]

@[simp] theorem startIndex_tapeWf (dir : Dir) (count : Nat) (o : Origin) (quiet : Bool) :
    (startIndex dir count o quiet s).tape.Wf := by simp [startIndex, h]

@[simp] theorem searchFound_tapeWf (k : Search) : (searchFound k s).tape.Wf := by simp [searchFound, h]

@[simp] theorem counterChanged_tapeWf : (counterChanged s).tape.Wf := by
  unfold counterChanged
  split
  · dsimp only
    split_ifs <;> simp [h]
  · exact h

@[simp] theorem markReported_tapeWf (m : Int) : (markReported m s).tape.Wf := by
  unfold markReported
  split
  · dsimp only
    split_ifs <;> simp [h]
  · exact h

@[simp] theorem searchTimeout_tapeWf : (searchTimeout s).tape.Wf := by
  unfold searchTimeout
  split
  · split <;> simp [h]
  · exact h

/-! ### Threading, unthreading and eject -/

@[simp] theorem beginThread_tapeWf (p : Target) : (beginThread p s).tape.Wf := by simp [beginThread, h]

@[simp] theorem beginUnthread_tapeWf (p : Option Target) (o : Origin) : (beginUnthread p o s).tape.Wf := by
  simp [beginUnthread, h]

@[simp] theorem beginEject_tapeWf (o : Origin) : (beginEject o s).tape.Wf := by simp [beginEject, h]

@[simp] theorem serveTarget_tapeWf (p : Target) : (serveTarget p s).tape.Wf := by
  unfold serveTarget
  dsimp only
  split <;> simp [h]

@[simp] theorem threadingDone_tapeWf : (threadingDone s).tape.Wf := by
  unfold threadingDone
  dsimp only
  split
  · simp [h]
  · split <;> simp [h]

@[simp] theorem threadFailure_tapeWf : (threadFailure s).tape.Wf := by unfold threadFailure; split <;> simp [h]

@[simp] theorem unthreadedSwitch_tapeWf : (unthreadedSwitch s).tape.Wf := by
  unfold unthreadedSwitch
  split
  · split <;> simp [h]
  · split
    · split <;> simp [h]
    · exact h
  · exact h

/-! ### Requests -/

@[simp] theorem requestMotion_tapeWf (st : TransportState) (req : TargetRequest) : (requestMotion st req s).1.tape.Wf := by
  unfold requestMotion
  split
  · exact h
  · split
    · exact h
    · simp [h]
    · exact h
    · split <;> simp [h]

omit h in
theorem requestSearch_tapeWf (h : s.tape.Wf) (req : TargetRequest) {start : State → State}
    (hstart : ∀ u : State, u.tape.Wf → (start u).tape.Wf) : (requestSearch req start s).1.tape.Wf := by
  unfold requestSearch
  split
  · exact h
  · split
    · exact h
    · simp [h]
    · exact h
    · exact hstart _ (by simp [h])

@[simp] theorem requestGoto_tapeWf : (requestGoto s).1.tape.Wf := by
  unfold requestGoto
  dsimp only
  split
  · exact h
  · exact requestSearch_tapeWf h _ fun _ hu => startGoto_tapeWf hu ..

@[simp] theorem requestIndex_tapeWf : (requestIndex s).1.tape.Wf := by
  unfold requestIndex
  dsimp only
  split
  · exact h
  · split
    · exact h
    · exact requestSearch_tapeWf h _ fun _ hu => startIndex_tapeWf hu ..

@[simp] theorem takeRecord_tapeWf (m : Speed) (mark paused : Bool) (o : Origin) (quiet : Bool) :
    (takeRecord m mark paused o quiet s).1.tape.Wf := by
  unfold takeRecord
  dsimp only
  split
  · simp [h]
  · simp [h]
  · split <;> simp [h]

omit h in
@[simp] theorem recordTune_tape (src : RecordSource) : (recordTune src s).1.tape = s.tape := by
  unfold recordTune
  split
  · rfl
  · split <;> simp

@[simp] theorem requestRecord_tapeWf : (requestRecord s).1.tape.Wf := by
  unfold requestRecord
  dsimp only
  split
  · exact h
  · split
    · exact h
    · split
      · exact h
      · have htune : (recordTune ((recordSource s.rqu.arg0).getD .current) s).1.tape.Wf := by simp [h]
        split <;> rename_i hr <;> rw [hr] at htune
        · exact h
        · exact takeRecord_tapeWf (s := clearRewind _) htune ..

@[simp] theorem stopTape_tapeWf (o : Origin) (quiet : Bool) : (stopTape o quiet s).tape.Wf := by
  unfold stopTape; split <;> simp [h]

@[simp] theorem stopByTable_tapeWf : (stopByTable s).1.tape.Wf := by unfold stopByTable; split <;> simp [h]

@[simp] theorem ownerToPanel_tapeWf : (ownerToPanel s).tape.Wf := by simp [ownerToPanel, h]

@[simp] theorem stopOverride_tapeWf : (stopOverride s).1.tape.Wf := by unfold stopOverride; split <;> simp [h]

@[simp] theorem requestStop_tapeWf : (requestStop s).1.tape.Wf := by unfold requestStop; split_ifs <;> simp [h]

@[simp] theorem pauseInPause_tapeWf : (pauseInPause s).1.tape.Wf := by
  unfold pauseInPause
  split
  · exact h
  · split <;> simp [h]
  · simp [h]

@[simp] theorem requestPause_tapeWf : (requestPause s).1.tape.Wf := by
  unfold requestPause
  split
  · exact h
  · split <;> simp [h]

@[simp] theorem resumeInPause_tapeWf (o : Origin) : (resumeInPause o s).1.tape.Wf := by
  unfold resumeInPause; split <;> simp [h]

@[simp] theorem requestResume_tapeWf : (requestResume s).1.tape.Wf := by
  unfold requestResume
  split
  · exact h
  · split <;> simp [h]

@[simp] theorem ejectByTable_tapeWf (o : Origin) : (ejectByTable o s).1.tape.Wf := by
  unfold ejectByTable; split <;> simp [h]

@[simp] theorem requestEject_tapeWf : (requestEject s).1.tape.Wf := by unfold requestEject; split <;> simp [h]

/-- R52: COUNTER_RESET sets the counter to 0. -/
@[simp] theorem requestReset_tapeWf : (requestReset s).1.tape.Wf := by
  unfold requestReset
  split
  · exact h
  · split
    case h_4 => exact h.setPos fun hp => hp.reset s.now
    all_goals exact h

@[simp] theorem requestRecover_tapeWf : (requestRecover s).1.tape.Wf := by
  unfold requestRecover
  split
  · exact h
  · split
    case h_3 => dsimp only; split_ifs <;> simp [h]
    all_goals exact h

/-! ### Cassette switches -/

@[simp] theorem cassetteIn_tapeWf (tab : Bool) : (cassetteIn tab s).tape.Wf :=
  defaultSpeed_tapeWf (Tape.Wf.setPos (s := s.setTrc _) h fun hp => hp.newCassette)

@[simp] theorem cassetteGone_tapeWf : (cassetteGone s).tape.Wf :=
  defaultSpeed_tapeWf (Tape.Wf.setPos (s := s.setTrc _) h id)

@[simp] theorem insertCassette_tapeWf (tab : Bool) : (insertCassette tab s).1.tape.Wf := by
  unfold insertCassette; split <;> simp [h]

@[simp] theorem removeCassette_tapeWf : (removeCassette s).tape.Wf := by unfold removeCassette; split <;> simp [h]

/-! ### The scheduler's operations on TRC, and the power-off -/

@[simp] theorem returnTransport_tapeWf : (returnTransport s).tape.Wf := by
  unfold returnTransport
  dsimp only
  split_ifs <;> simp [h]

@[simp] theorem schRecord_tapeWf (m : Speed) : (schRecord m s).tape.Wf := by unfold schRecord; split <;> simp [h]

@[simp] theorem schResume_tapeWf (mark : Bool) : (schResume mark s).tape.Wf := by unfold schResume; split <;> simp [h]

@[simp] theorem schPause_tapeWf : (schPause s).tape.Wf := by unfold schPause; split <;> simp [h]

@[simp] theorem schStop_tapeWf : (schStop s).tape.Wf := by
  unfold schStop
  split
  · split
    · simp [h]
    · exact h
    · split <;> simp [h]
  · exact h

@[simp] theorem unthreadForPowerOff_tapeWf (o : Origin) : (unthreadForPowerOff o s).tape.Wf := by
  unfold unthreadForPowerOff; split <;> simp [h]

/-! ### The main rail, and the locks that SRV reports -/

@[simp] theorem transportRailLost_tapeWf : (transportRailLost s).tape.Wf := by
  unfold transportRailLost
  dsimp only
  split_ifs <;> simp [h]

@[simp] theorem transportRailGood_tapeWf : (transportRailGood s).tape.Wf := by
  unfold transportRailGood
  dsimp only
  split <;> split <;> simp [h]

@[simp] theorem startRecordCapstan_tapeWf : (startRecordCapstan s).tape.Wf := by
  unfold startRecordCapstan; split <;> simp [h]

@[simp] theorem drumReported_tapeWf (r : LockReport) : (drumReported r s).tape.Wf := by
  unfold drumReported
  split
  · exact h
  · dsimp only; split <;> simp [h]
  · split <;> simp [h]

@[simp] theorem capReported_tapeWf (r : LockReport) : (capReported r s).tape.Wf := by
  unfold capReported
  split
  · exact h
  · dsimp only
    split
    · exact tryWriting_tapeWf h
    · exact tryWriting_tapeWf h
  · dsimp only; split <;> exact h

end

end Sys2Proof.Machine
end

section
/-! SUPPORT. R30 to R32, R42, R51, R55: SCH, the panel and the memory path keep SRV and POS within their bounds; they reach the
two blocks through TRC's operations, and through the host's writes to the profile table. -/

namespace Sys2Proof.Machine

section
variable {s : State} (h : s.tape.Wf)
include h

/-! ### Power and the panel -/

@[simp] theorem beginOff_tapeWf (off : PowerOff) (o : Origin) : (beginOff off o s).tape.Wf := by simp [beginOff, h]

@[simp] theorem autoOff_tapeWf : (autoOff s).tape.Wf := by unfold autoOff; split <;> simp [h]

@[simp] theorem keyPressed_tapeWf (n : Nat) : (keyPressed n s).tape.Wf := by
  unfold keyPressed
  split
  · dsimp only
    split <;> simp [h]
  · split
    · simp [h]
    · split <;> simp [h]
    · simp [h]
    · exact h
  · exact h

@[simp] theorem pressIf_tapeWf (b : Bool) (n : Nat) : (pressIf b n s).tape.Wf := by unfold pressIf; split <;> simp [h]

theorem keySample_tapeWf (k : BitVec 4) : (keySample k s).tape.Wf := by
  unfold keySample
  dsimp only
  refine pressIf_tapeWf (pressIf_tapeWf (pressIf_tapeWf (pressIf_tapeWf ?_ _ _) _ _) _ _) _ _
  exact h

@[simp] theorem requestPowerOff_tapeWf : (requestPowerOff s).1.tape.Wf := by
  unfold requestPowerOff; split_ifs <;> simp [h]

/-! ### The scheduler -/

@[simp] theorem releaseRun_tapeWf (wasStarted : Bool) : (releaseRun wasStarted s).tape.Wf := by
  unfold releaseRun
  dsimp only
  split <;> simp [h]

@[simp] theorem endRun_tapeWf (o : EndOutcome) (r : Reason) (detail : Nat) : (endRun o r detail s).tape.Wf := by
  unfold endRun; split <;> simp [h]

@[simp] theorem endWell_tapeWf : (endWell s).tape.Wf := by unfold endWell; split <;> simp [h]

@[simp] theorem startRunOfSch_tapeWf : (startRun_ s).tape.Wf := by
  unfold startRun_
  split
  · exact h
  · split <;> simp [h]

@[simp] theorem continueRun_tapeWf (c : Run) (b : Fin 16) : (continueRun c b s).tape.Wf := by simp [continueRun, h]

@[simp] theorem clockTests_tapeWf (c : Run) : (clockTests c s).tape.Wf := by
  unfold clockTests
  dsimp only
  split
  · split_ifs <;> simp [h]
  · split
    · split <;> simp [h]
    · exact h
  · exact h

@[simp] theorem labelTests_tapeWf (c : Run) : (labelTests c s).tape.Wf := by
  unfold labelTests
  dsimp only
  split
  · split_ifs <;> simp [h]
  · split <;> simp [h]
  · split <;> simp [h]
  · exact h

@[simp] theorem runTests_tapeWf : (runTests s).tape.Wf := by
  unfold runTests
  split
  · exact h
  · split <;> simp [h]

@[simp] theorem handRecord_tapeWf (c : Run) : (handRecord c s).tape.Wf := by simp [handRecord, h]

@[simp] theorem beginPreroll_tapeWf (k : Fin 16) (start : Nat) : (beginPreroll k start s).tape.Wf := by
  unfold beginPreroll
  dsimp only
  split <;> simp [h]

@[simp] theorem tryEntry_tapeWf (k : Fin 16) (busy : Bool) : (tryEntry k busy s).1.tape.Wf := by
  unfold tryEntry
  dsimp only
  split_ifs <;> simp [h]

omit h in
@[simp] theorem checkDue_tapeWf (n : Nat) {s : State} (h : s.tape.Wf) : (checkDue n s).tape.Wf := by
  induction n generalizing s with
  | zero => exact h
  | succ n ih =>
    have hw : (if transportBusy s then setWait .transport (dueEntries s) s else s).tape.Wf := ite_tapeWf (by simp [h]) h
    unfold checkDue
    dsimp only
    generalize (if transportBusy s then setWait .transport (dueEntries s) s else s) = u at hw ⊢
    split
    · exact h
    · split
      · simp [h]
      · split
        · simp [h]
        · split
          · simp [h]
          · split
            · exact hw
            · split
              · exact ih (tryEntry_tapeWf hw _ _)
              · exact tryEntry_tapeWf hw _ _

@[simp] theorem prerollCheck_tapeWf : (prerollCheck s).tape.Wf := by
  unfold prerollCheck
  dsimp only
  split <;> simp [h]

@[simp] theorem labelAction_tapeWf (c : Run) (status : Nat) : (labelAction c status s).tape.Wf := by
  unfold labelAction
  dsimp only
  split <;> simp [h]

@[simp] theorem labelPacket_tapeWf (net : Nat) (label : List Byte) (status : Nat) :
    (labelPacket net label status s).tape.Wf := by
  unfold labelPacket
  split
  · exact h
  · dsimp only
    split_ifs <;> simp [h]

@[simp] theorem absenceEnd_tapeWf (c : Run) : (absenceEnd c s).tape.Wf := by
  unfold absenceEnd
  dsimp only
  split
  · split <;> simp [h]
  · simp [h]

@[simp] theorem lossEnd_tapeWf (c : Run) : (lossEnd c s).tape.Wf := by
  unfold lossEnd
  dsimp only
  split <;> split <;> simp [h]

@[simp] theorem labelTick_tapeWf : (labelTick s).tape.Wf := by
  unfold labelTick
  split
  · exact h
  · dsimp only
    split_ifs <;> simp [h]

@[simp] theorem requestAbort_tapeWf : (requestAbort s).1.tape.Wf := by
  unfold requestAbort
  split <;> simp [h]

@[simp] theorem limitReport_tapeWf : (limitReport s).tape.Wf := by
  unfold limitReport
  split
  · exact h
  · split <;> simp [h]

@[simp] theorem testAutoOff_tapeWf : (testAutoOff s).tape.Wf := by unfold testAutoOff; split <;> simp [h]

@[simp] theorem takeNotice_tapeWf (n : Notice) : (takeNotice n s).tape.Wf := by cases n <;> simp [takeNotice, h]

omit h in
@[simp] theorem settle_tapeWf (n : Nat) {s : State} (h : s.tape.Wf) : (settle n s).tape.Wf := by
  induction n generalizing s with
  | zero => exact h
  | succ n ih =>
    unfold settle
    split
    · exact ih (by simp [h])
    · split
      · exact ih (by simp [h])
      · exact h

@[simp] theorem secondsEvent_tapeWf : (secondsEvent s).tape.Wf := by simp [secondsEvent, h]

/-! ### Events and host cycles -/

theorem event_tapeWf {f : State → State} (hf : ∀ u : State, u.tape.Wf → (f u).tape.Wf) : (event f s).tape.Wf := by
  have hs := hf s h
  unfold event
  split <;> simp [h, hs]

omit h in
@[simp] theorem holdCycle_tapeWf (n : Nat) {s : State} (h : s.tape.Wf) : (holdCycle n s).tape.Wf := by
  induction n generalizing s with
  | zero => exact h
  | succ n ih =>
    unfold holdCycle
    split
    · exact ih (event_tapeWf h fun u hu => by simp [hu])
    · exact h

@[simp] theorem holdOrServe_tapeWf : (holdOrServe s).tape.Wf := by
  unfold holdOrServe
  dsimp only
  split_ifs <;> simp [h]

/-- Each command's owner keeps the bounds. -/
theorem ownerActs_tapeWf {code : Byte} {t : State} {a : Answer} (ha : ownerActs code s = some (t, a)) : t.tape.Wf := by
  have of {r : State × Answer} (hr : r.1.tape.Wf) (e : some r = some (t, a)) : t.tape.Wf := by cases e; exact hr
  unfold ownerActs at ha
  split at ha
  case h_27 => cases ha
  all_goals exact of (by simp [h]) ha

@[simp] theorem request_tapeWf (code : Byte) : (request code s).tape.Wf := by
  unfold request
  dsimp only
  split
  · simp [h]
  · rename_i ha
    have ht := ownerActs_tapeWf h ha
    split <;> simp [ht]

/-- R58: a host write to the profile table may take the identified profile from POS. -/
@[simp] theorem profileCycle_tapeWf (off : Nat) (data : Byte) : (profileCycle off data s).tape.Wf := by
  have hp : (s.setPos (Pos.profileWritten s.srv.speed s.pos.profiles
      { s.pos with profiles := s.pos.profiles.write (off - offProfiles) data })).tape.Wf :=
    h.setPos fun hp =>
      Pos.Wf.profileWritten (p := { s.pos with profiles := s.pos.profiles.write (off - offProfiles) data }) hp _ _
  simp [profileCycle, hp]

@[simp] theorem regionWrite_tapeWf (off : Nat) (data : Byte) : (regionWrite off data s).tape.Wf := by
  unfold regionWrite
  iterate 15 refine ite_tapeWf (by simp [h]) ?_
  simp [h]

theorem hostWrite_tapeWf (addr : Nat) (data : Byte) : (hostWrite addr data s).tape.Wf := by
  have hu : (if hostRuns s then holdOrServe s else s).tape.Wf := ite_tapeWf (by simp [h]) h
  unfold hostWrite
  dsimp only
  generalize (if hostRuns s then holdOrServe s else s) = u at hu ⊢
  split
  · exact hu
  · split
    · exact hu
    · split <;> simp [hu]

theorem hostRead_tapeWf (addr : Nat) : (hostRead addr s).tape.Wf := by
  have hu : (if hostRuns s then holdOrServe s else s).tape.Wf := ite_tapeWf (by simp [h]) h
  unfold hostRead
  dsimp only
  generalize (if hostRuns s then holdOrServe s else s) = u at hu ⊢
  split
  · exact hu
  · split
    · exact hu
    · split
      · exact hu
      · split
        · exact hu
        · split <;> exact hu

end

end Sys2Proof.Machine
end

section
/-! LEMMA. R30 to R32, R42, R51, R55: the standby start, every instruction and the idle tick keep SRV and POS within their
bounds; so does every step. -/

namespace Sys2Proof.Machine

/-! ### The standby start, and the loss of the supply -/

theorem Srv.start_wf (now : Nat) : (Srv.start now).Wf := by simp [Srv.Wf, Srv.start]

theorem Pos.start_wf (fr30 : Bool) : Pos.start.Wf (Config.counterLimit fr30) := by
  have := counterLimit_nonneg fr30
  simp only [Pos.Wf, Pos.start, List.length_nil]
  omega

/-- A machine whose servo and position unit stand at their start values. -/
theorem tapeWf_of_start {s : State} {now : Nat} (hv : s.srv = .start now) (hp : s.pos = .start) : s.tape.Wf := by
  simp only [Tape.Wf, State.tape, hv, hp]
  exact ⟨Srv.start_wf now, Pos.start_wf _⟩

@[simp] theorem loadCells_tape (s : State) : (loadCells s).tape = s.tape := by rfl

@[simp] theorem correctOffsets_tape (ns : List Nat) (s : State) : (correctOffsets ns s).tape = s.tape := by
  induction ns generalizing s with
  | nil => rfl
  | cons n rest ih => unfold correctOffsets; split <;> simp [ih]

@[simp] theorem loadPresets_tape (s : State) : (loadPresets s).tape = s.tape := by simp [loadPresets]

@[simp] theorem loadOne_tape (k : Fin 16) (s : State) : (loadOne k s).tape = s.tape := by
  unfold loadOne; dsimp only; split <;> simp

@[simp] theorem loadEntries_tape (ks : List (Fin 16)) (s : State) : (loadEntries ks s).tape = s.tape := by
  induction ks generalizing s with
  | nil => rfl
  | cons k rest ih => simp [loadEntries, ih]

@[simp] theorem loadSchedule_tape (s : State) : (loadSchedule s).tape = s.tape := by simp [loadSchedule]

@[simp] theorem offerInit_tape (gs : List WriteGroup) (s : State) : (offerInit gs s).tape = s.tape := by
  induction gs generalizing s with
  | nil => rfl
  | cons g rest ih => unfold offerInit; split <;> simp [ih]

@[simp] theorem dropDrafts_tape (ks : List (Fin 16)) (s : State) : (dropDrafts ks s).tape = s.tape := by
  induction ks generalizing s with
  | nil => rfl
  | cons k rest ih => unfold dropDrafts; split <;> simp [ih]

@[simp] theorem resolveRetained_tape (s : State) : (resolveRetained s).tape = s.tape := by
  unfold resolveRetained; dsimp only; split <;> simp

@[simp] theorem resolveOne_tape (k : Fin 16) (s : State) : (resolveOne k s).tape = s.tape := by
  unfold resolveOne; dsimp only; split <;> simp

@[simp] theorem resolveAll_tape (ks : List (Fin 16)) (s : State) : (resolveAll ks s).tape = s.tape := by
  induction ks generalizing s with
  | nil => rfl
  | cons k rest ih => simp [resolveAll, ih]

@[simp] theorem supplyOff_tape (k : Fin 16) (s : State) : (supplyOff k s).tape = s.tape := by
  unfold supplyOff
  dsimp only
  split
  · simp only [apply_ite State.tape, missNext_tape, ite_self]
  · rfl

@[simp] theorem supplyOffAll_tape (ks : List (Fin 16)) (s : State) : (supplyOffAll ks s).tape = s.tape := by
  induction ks generalizing s with
  | nil => rfl
  | cons k rest ih => simp [supplyOffAll, ih]

@[simp] theorem rebuild_tape (s : State) : (rebuild s).tape = s.tape := by simp [rebuild]

/-! ### A frame that is written (R48, R54) -/

/-- R48, R54: one frame is written, its pulse stands on CTL_OUT, and SCH is told of a mark it completes. -/
def frameWritten (s : State) : State :=
  let r := s.pos.writeFrame (Config.counterLimit s.straps.fr30) s.straps.fr30
  let u := (s.setPos r.1).setCtlOut (some r.2.1)
  match r.2.2 with
  | some m => markDone m u
  | none => u

theorem writeFrame_eq (s : State) : writeFrame s = if s.trc.writing then frameWritten s else s := rfl

/-- R91: FIELD_ID has changed, and LDS has begun a field. -/
def fieldSeen (at_ : Nat) (s : State) : State :=
  ((reachTime at_ s).setPins { s.pins with fieldFirst := !s.pins.fieldFirst }).setLds s.lds.fieldStart

/-- R34: SRV has taken a frame start. -/
def frameStarted (s : State) : State := s.setSrv (s.srv.takeFrameStart s.straps.fr30 s.now)

/-- R91, R34, R48: a change of FIELD_ID; at a first field SRV takes a frame start, and an external reference writes a frame. -/
theorem fieldStart_eq (at_ : Nat) (s : State) :
    fieldStart at_ s =
      if !s.pins.fieldFirst && (fieldSeen at_ s).srv.acceptsFrameStart s.straps.fr30 (fieldSeen at_ s).now then
        if (frameStarted (fieldSeen at_ s)).srv.row.frameRef && (frameStarted (fieldSeen at_ s)).srv.source == .external
            && s.trc.writing then
          frameWritten (frameStarted (fieldSeen at_ s))
        else frameStarted (fieldSeen at_ s)
      else fieldSeen at_ s := rfl

section
variable {s : State} (h : s.tape.Wf)
include h

/-- R28: the speed that a standby start loads changes no duty. -/
theorem loadSettings_tapeWf (m : Memory) : (loadSettings m s).tape.Wf := h

/-- R181: the profile shadow is loaded. -/
theorem loadProfiles_tapeWf (m : Memory) : (s.setPos { s.pos with profiles := m }).tape.Wf := h

@[simp] theorem validate_tapeWf : (validate s).tape.Wf := by
  have hp := loadProfiles_tapeWf (loadSettings_tapeWf (s := loadCells s) h
    (s.mem.slice (windowBase s + offSettings) 32)) (s.mem.slice (windowBase s + offProfiles) 128)
  unfold validate
  simp only [State.setPwr_tape, loadSchedule_tape, loadPresets_tape]
  exact hp

@[simp] theorem initialise_tapeWf : (initialise s).tape.Wf := by
  have hp := loadProfiles_tapeWf (loadSettings_tapeWf h defaultSettings) (Memory.writeAll [] 0 defaultProfiles)
  simpa [initialise] using hp

@[simp] theorem validateAndRebuild_tapeWf : (validateAndRebuild s).tape.Wf := by
  unfold validateAndRebuild; split <;> simp [h]

theorem standbyStart_tapeWf (l : PinLevels) : (standbyStart l s).tape.Wf := by
  have hs : (startValues l s).tape.Wf := tapeWf_of_start (now := s.now) rfl rfl
  unfold standbyStart
  split <;> simp [h, hs]

theorem supplyLoss_tapeWf (byteInProgress : Bool) : (supplyLoss byteInProgress s).tape.Wf := by
  unfold supplyLoss
  dsimp only
  split
  · exact tapeWf_of_start rfl rfl
  · exact h

theorem backupReset_tapeWf : (backupReset s).tape.Wf := by unfold backupReset; split <;> exact h

/-! ### The servo's and the position unit's own events -/

omit h in
theorem frameWritten_tapeWf {s : State} (h : s.tape.Wf) : (frameWritten s).tape.Wf := by
  have hs := h.setPos fun hp => hp.writeFrame s.straps.fr30
  unfold frameWritten
  dsimp only
  split
  · rw [markDone_tape]
    exact hs
  · exact hs

theorem writeFrame_tapeWf : (writeFrame s).tape.Wf := by
  rw [writeFrame_eq]
  exact ite_tapeWf (frameWritten_tapeWf h) h

theorem fieldStart_tapeWf (at_ : Nat) : (fieldStart at_ s).tape.Wf := by
  have hu : (fieldSeen at_ s).tape.Wf := h
  have hv : (frameStarted (fieldSeen at_ s)).tape.Wf := hu.setSrv id
  rw [fieldStart_eq]
  exact ite_tapeWf (ite_tapeWf (frameWritten_tapeWf hv) hv) hu

@[simp] theorem stallReported_tapeWf (reel : ReelName) : (stallReported reel s).tape.Wf := by
  unfold stallReported
  split
  · exact h
  · split <;> simp [h]

@[simp] theorem watchInterval_tapeWf (interval : Option Nat) : (watchInterval interval s).tape.Wf := by
  unfold watchInterval
  split
  · exact h
  · split
    · have hv := fun i : Nat => h.setSrv fun hv => hv.detect s.straps.fr30 i
      dsimp only
      split <;> simp [hv]
    · exact h

/-- R47, R57: a read pulse is counted, and SRV's tracking follows it. -/
theorem takePulse_tapeWf (dir : Dir) (rise high : Nat) : (takePulse dir rise high s).tape.Wf := by
  have hv : ∀ v : Srv, (s.srv.Wf → v.Wf) → (useFree ((s.setPos (s.pos.readPulse (Config.counterLimit s.straps.fr30) dir rise
      high s.srv.row s.srv.capLock).1).setSrv v)).tape.Wf := fun v hv =>
    (h.setPos fun hp => hp.readPulse dir rise high _ _).setSrv hv
  have hc : ∀ (c : Int) (u : State), u.tape.Wf → (if u.pos.counter = c then u else counterChanged u).tape.Wf :=
    fun c u hu => ite_tapeWf hu (by simp [hu])
  have hw := watchInterval_tapeWf (hv _ fun hs => hs.track s.straps.fr30 rise (Config.phaseTie s.free)
    (Config.trackingBeforePg s.free))
  unfold takePulse
  dsimp only
  split
  · exact markReported_tapeWf (hc _ _ (hw _)) _
  · exact hc _ _ (hw _)

theorem secondAdvance_tapeWf : (secondAdvance s).tape.Wf :=
  ite_tapeWf (event_tapeWf h fun u hu => by simp [hu]) h

omit h in
theorem keySamples_tapeWf (samples : List (BitVec 4)) {s : State} (h : s.tape.Wf) : (keySamples samples s).tape.Wf := by
  induction samples generalizing s with
  | nil => exact h
  | cons k rest ih => exact ih (event_tapeWf h fun u hu => keySample_tapeWf hu k)

theorem labelTake_tapeWf : (labelTake s).tape.Wf := by
  unfold labelTake
  dsimp only
  split
  · exact h
  · split <;> simp [h]

@[simp] theorem timeTake_tapeWf : (timeTake s).tape.Wf := by
  unfold timeTake
  dsimp only
  split
  · exact h
  · split <;> simp [h]

end

/-! ### The commands -/

/-- An outcome's next state lies within the bounds. -/
def OutcomeTape (o : Host.Outcome State Fault Refusal) : Prop := ∀ t, o = .next t → t.tape.Wf

theorem OutcomeTape.next {t : State} (h : t.tape.Wf) : OutcomeTape (.next t) := by
  intro u e; cases e; exact h

section
variable {s : State} (h : s.tape.Wf)
include h

theorem command_tapeWf {f : State → State} (hf : ∀ u : State, u.tape.Wf → (f u).tape.Wf) : OutcomeTape (command f s) :=
  .next (event_tapeWf h hf)

theorem hostCycle_tapeWf {f : State → State} (hf : ∀ u : State, u.tape.Wf → (f u).tape.Wf) :
    OutcomeTape (hostCycle f s) := by
  have he := event_tapeWf h hf
  refine .next ?_
  split <;> simp [h, he]

/-- A host write of the region, the form of every request and of the host's own writes. -/
theorem hostWriteAt_tapeWf (off : Nat) (data : Byte) : OutcomeTape (hostCycle (hostWriteAt off data) s) :=
  hostCycle_tapeWf h fun _ hu => hostWrite_tapeWf hu _ data

theorem execCassetteInsertion_tapeWf (tab : Bool) : OutcomeTape (execCassetteInsertion tab s) := by
  refine command_tapeWf h fun s h => ?_
  dsimp only
  split <;> simp [h]

theorem execIdleTimeout_tapeWf : OutcomeTape (execIdleTimeout s) := by
  refine command_tapeWf h fun s h => ?_
  split
  · split <;> simp [h]
  · exact h

theorem execPauseTimeout_tapeWf : OutcomeTape (execPauseTimeout s) := by
  refine command_tapeWf h fun s h => ?_
  split
  · split <;> simp [h]
  · exact h

theorem execLockAllowanceExpiry_tapeWf (motor : LockMotor) : OutcomeTape (execLockAllowanceExpiry motor s) := by
  refine command_tapeWf h fun s h => ?_
  cases motor <;> dsimp only <;> split <;> simp [h]

theorem execTapeLimit_tapeWf (which : TapeEnd) (active : Bool) : OutcomeTape (execTapeLimit which active s) := by
  refine command_tapeWf h fun s h => ?_
  cases which <;> dsimp only <;> split <;> simp [h]

theorem execMotorOc_tapeWf (motor : Fin 4) (active : Bool) : OutcomeTape (execMotorOc motor active s) := by
  refine command_tapeWf h fun s h => ?_
  dsimp only
  split_ifs <;> simp [h]

theorem execThermal_tapeWf (active : Bool) : OutcomeTape (execThermal active s) := by
  refine command_tapeWf h fun s h => ?_
  dsimp only
  split <;> simp [h]

/-- R44: the drives are powered down with the main rail. -/
theorem execMainGoodFall_tapeWf : OutcomeTape (execMainGoodFall s) := by
  refine command_tapeWf h fun s h => ite_tapeWf ?_ h
  have hv : ((s.setPins { s.pins with mainGood := false }).setSrv s.srv.powerDown).tape.Wf :=
    Tape.Wf.setSrv (s := s.setPins _) h fun hv => hv.powerDown
  have hr : ∀ b : Bool, (tunerRailLost (stopDrumAllowance (if b then
      transportRailLost ((s.setPins { s.pins with mainGood := false }).setSrv s.srv.powerDown)
      else (s.setPins { s.pins with mainGood := false }).setSrv s.srv.powerDown))).tape.Wf := fun b => by
    cases b <;> simp [hv]
  refine ite_tapeWf ?_ (hr _)
  rw [railLost_tape]
  exact hr _

/-- R44: the drives of the row that stands start with the main rail. -/
theorem execMainGoodRise_tapeWf : OutcomeTape (execMainGoodRise s) := by
  refine command_tapeWf h fun s h => ite_tapeWf h ?_
  have hv : ((s.setPins { s.pins with mainGood := true }).setSrv (s.srv.powerUp s.now)).tape.Wf :=
    Tape.Wf.setSrv (s := s.setPins _) h fun hv => hv.powerUp s.now
  have hr : (tunerRailGood (transportRailGood
      ((s.setPins { s.pins with mainGood := true }).setSrv (s.srv.powerUp s.now)))).tape.Wf := by simp [hv]
  exact ite_tapeWf hr hr

theorem execRailTimeout_tapeWf : OutcomeTape (execRailTimeout s) := by
  refine command_tapeWf h fun s h => ?_
  split
  · split <;> simp [h]
  · exact h

theorem execHostResetRelease_tapeWf : OutcomeTape (execHostResetRelease s) := by
  refine command_tapeWf h fun s h => ?_
  split <;> simp [h]

theorem execDrumFgPulse_tapeWf (at_ : Nat) : OutcomeTape (execDrumFgPulse at_ s) := by
  refine command_tapeWf h fun s h => ite_tapeWf ?_ h
  exact drumReported_tapeWf (Tape.Wf.setSrv (s := reachTime at_ s) h fun hv => hv.drumFgPulse _ _) _

theorem execDrumFgGap_tapeWf : OutcomeTape (execDrumFgGap s) := by
  refine command_tapeWf h fun s h => ite_tapeWf ?_ h
  exact drumReported_tapeWf (Tape.Wf.setSrv (s := reachLimit _ _ s) h fun hv => hv.drumFgGap _) _

theorem execCapstanFgPulse_tapeWf (at_ : Nat) : OutcomeTape (execCapstanFgPulse at_ s) := by
  refine command_tapeWf h fun s h => ite_tapeWf ?_ h
  have hr := fun r => capReported_tapeWf (Tape.Wf.setSrv (s := reachTime at_ s) h fun hv =>
    (hv.capFgPulse s.straps.fr30 (reachTime at_ s).now).countRun) r
  exact ite_tapeWf (runDone_tapeWf (hr _)) (hr _)

theorem execCapstanFgGap_tapeWf : OutcomeTape (execCapstanFgGap s) := by
  refine command_tapeWf h fun s h => ite_tapeWf ?_ h
  exact capReported_tapeWf (Tape.Wf.setSrv (s := reachLimit _ _ s) h fun hv => hv.capFgGap _) _

theorem execDrumPgPulse_tapeWf (at_ : Nat) : OutcomeTape (execDrumPgPulse at_ s) := by
  refine command_tapeWf h fun s h => ite_tapeWf ?_ h
  have hv := Tape.Wf.setSrv (s := reachTime at_ s) h fun hv =>
    hv.pgPulse s.straps.fr30 (reachTime at_ s).now (Config.phaseTie s.free) s.pos.lastPulse
  exact drumReported_tapeWf (by rwa [useFree_tape]) _

theorem execFrameReferencePulse_tapeWf : OutcomeTape (execFrameReferencePulse s) := by
  refine command_tapeWf h fun s h => ?_
  have hs := Tape.Wf.setSrv (s := reachLimit s.srv.refLast (Config.framePeriod s.straps.fr30) s) h
    (v := { s.srv with refLast := s.srv.refLast + Config.framePeriod s.straps.fr30 }) id
  exact ite_tapeWf (writeFrame_tapeWf hs) hs

theorem execFrameReferenceTimeout_tapeWf : OutcomeTape (execFrameReferenceTimeout s) := by
  refine command_tapeWf h fun s h => ?_
  dsimp only
  split
  · exact ite_tapeWf (Tape.Wf.setSrv (s := reachLimit _ _ s) h id) h
  · exact h

theorem execReelMark_tapeWf (reel : ReelName) (at_ : Nat) : OutcomeTape (execReelMark reel at_ s) := by
  refine command_tapeWf h fun s h => ?_
  have hs := Tape.Wf.setSrv (s := reachTime at_ s) h fun hv => hv.reelMark reel ((reachTime at_ s).now / 1000)
  exact ite_tapeWf (hs.setPos fun hp => hp.takePeriod ..) hs

theorem execReelStall_tapeWf (reel : ReelName) : OutcomeTape (execReelStall reel s) := by
  refine command_tapeWf h fun s h => ?_
  dsimp only
  split
  · exact stallReported_tapeWf (Tape.Wf.setSrv (s := reachTime _ s) h fun hv => hv.setReel reel _) _
  · exact h

theorem execCtlReadPulse_tapeWf (rise high : Nat) : OutcomeTape (execCtlReadPulse rise high s) := by
  refine command_tapeWf h fun s h => ?_
  dsimp only
  split
  · exact takePulse_tapeWf (s := reachTime _ s) h ..
  · exact h

theorem execRunDownEnd_tapeWf : OutcomeTape (execRunDownEnd s) := by
  refine command_tapeWf h fun s h => ?_
  dsimp only
  split <;> exact h

theorem execExtrapolationStart_tapeWf : OutcomeTape (execExtrapolationStart s) := by
  refine command_tapeWf h fun s h => ?_
  dsimp only
  split
  · exact counterChanged_tapeWf (Tape.Wf.setPos (s := reachLimit _ _ s) h fun hp => hp.count 8)
  · exact h

theorem execExtrapolatedFrame_tapeWf : OutcomeTape (execExtrapolatedFrame s) := by
  refine command_tapeWf h fun s h => ?_
  dsimp only
  split
  · exact counterChanged_tapeWf (Tape.Wf.setPos (s := reachLimit _ _ s) h fun hp => hp.count 1)
  · exact h

theorem execUnsureSet_tapeWf : OutcomeTape (execUnsureSet s) := by
  refine command_tapeWf h fun s h => ?_
  dsimp only
  split <;> exact h

theorem execClaimExpiry_tapeWf : OutcomeTape (execClaimExpiry s) := by
  refine command_tapeWf h fun s h => ?_
  split
  · split <;> simp [h]
  · exact h

/-- A test of the run that stands, which acts when its condition stands. -/
theorem runTest_tapeWf {c : Run → State → Bool} {f : Run → State → State}
    (hf : ∀ (r : Run) (u : State), u.tape.Wf → (f r u).tape.Wf) :
    OutcomeTape (command (fun s => match s.sch.run with | some r => if c r s then f r s else s | none => s) s) := by
  refine command_tapeWf h fun s h => ?_
  split
  · exact ite_tapeWf (hf _ _ h) h
  · exact h

/-- Every command keeps SRV and POS within their bounds. -/
theorem exec_tapeWf (i : Instr) : OutcomeTape (exec i s) := by
  cases i with
  | standbyStart levels => exact .next (standbyStart_tapeWf h levels)
  | standbySupplyLoss b => exact .next (supplyLoss_tapeWf h b)
  | backupReset => exact .next (backupReset_tapeWf h)
  | cassetteInsertion tab => exact execCassetteInsertion_tapeWf h tab
  | cassetteRemoval => exact command_tapeWf h fun u hu => removeCassette_tapeWf (s := u.setPins _) hu
  | play | record | stop | pause | resume | ff | rew | cue | review | eject | indexSearch | goto | counterReset
  | recover => exact hostWriteAt_tapeWf h _ _
  | threadingComplete closed => exact command_tapeWf h fun u hu => ite_tapeWf (threadingDone_tapeWf (s := u.setPins _) hu) hu
  | unthreadingComplete closed => exact command_tapeWf h fun u hu => ite_tapeWf (unthreadedSwitch_tapeWf (s := u.setPins _) hu) hu
  | threadTimeout => exact command_tapeWf h fun u hu => by split <;> simp [hu]
  | unthreadTimeout => exact command_tapeWf h fun u hu => by split <;> simp [hu]
  | ejectTimeout => exact command_tapeWf h fun u hu => by split <;> simp [hu]
  | idleTimeout => exact execIdleTimeout_tapeWf h
  | pauseTimeout => exact execPauseTimeout_tapeWf h
  | lockAllowanceExpiry motor => exact execLockAllowanceExpiry_tapeWf h motor
  | tapeLimit which active => exact execTapeLimit_tapeWf h which active
  | motorOc motor active => exact execMotorOc_tapeWf h motor active
  | thermal active => exact execThermal_tapeWf h active
  | searchCounterTimeout => exact command_tapeWf h fun _ hu => searchTimeout_tapeWf hu
  | mainGoodFall => exact execMainGoodFall_tapeWf h
  | mainGoodRise => exact execMainGoodRise_tapeWf h
  | railTimeout => exact execRailTimeout_tapeWf h
  | hostResetRelease => exact execHostResetRelease_tapeWf h
  | drumFgPulse at_ => exact execDrumFgPulse_tapeWf h at_
  | drumFgGap => exact execDrumFgGap_tapeWf h
  | capstanFgPulse at_ => exact execCapstanFgPulse_tapeWf h at_
  | capstanFgGap => exact execCapstanFgGap_tapeWf h
  | drumPgPulse at_ => exact execDrumPgPulse_tapeWf h at_
  | frameReferencePulse => exact execFrameReferencePulse_tapeWf h
  | frameReferenceTimeout => exact execFrameReferenceTimeout_tapeWf h
  | reelMark reel at_ => exact execReelMark_tapeWf h reel at_
  | reelStall reel => exact execReelStall_tapeWf h reel
  | ctlReadPulse rise high => exact execCtlReadPulse_tapeWf h rise high
  | runDownEnd => exact execRunDownEnd_tapeWf h
  | extrapolationStart => exact execExtrapolationStart_tapeWf h
  | extrapolatedFrame => exact execExtrapolatedFrame_tapeWf h
  | unsureSet => exact execUnsureSet_tapeWf h
  | profileWrite off data => exact hostWriteAt_tapeWf h _ _
  | tune | scan | scanStop | store | fine => exact hostWriteAt_tapeWf h _ _
  | synthWordEnd => exact command_tapeWf h fun u hu => by simp [hu]
  | settleEnd r => exact command_tapeWf h fun u hu => by simp [hu]
  | afcSample r => exact command_tapeWf h fun u hu => by simp [hu]
  | trackingSample r => exact command_tapeWf h fun u hu => by simp [hu]
  | noSignalWatch r => exact command_tapeWf h fun u hu => by simp [hu]
  | scanStepTest r => exact command_tapeWf h fun u hu => by simp [hu]
  | dwellTimeout => exact command_tapeWf h fun u hu => by simp [hu]
  | presetWrite off data => exact hostWriteAt_tapeWf h _ _
  | fieldStart at_ => exact command_tapeWf h fun _ hu => fieldStart_tapeWf hu at_
  | lineStart => exact command_tapeWf h fun _ hu => hu
  | linePacketComplete bytes => exact command_tapeWf h fun _ hu => hu
  | timeTake => exact command_tapeWf h fun _ hu => timeTake_tapeWf hu
  | labelTake => exact command_tapeWf h fun _ hu => labelTake_tapeWf hu
  | nameTake => exact command_tapeWf h fun u hu => by simp [hu]
  | secondAdvance => exact .next (secondAdvance_tapeWf h)
  | setTime | claim | commit | discard | delete | abort => exact hostWriteAt_tapeWf h _ _
  | programmeWrite off data => exact hostWriteAt_tapeWf h _ _
  | claimExpiry => exact execClaimExpiry_tapeWf h
  | occurrenceStart => exact command_tapeWf h fun _ hu => startRunOfSch_tapeWf hu
  | occurrenceStartDue => exact runTest_tapeWf h fun _ _ hu => runTests_tapeWf hu
  | occurrenceStopReached => exact runTest_tapeWf h fun _ _ hu => clockTests_tapeWf hu _
  | absenceTimeout => exact runTest_tapeWf h fun _ _ hu => absenceEnd_tapeWf hu _
  | labelLossTimeout => exact runTest_tapeWf h fun _ _ hu => lossEnd_tapeWf hu _
  | labelOverrunLimit => exact runTest_tapeWf h fun _ _ hu => labelTests_tapeWf hu _
  | liveRead addr => exact hostCycle_tapeWf h fun _ hu => hostRead_tapeWf hu _
  | partOwnedWrite off data => exact hostWriteAt_tapeWf h _ _
  | hostWrite addr data => exact hostCycle_tapeWf h fun _ hu => hostWrite_tapeWf hu _ _
  | settingsWrite off data => exact hostWriteAt_tapeWf h _ _
  | unknownCommand code => exact hostWriteAt_tapeWf h _ _
  | eventAck seq => exact hostWriteAt_tapeWf h _ _
  | postedWriteDrain => exact command_tapeWf h fun u hu => by simp [hu]
  | slotGrant => exact command_tapeWf h fun u hu => by simp [hu]
  | powerOff => exact hostWriteAt_tapeWf h _ _
  | powerOffComplete => exact command_tapeWf h fun u hu => by simp [hu]
  | keyPress samples => exact .next (keySamples_tapeWf samples h)
  | framingCodeFound bits => exact command_tapeWf h fun _ hu => hu

/-- R30: the outputs take the duties that stand, which lie in their range. -/
theorem pwmPeriod_tapeWf : (pwmPeriod s).tape.Wf := ite_tapeWf (h.setSrv fun hv => hv.loadPwm) h

theorem tick_tapeWf : (tick s).tape.Wf := by
  have hp := pwmPeriod_tapeWf (s := s.setNow (s.now + (crystalMicros (s.clk.sub + 1) - crystalMicros s.clk.sub))) h
  exact ite_tapeWf hp (secondAdvance_tapeWf hp)

end

end Sys2Proof.Machine

open Sys2Proof Sys2Proof.Machine

/-- Settles O6: each duty is 0, a start duty or a clamped sum, the counter saturates at its limits, and the mark window keeps its
newest 60 pulses; no operation of another block touches them. -/
theorem everyStepKeepsServoAndCounterBounds : Obligations.EveryStepKeepsServoAndCounterBounds := by
  intro s t hs ht
  rw [servoWf_iff] at hs ⊢
  unfold step at ht
  split at ht
  · cases ht
    exact tick_tapeWf hs
  · rename_i c rest _
    exact exec_tapeWf (s := s.setPending rest) hs c t ht

end

section
/-! LEMMA. The lock test over a run of measurements (R33). -/

namespace Sys2Proof.Machine

/-- R33: one more measurement against a target. -/
def LockTest.next (target : Nat) (t : LockTest) (e : Int) : LockTest :=
  lockTest t.locked t.inWindow t.outWindow e target

/-- R33: a measurement inside the inner window, while unlocked. -/
theorem lockTest_inside {target : Nat} {e : Int} (h : e.natAbs ≤ target / 256) (inW outW : Nat) :
    lockTest false inW outW e target
      = if inW + 1 = 8 then ⟨true, 0, outW, .gained⟩ else ⟨false, inW + 1, outW, .same⟩ := by
  simp [lockTest, h]

/-- R33: a measurement outside the inner window, of a lock. -/
theorem lockTest_outside {target : Nat} {e : Int} (h : target / 256 < e.natAbs) (inW outW : Nat) :
    lockTest true inW outW e target
      = if target / 64 < e.natAbs then
          if outW + 1 = 4 then ⟨false, inW, 0, .lost⟩ else ⟨true, inW, outW + 1, .same⟩
        else ⟨true, inW, outW, .same⟩ := by
  simp [lockTest, Nat.not_le.mpr h]

/-- R33: fewer than eight measurements inside are counted, and lock nothing. -/
theorem lockRun_inside {target : Nat} {es : List Int} (h : ∀ x ∈ es, x.natAbs ≤ target / 256) (k : Nat)
    (hk : k + es.length < 8) :
    es.foldl (LockTest.next target) ⟨false, k, 0, .same⟩ = ⟨false, k + es.length, 0, .same⟩ := by
  induction es generalizing k with
  | nil => rfl
  | cons e es ih =>
    rw [List.length_cons] at hk ⊢
    have hstep : LockTest.next target ⟨false, k, 0, .same⟩ e = ⟨false, k + 1, 0, .same⟩ := by
      rw [LockTest.next, lockTest_inside (h e List.mem_cons_self), if_neg (show ¬ k + 1 = 8 by omega)]
    rw [List.foldl_cons, hstep, ih (fun x hx => h x (List.mem_cons_of_mem _ hx)) _ (by omega), Nat.add_assoc,
      Nat.add_comm 1]

/-- R33: of measurements outside the inner window those beyond the outer limit are counted, and fewer than four of them
unlock nothing. -/
theorem lockRun_outside {target inW : Nat} {es : List Int} (h : ∀ x ∈ es, target / 256 < x.natAbs) (k : Nat)
    (hk : k + (es.filter fun x => target / 64 < x.natAbs).length < 4) :
    es.foldl (LockTest.next target) ⟨true, inW, k, .same⟩
      = ⟨true, inW, k + (es.filter fun x => target / 64 < x.natAbs).length, .same⟩ := by
  induction es generalizing k with
  | nil => rfl
  | cons e es ih =>
    have hes := fun x hx => h x (List.mem_cons_of_mem _ hx)
    rw [List.foldl_cons, LockTest.next, lockTest_outside (h e List.mem_cons_self)]
    by_cases hb : target / 64 < e.natAbs
    · rw [List.filter_cons_of_pos (by simpa using hb), List.length_cons] at hk ⊢
      rw [if_pos hb, if_neg (show ¬ k + 1 = 4 by omega), ih hes (k + 1) (by omega), Nat.add_assoc, Nat.add_comm 1]
    · rw [List.filter_cons_of_neg (by simpa using hb)] at hk ⊢
      rw [if_neg hb, ih hes _ hk]

end Sys2Proof.Machine

open Sys2Proof Sys2Proof.Machine

/-- Settles O29: the two runs count to 7 and to 3, and the next measurement completes the count. -/
theorem lockTakesEightAndIsLostAtFour : Obligations.LockTakesEightAndIsLostAtFour := by
  constructor
  · intro target es e hes he hlen t
    have ht : t = ⟨false, 7, 0, .same⟩ := by
      have hrun := lockRun_inside hes 0 (by omega)
      rwa [hlen] at hrun
    rw [ht]
    exact ⟨rfl, lockTest_inside he 7 0⟩
  · intro target inW es e hes he hlen t
    have ht : t = ⟨true, inW, 3, .same⟩ := by
      have hrun := lockRun_outside (inW := inW) hes 0 (by omega)
      rwa [hlen] at hrun
    have hout : target / 256 < e.natAbs := by omega
    rw [ht]
    exact ⟨rfl, by rw [lockTest_outside hout, if_pos he]; rfl⟩

end

section
/-! SUPPORT. Events of SRV and POS with nothing else at work: what TRC makes of a lock report, and a command that leaves the
queues, the power and the schedule alone. -/

namespace Sys2Proof.Machine

/-- The end of a command whose own work left `u`, and left the queues, the power and the schedule alone. -/
theorem command_leaves {ps : List Part} {f : State → State} {s u : State} (hf : f s = u) (hframe : SameBut ps s u)
    (hi : ScheduleIdle s) (hp : PowerSteady s) (hl : LinesStand s)
    (hps : Part.rqu ∉ ps ∧ Part.mpath ∉ ps ∧ Part.pwr ∉ ps ∧ Part.untold ∉ ps ∧ Part.sch ∉ ps := by decide) :
    command f s = .next u := by
  rw [command_of hf]
  exact command_frame_idle (f := fun _ => u) hp hl hi hframe hps

/-! ### What TRC and POS make of a lock report (R16, R17, R49) -/

theorem beginWriting_frame (s : State) : SameBut [.trc, .pos] s (beginWriting s) :=
  ((setPos_frame s _).mono (by simp)).with ((setTrc_frame _ _).mono (by simp))

theorem tryWriting_frame (s : State) : SameBut [.trc, .pos] s (tryWriting s) := by
  unfold tryWriting
  split
  exacts [beginWriting_frame s, .refl _ s]

@[simp] theorem tryWriting_srv (s : State) : (tryWriting s).srv = s.srv := tryWriting_frame s .srv (by decide)

theorem startRecordCapstan_frame (s : State) : SameBut [.trc, .srv, .pos] s (startRecordCapstan s) := by
  unfold startRecordCapstan
  split
  · exact ((applyRow_frame true s).mono (by simp)).with ((setTrc_frame _ _).mono (by simp))
  · exact .refl _ s

/-- R16: the capstan of RECORD starts with the drum's PHASE_LOCK alone. -/
theorem startRecordCapstan_of_ne {s : State} (h : s.srv.drumLock ≠ .phase) : startRecordCapstan s = s := by
  simp [startRecordCapstan, h]

theorem drumReported_frame (r : LockReport) (s : State) : SameBut [.trc, .srv, .pos] s (drumReported r s) := by
  unfold drumReported
  split
  · exact .refl _ s
  · have h : SameBut [.trc, .srv, .pos] s (if drumMissing s then s else s.setTrc { s.trc with drumAllow := none }) := by
      split
      exacts [.refl _ s, (setTrc_frame s _).mono (by simp)]
    exact (h.with (startRecordCapstan_frame _)).with ((tryWriting_frame _).mono (by simp))
  · split
    exacts [(setTrc_frame s _).mono (by simp), .refl _ s]

/-- A lock that the drum has gained, short of PHASE_LOCK, changes nothing in SRV. -/
theorem drumReported_srv {r : LockReport} {s : State} (h : r = .gained → s.srv.drumLock ≠ .phase) :
    (drumReported r s).srv = s.srv := by
  cases r with
  | same => rfl
  | gained =>
    have hs : ∀ u : State, u.srv = s.srv → (startRecordCapstan u).srv = s.srv := fun u hu => by
      rw [startRecordCapstan_of_ne (by rw [hu]; exact h rfl), hu]
    show (tryWriting (startRecordCapstan _)).srv = _
    rw [tryWriting_srv]
    exact hs _ (by split <;> rfl)
  | lost => unfold drumReported; dsimp only; split <;> rfl

theorem capReported_frame (r : LockReport) (s : State) : SameBut [.trc, .srv, .pos] s (capReported r s) := by
  have hpos : ∀ p : Pos, SameBut [.trc, .srv, .pos] s (if s.srv.row == .play then s.setPos p else s) := fun p => by
    split
    exacts [(setPos_frame s _).mono (by simp), .refl _ s]
  unfold capReported
  split
  · exact .refl _ s
  · exact ((hpos _).with ((setTrc_frame _ _).mono (by simp))).with ((tryWriting_frame _).mono (by simp))
  · refine SameBut.with ?_ ((setTrc_frame _ _).mono (by simp))
    split
    · exact ((setPos_frame s _).mono (by simp)).with ((setSrv_frame _ _).mono (by simp))
    · exact .refl _ s

/-- R39: of SRV a lock report of the capstan touches the speed detector alone. -/
theorem capReported_srv (r : LockReport) (s : State) :
    ∃ candidate count, (capReported r s).srv = { s.srv with candidate := candidate, detCount := count } := by
  unfold capReported
  split
  · exact ⟨_, _, rfl⟩
  · dsimp only
    rw [tryWriting_srv]
    split <;> exact ⟨_, _, rfl⟩
  · dsimp only
    split <;> exact ⟨_, _, rfl⟩

end Sys2Proof.Machine
end

section
/-! LEMMA. FG pulses and gaps (R31, R32): a measurement corrects its duty, and the first pulse after a start measures nothing. -/

namespace Sys2Proof.Machine

section
variable {s : State} {at_ last : Nat}

/-- R31, R44: the drum runs in every row but that of everything off, while the main rail is good. -/
theorem drumTurns_of (hr : s.srv.row ≠ .allOff) (hm : s.pins.mainGood = true) : drumTurns s = true := by
  unfold drumTurns Row.drumRuns
  split
  · contradiction
  · exact hm

theorem capstanTurns_play (hr : s.srv.row = .play) (hm : s.pins.mainGood = true) : capstanTurns s = true := by
  simp [capstanTurns, hr, hm, Row.capstan]

theorem reachTime_now (h : s.now ≤ at_) : (reachTime at_ s).now = at_ := Nat.max_eq_right h

/-- R31: a drum measurement as it corrects the duty. -/
theorem drumMeasure_duty (fr30 : Bool) (meas : Nat) (v : Srv) : ((v.drumMeasure fr30 meas).1.drumDuty : Int) =
    clampInt 0 1023 (v.drumDuty + ((meas : Int) - Config.framePeriod fr30) * 64 / 4096) := addDuty_eq ..

/-- R33: what a drum measurement gains is SPEED_LOCK. -/
theorem drumMeasure_gained {fr30 : Bool} {meas : Nat} {v : Srv} (h : (v.drumMeasure fr30 meas).2 = .gained) :
    (v.drumMeasure fr30 meas).1.drumLock ≠ .phase := by
  unfold Srv.drumMeasure at h ⊢
  simp_all

theorem drumMeasure_rest (fr30 : Bool) (meas : Nat) (v : Srv) : (v.drumMeasure fr30 meas).1.drumFg = v.drumFg
    ∧ (v.drumMeasure fr30 meas).1.drumGap = v.drumGap := ⟨rfl, rfl⟩

/-- R31: a drum measurement with nothing else at work. -/
theorem drumMeasured {f : State → State} {v : Srv} {meas : Nat} {u : State} (hi : ScheduleIdle s) (hp : PowerSteady s)
    (hl : LinesStand s) (hu : SameBut [.now] s u)
    (hf : f s = drumReported (v.drumMeasure s.straps.fr30 meas).2 (u.setSrv (v.drumMeasure s.straps.fr30 meas).1)) :
    ∃ t, command f s = .next t ∧ t.now = u.now ∧ t.srv = (v.drumMeasure s.straps.fr30 meas).1
      ∧ SameBut [.now, .trc, .srv, .pos] s t := by
  have hframe : SameBut [.now, .trc, .srv, .pos] s (f s) := by
    rw [hf]
    exact ((hu.mono (by simp)).with ((setSrv_frame _ _).mono (by simp))).with ((drumReported_frame _ _).mono (by simp))
  refine ⟨f s, command_leaves rfl hframe hi hp hl, ?_, ?_, hframe⟩
  · rw [hf]
    exact drumReported_frame _ _ .now (by decide)
  · rw [hf]
    exact drumReported_srv drumMeasure_gained

theorem drumPulse_measures (hi : ScheduleIdle s) (hp : PowerSteady s) (hl : LinesStand s) (hm : s.pins.mainGood = true)
    (hr : s.srv.row ≠ .allOff) (hlast : s.srv.drumFg = some last) (hat : s.now ≤ at_) :
    ∃ t, exec (.drumFgPulse at_) s = .next t ∧ t.now = at_ ∧ t.srv.drumFg = some at_
      ∧ (t.srv.drumDuty : Int) = clampInt 0 1023
          (s.srv.drumDuty + (6 * (min 65535 (at_ - last) : Nat) - (Config.framePeriod s.straps.fr30 : Int)) * 64 / 4096)
      ∧ SameBut [.now, .trc, .srv, .pos] s t := by
  have hturn : drumTurns (reachTime at_ s) = true := drumTurns_of hr hm
  have hpulse : (reachTime at_ s).srv.drumFgPulse s.straps.fr30 (reachTime at_ s).now =
      Srv.drumMeasure s.straps.fr30 (6 * min Config.fgLimit (at_ - last))
        { s.srv with drumFg := some at_, drumGap := at_ } := by
    rw [reachTime_now hat]
    simp only [Srv.drumFgPulse, show (reachTime at_ s).srv = s.srv from rfl, hlast]
  obtain ⟨t, hx, hnow, hv, hsame⟩ := drumMeasured (f := fun _ => _) hi hp hl (reachTime_frame at_ s)
    (v := { s.srv with drumFg := some at_, drumGap := at_ }) (meas := 6 * min Config.fgLimit (at_ - last)) rfl
  refine ⟨t, ?_, hnow.trans (reachTime_now hat), ?_, ?_, hsame⟩
  · rw [← hx, ← hpulse]
    exact command_of (if_pos hturn)
  · rw [hv, (drumMeasure_rest _ _ _).1]
  · rw [hv, drumMeasure_duty]
    push_cast [Config.fgLimit]
    rfl

theorem drumGap_measures (hi : ScheduleIdle s) (hp : PowerSteady s) (hl : LinesStand s) (hm : s.pins.mainGood = true)
    (hr : s.srv.row ≠ .allOff) :
    ∃ t, exec .drumFgGap s = .next t ∧ t.now = max s.now (s.srv.drumGap + 65535)
      ∧ t.srv.drumGap = s.srv.drumGap + 65535 ∧ t.srv.drumFg = s.srv.drumFg
      ∧ (t.srv.drumDuty : Int) = clampInt 0 1023
          (s.srv.drumDuty + (393210 - (Config.framePeriod s.straps.fr30 : Int)) * 64 / 4096)
      ∧ SameBut [.now, .trc, .srv, .pos] s t := by
  obtain ⟨t, hx, hnow, hv, hsame⟩ := drumMeasured (f := fun _ => _) hi hp hl
    (reachLimit_frame s.srv.drumGap Config.fgLimit s)
    (v := { s.srv with drumGap := s.srv.drumGap + Config.fgLimit }) (meas := 6 * Config.fgLimit) rfl
  refine ⟨t, ?_, hnow, ?_, ?_, ?_, hsame⟩
  · rw [← hx]
    exact command_of (if_pos (drumTurns_of hr hm))
  · rw [hv]; rfl
  · rw [hv]; rfl
  · rw [hv, drumMeasure_duty]
    rfl

/-- R31: the first pulse after a start is kept alone. -/
theorem drumPulse_first (hi : ScheduleIdle s) (hp : PowerSteady s) (hl : LinesStand s) (hm : s.pins.mainGood = true)
    (hr : s.srv.row ≠ .allOff) (hlast : s.srv.drumFg = none) (hat : s.now ≤ at_) :
    ∃ t, exec (.drumFgPulse at_) s = .next t ∧ t.now = at_
      ∧ t.srv = { s.srv with drumFg := some at_, drumGap := at_ } ∧ SameBut [.now, .srv] s t := by
  have hturn : drumTurns (reachTime at_ s) = true := drumTurns_of hr hm
  have hpulse : (reachTime at_ s).srv.drumFgPulse s.straps.fr30 (reachTime at_ s).now =
      ({ s.srv with drumFg := some at_, drumGap := at_ }, .same) := by
    rw [reachTime_now hat]
    simp only [Srv.drumFgPulse, show (reachTime at_ s).srv = s.srv from rfl, hlast]
  have hframe : SameBut [.now, .srv] s ((reachTime at_ s).setSrv { s.srv with drumFg := some at_, drumGap := at_ }) :=
    ((reachTime_frame at_ s).mono (by simp)).with ((setSrv_frame _ _).mono (by simp))
  refine ⟨_, command_leaves ?_ hframe hi hp hl, reachTime_now hat, rfl, hframe⟩
  dsimp only
  rw [if_pos hturn]
  show drumReported (Srv.drumFgPulse s.straps.fr30 (reachTime at_ s).now (reachTime at_ s).srv).2
    ((reachTime at_ s).setSrv (Srv.drumFgPulse s.straps.fr30 (reachTime at_ s).now (reachTime at_ s).srv).1) = _
  rw [hpulse]
  rfl

/-- R37: with no frame run asked for, a pulse counts toward none. -/
theorem countRun_none {v : Srv} (h : v.run = none) : v.countRun = (v, false) := by simp [Srv.countRun, h]

/-- R32, R37: what a capstan FG pulse does. -/
def capstanPulse (at_ : Nat) (s : State) : State :=
  let u := reachTime at_ s
  if capstanTurns u then
    let m := u.srv.capFgPulse u.straps.fr30 u.now
    let w := capReported m.2 (u.setSrv m.1.countRun.1)
    if m.1.countRun.2 then runDone w else w
  else u

theorem capstanPulse_exec (at_ : Nat) (s : State) : exec (.capstanFgPulse at_) s = command (capstanPulse at_) s := rfl

/-- R32: in PLAY the capstan's target is P × m. -/
theorem capMeasure_play {v : Srv} (hr : v.row = .play) (fr30 : Bool) (meas : Nat) :
    ((v.capMeasure fr30 meas).1.capDuty : Int) = clampInt 0 1023
        (v.capDuty + ((meas : Int) - (Config.capstanPeriod fr30 * v.speed.m : Int)) * 32 / 4096)
      ∧ (v.capMeasure fr30 meas).1 = { v with
          capDuty := (v.capMeasure fr30 meas).1.capDuty, capLock := (v.capMeasure fr30 meas).1.capLock
          capIn := (v.capMeasure fr30 meas).1.capIn, capOut := (v.capMeasure fr30 meas).1.capOut } := by
  have he : (v.capMeasure fr30 meas).1 = { v with
      capDuty := addDuty v.capDuty ((meas : Int) - (Config.capstanPeriod fr30 * v.speed.m : Nat)) 32
      capLock := (v.capMeasure fr30 meas).1.capLock
      capIn := (v.capMeasure fr30 meas).1.capIn, capOut := (v.capMeasure fr30 meas).1.capOut } := by
    simp only [Srv.capMeasure, hr, Row.capstan]
    rfl
  rw [he, addDuty_eq]
  push_cast
  exact ⟨rfl, rfl⟩

/-- R32: a capstan measurement in PLAY with nothing else at work. -/
theorem capMeasured {f : State → State} {v : Srv} {meas : Nat} {u : State} (hi : ScheduleIdle s) (hp : PowerSteady s)
    (hl : LinesStand s) (hu : SameBut [.now] s u) (hr : v.row = .play)
    (hf : f s = capReported (v.capMeasure s.straps.fr30 meas).2 (u.setSrv (v.capMeasure s.straps.fr30 meas).1)) :
    ∃ t, command f s = .next t ∧ t.now = u.now ∧ t.srv.capFg = v.capFg ∧ t.srv.capGap = v.capGap
      ∧ (t.srv.capDuty : Int) = clampInt 0 1023
        (v.capDuty + ((meas : Int) - (Config.capstanPeriod s.straps.fr30 * v.speed.m : Int)) * 32 / 4096)
      ∧ t.srv.drumDuty = v.drumDuty ∧ SameBut [.now, .trc, .srv, .pos] s t := by
  have hframe : SameBut [.now, .trc, .srv, .pos] s (f s) := by
    rw [hf]
    exact ((hu.mono (by simp)).with ((setSrv_frame _ _).mono (by simp))).with ((capReported_frame _ _).mono (by simp))
  obtain ⟨hduty, hrest⟩ := capMeasure_play hr s.straps.fr30 meas
  obtain ⟨candidate, count, hv⟩ := capReported_srv (v.capMeasure s.straps.fr30 meas).2
    (u.setSrv (v.capMeasure s.straps.fr30 meas).1)
  rw [State.setSrv_srv] at hv
  refine ⟨f s, command_leaves rfl hframe hi hp hl, ?_, ?_, ?_, ?_, ?_, hframe⟩
  · rw [hf]
    exact capReported_frame _ _ .now (by decide)
  · rw [hf, hv, hrest]
  · rw [hf, hv, hrest]
  · rw [hf, hv, ← hduty]
  · rw [hf, hv, hrest]

theorem capPulse_measures (hi : ScheduleIdle s) (hp : PowerSteady s) (hl : LinesStand s) (hm : s.pins.mainGood = true)
    (hr : s.srv.row = .play) (hrun : s.srv.run = none) (hlast : s.srv.capFg = some last) (hat : s.now ≤ at_) :
    ∃ t, exec (.capstanFgPulse at_) s = .next t ∧ t.now = at_ ∧ t.srv.capFg = some at_
      ∧ (t.srv.capDuty : Int) = clampInt 0 1023
          (s.srv.capDuty + ((min 65535 (at_ - last) : Nat) - (Config.capstanPeriod s.straps.fr30 * s.srv.speed.m : Int)) * 32 / 4096)
      ∧ t.srv.drumDuty = s.srv.drumDuty ∧ SameBut [.now, .trc, .srv, .pos] s t := by
  have hturn : capstanTurns (reachTime at_ s) = true := capstanTurns_play hr hm
  have hpulse : (reachTime at_ s).srv.capFgPulse s.straps.fr30 (reachTime at_ s).now =
      Srv.capMeasure s.straps.fr30 (min Config.fgLimit (at_ - last)) { s.srv with capFg := some at_, capGap := at_ } := by
    rw [reachTime_now hat]
    simp only [Srv.capFgPulse, show (reachTime at_ s).srv = s.srv from rfl, hlast]
  have hcount := countRun_none (v := (Srv.capMeasure s.straps.fr30 (min Config.fgLimit (at_ - last))
    { s.srv with capFg := some at_, capGap := at_ }).1)
    (by rw [(capMeasure_play (v := { s.srv with capFg := some at_, capGap := at_ }) hr _ _).2]; exact hrun)
  obtain ⟨t, hx, hnow, hfg, -, hduty, hdrum, hsame⟩ := capMeasured (f := fun _ => _) hi hp hl (reachTime_frame at_ s)
    (v := { s.srv with capFg := some at_, capGap := at_ }) (meas := min Config.fgLimit (at_ - last)) hr rfl
  refine ⟨t, ?_, hnow.trans (reachTime_now hat), hfg, hduty, hdrum, hsame⟩
  rw [← hx]
  refine (command_of (f := capstanPulse at_) ?_)
  simp only [capstanPulse, if_pos hturn, show (reachTime at_ s).straps = s.straps from rfl, hpulse, hcount]
  rfl

theorem capGap_measures (hi : ScheduleIdle s) (hp : PowerSteady s) (hl : LinesStand s) (hm : s.pins.mainGood = true)
    (hr : s.srv.row = .play) :
    ∃ t, exec .capstanFgGap s = .next t ∧ t.now = max s.now (s.srv.capGap + 65535)
      ∧ t.srv.capGap = s.srv.capGap + 65535
      ∧ (t.srv.capDuty : Int) = clampInt 0 1023
          (s.srv.capDuty + (65535 - (Config.capstanPeriod s.straps.fr30 * s.srv.speed.m : Int)) * 32 / 4096)
      ∧ t.srv.drumDuty = s.srv.drumDuty ∧ SameBut [.now, .trc, .srv, .pos] s t := by
  obtain ⟨t, hx, hnow, -, hgap, hduty, hdrum, hsame⟩ := capMeasured (f := fun _ => _) hi hp hl
    (reachLimit_frame s.srv.capGap Config.fgLimit s)
    (v := { s.srv with capGap := s.srv.capGap + Config.fgLimit }) (meas := Config.fgLimit) hr rfl
  refine ⟨t, ?_, hnow, hgap, hduty, hdrum, hsame⟩
  rw [← hx]
  exact command_of (if_pos (capstanTurns_play hr hm))

end

end Sys2Proof.Machine

open Sys2Proof Sys2Proof.Machine

/-- Settles O28: a pulse or a gap is one measurement, and what TRC makes of its lock report touches neither duty. -/
theorem fgMeasurementsUpdateDuty : Obligations.FgMeasurementsUpdateDuty := by
  intro s hi hp hl hm
  exact ⟨fun _ _ hr hlast _ hat => drumPulse_measures hi hp hl hm hr hlast hat, fun hr => drumGap_measures hi hp hl hm hr,
    fun _ _ hr hrun hlast _ hat => capPulse_measures hi hp hl hm hr hrun hlast hat, fun hr => capGap_measures hi hp hl hm hr,
    fun _ hr hlast hat => drumPulse_first hi hp hl hm hr hlast hat⟩

end

section
/-! LEMMA. The drum's phase term (R35), and the capstan's tracking term (R36). -/

namespace Sys2Proof.Machine

/-! ### The nearest pulse -/

/-- R35, R36: a time that lies less than half a period from a pulse of the train has that distance. -/
theorem nearest_eq {t base target : Nat} {d : Int} (hd : d.natAbs * 2 < target)
    (ht : ∃ n : Int, (t : Int) = base + n * target + d) (tie : Bool) : nearest t base target tie = d := by
  obtain ⟨n, hn⟩ := ht
  have hmod : ((t : Int) - base) % target = d % target := by
    rw [hn, show (base : Int) + n * target + d - base = d + n * target by ring, Int.add_mul_emod_self_right]
  unfold nearest
  rw [hmod]
  rcases Int.lt_or_le d 0 with h0 | h0
  · rw [← Int.add_emod_right, Int.emod_eq_of_lt (by omega) (by omega)]
    dsimp only
    rw [if_neg (by omega), if_neg (by omega)]
    omega
  · rw [Int.emod_eq_of_lt h0 (by omega)]
    dsimp only
    rw [if_neg (by omega), if_pos (by omega)]
    omega

/-- R36: a pulse nearer than every other one seen is the nearest one seen. -/
theorem nearestSeen_eq {t p x : Nat} {older : List Nat} (tie : Bool) (hx : x ∈ p :: older)
    (h : ∀ y ∈ p :: older, y ≠ x → ((t : Int) - x).natAbs < ((t : Int) - y).natAbs) :
    nearestSeen t tie p older = x := by
  obtain ⟨hm, hle⟩ := nearestSeen_spec t tie p older
  by_contra hne
  exact absurd (h _ hm hne) (by have := hle x hx; omega)

/-- R36: the pulse nearest to a time after `since` is among those that are kept. -/
theorem mem_pulsesFrom {since t x : Nat} (ht : since < t) {l : List Nat} (hl : l.Pairwise fun a b => b < a) (hx : x ∈ l)
    (h : ∀ y ∈ l, y ≠ x → ((t : Int) - x).natAbs < ((t : Int) - y).natAbs) : x ∈ pulsesFrom since l := by
  induction l with
  | nil => exact hx
  | cons p older ih =>
    obtain ⟨hp, holder⟩ := List.pairwise_cons.mp hl
    unfold pulsesFrom
    rcases List.mem_cons.mp hx with rfl | hx'
    · split <;> exact List.mem_cons_self
    · have hlt := hp x hx'
      have hnear := h p List.mem_cons_self (by omega)
      rw [if_neg (by omega)]
      exact List.mem_cons_of_mem _ (ih holder hx' fun y hy => h y (List.mem_cons_of_mem _ hy))

/-! ### The drum's phase (R35) -/

section
variable {s : State} {v : Srv} {at_ : Nat}

/-- R35: while UNLOCKED only the time of a PG pulse is kept. -/
theorem pgPulse_unlocked (h : v.drumLock = .unlocked) (fr30 : Bool) (at_ : Nat) (tie : Bool) (lastCtl : Option Nat) :
    v.pgPulse fr30 at_ tie lastCtl = ({ v with pg := some at_, pgBefore := v.keptPulses lastCtl }, .same) := by
  simp only [Srv.pgPulse, h]

/-- R35: in PHASE_LOCK a phase error inside the window is added to the duty, and holds the lock. -/
theorem pgPulse_phase {fr30 tie : Bool} {p : Int} (h : v.drumLock = .phase)
    (hn : nearest at_ v.reference (Config.framePeriod fr30) tie = p) (hp : p.natAbs ≤ Config.framePeriod fr30 / 32)
    (lastCtl : Option Nat) :
    v.pgPulse fr30 at_ tie lastCtl = ({ v with
      pg := some at_, pgBefore := v.keptPulses lastCtl, drumDuty := addDuty v.drumDuty p 16, phaseOut := 0 }, .same) := by
  have hs : (DrumLock.phase == DrumLock.speed) = false := rfl
  simp only [Srv.pgPulse, h, hn, hp, hs, decide_true, if_true, Bool.false_eq_true, if_false]

/-- R35: a PG pulse of a drum that turns, when SRV reports no change of the lock. -/
theorem pgPulse_exec (hi : ScheduleIdle s) (hp : PowerSteady s) (hl : LinesStand s) (hturn : drumTurns s = true)
    (hat : s.now ≤ at_)
    (hv : s.srv.pgPulse s.straps.fr30 at_ (Config.phaseTie s.free) s.pos.lastPulse = (v, .same)) :
    ∃ t, exec (.drumPgPulse at_) s = .next t ∧ t.now = at_ ∧ t.free = s.free + 1 ∧ t.srv = v
      ∧ SameBut [.now, .free, .srv] s t := by
  have hframe : SameBut [.now, .free, .srv] s (useFree ((reachTime at_ s).setSrv v)) := by
    intro p hp'
    cases p <;> simp_all [Part.same, useFree, reachTime]
  have hturn' : drumTurns (reachTime at_ s) = true := hturn
  refine ⟨_, command_leaves ?_ hframe hi hp hl, reachTime_now hat, rfl, rfl, hframe⟩
  rw [← reachTime_now hat] at hv
  dsimp only
  rw [if_pos hturn']
  show drumReported (Srv.pgPulse s.straps.fr30 (reachTime at_ s).now (Config.phaseTie s.free) s.pos.lastPulse s.srv).2
    (useFree ((reachTime at_ s).setSrv
      (Srv.pgPulse s.straps.fr30 (reachTime at_ s).now (Config.phaseTie s.free) s.pos.lastPulse s.srv).1)) = _
  rw [hv]
  rfl

/-! ### Tracking (R36) -/

/-- R36: the tracking term, once the nearest pulse is known. -/
theorem track_eq {rise p x : Nat} {fr30 : Bool} {d : Int} (tie : Bool) (open_ : Nat) (hrow : v.row.tracking = true)
    (hlock : v.capLock = true) (hpg : v.pg = some p) (hx : x ∈ p :: v.pgBefore)
    (hnear : ∀ y ∈ p :: v.pgBefore, y ≠ x → ((rise : Int) - x).natAbs < ((rise : Int) - y).natAbs)
    (hn : ∃ n : Int, (rise : Int) = x + n * Config.framePeriod fr30 + d)
    (hd : d.natAbs * 2 < Config.framePeriod fr30) :
    v.track fr30 rise tie open_ = { v with capDuty := addDuty v.capDuty d 8 } := by
  simp only [Srv.track, hrow, hlock, Bool.and_self, if_true, hpg, nearestSeen_eq tie hx hnear, nearest_eq hd hn]

/-- R51: a count that stays within the limits. -/
theorem count_inside {limit d : Int} {p : Pos} (hlow : -limit ≤ p.counter + d) (hhigh : p.counter + d ≤ limit) :
    p.count limit d = { p with counter := p.counter + d } := by
  unfold Pos.count
  dsimp only
  rw [if_neg (by omega), if_neg (by omega)]

theorem counterLimit_large (fr30 : Bool) : 100000 ≤ Config.counterLimit fr30 := by cases fr30 <;> decide

/-- R47, R55: the first pulse of a motion, read forward: one frame more, no interval and no mark. -/
theorem readPulse_first {limit : Int} {p : Pos} (hw : p.window = []) (hl : p.lastPulse = none)
    (hlow : -limit ≤ p.counter + 1) (hhigh : p.counter + 1 ≤ limit) (rise high : Nat) (row : Row) (capLock : Bool) :
    ∃ q, p.readPulse limit .forward rise high row capLock = (q, none, none) ∧ q.counter = p.counter + 1 := by
  have hb : ∀ q : Pos, (q.pulseBlank rise row capLock).counter = q.counter := fun q => by
    unfold Pos.pulseBlank; split_ifs <;> rfl
  simp only [Pos.readPulse, hw, hl, Option.map_none, count_inside hlow hhigh]
  exact ⟨_, rfl, hb _⟩

/-- R24: a changed counter means nothing to TRC without a search. -/
theorem counterChanged_none {s : State} (h : s.trc.search = none) : counterChanged s = s := by
  unfold counterChanged
  split
  · simp_all
  · rfl

/-- R47: a read pulse that gives no interval and no mark, while no search runs. -/
theorem takePulse_alone {dir : Dir} {rise high : Nat} {q : Pos} (hs : s.trc.search = none)
    (hq : s.pos.readPulse (Config.counterLimit s.straps.fr30) dir rise high s.srv.row s.srv.capLock = (q, none, none)) :
    takePulse dir rise high s = useFree ((s.setPos q).setSrv (s.srv.track s.straps.fr30 rise (Config.phaseTie s.free)
      (Config.trackingBeforePg s.free))) := by
  have hc : ∀ (c : Int) (u : State), u.trc.search = none → (if u.pos.counter = c then u else counterChanged u) = u :=
    fun c u hu => by rw [counterChanged_none hu, ite_self]
  simp only [takePulse, hq, watchInterval]
  exact hc _ _ hs

/-- R36: a CTL pulse, read forward as the first of its motion, whose nearest PG pulse is known. -/
theorem tracked {rise high p x : Nat} {d : Int} (hi : ScheduleIdle s) (hp : PowerSteady s) (hl : LinesStand s)
    (hw : s.trc.writing = false) (hs : s.trc.search = none) (hat : s.now ≤ rise + high)
    (hc : s.pos.counter.natAbs < 100000) (hwin : s.pos.window = []) (hlast : s.pos.lastPulse = none)
    (hrow : s.srv.row = .play ∨ s.srv.row = .catchUp) (hlock : s.srv.capLock = true) (hpg : s.srv.pg = some p)
    (hx : x ∈ p :: s.srv.pgBefore)
    (hnear : ∀ y ∈ p :: s.srv.pgBefore, y ≠ x → ((rise : Int) - x).natAbs < ((rise : Int) - y).natAbs)
    (hn : ∃ n : Int, (rise : Int) = x + n * Config.framePeriod s.straps.fr30 + d)
    (hd : d.natAbs * 2 < Config.framePeriod s.straps.fr30) :
    ∃ t, exec (.ctlReadPulse rise high) s = .next t ∧ t.now = rise + high ∧ t.free = s.free + 1
      ∧ (t.srv.capDuty : Int) = clampInt 0 1023 (s.srv.capDuty + d * 8 / 4096)
      ∧ t.srv = { s.srv with capDuty := t.srv.capDuty } ∧ t.pos.counter = s.pos.counter + 1
      ∧ SameBut [.now, .free, .srv, .pos] s t := by
  have hlimit := counterLimit_large s.straps.fr30
  obtain ⟨q, hq, hcount⟩ := readPulse_first (limit := Config.counterLimit s.straps.fr30) hwin hlast (by omega) (by omega)
    rise high s.srv.row s.srv.capLock
  have hmoves : s.srv.row.tracking = true ∧ s.srv.moves = true ∧ s.srv.row.motionDir = .forward := by
    rcases hrow with e | e <;> simp [e, Row.tracking, Srv.moves, Row.moves, Row.motionDir, Row.dir]
  obtain ⟨htrack, hmove, hdir⟩ := hmoves
  have hv := track_eq (Config.phaseTie s.free) (Config.trackingBeforePg s.free) htrack hlock hpg hx hnear hn hd
  have hpd : pulseDir (reachTime (rise + high) s) = some .forward := by simp [pulseDir, reachTime, hw, hmove, hdir]
  have hu : takePulse .forward rise high (reachTime (rise + high) s)
      = useFree (((reachTime (rise + high) s).setPos q).setSrv { s.srv with capDuty := addDuty s.srv.capDuty d 8 }) := by
    rw [← hv]
    exact takePulse_alone (s := reachTime (rise + high) s) hs hq
  have hframe : SameBut [.now, .free, .srv, .pos] s (useFree (((reachTime (rise + high) s).setPos q).setSrv
      { s.srv with capDuty := addDuty s.srv.capDuty d 8 })) := by
    intro p hp'
    cases p <;> simp_all [Part.same, useFree, reachTime]
  refine ⟨_, command_leaves ?_ hframe hi hp hl, reachTime_now hat, rfl, addDuty_eq .., rfl, hcount, hframe⟩
  dsimp only
  rw [hpd, reachTime_now hat, Nat.add_sub_cancel]
  exact hu

end

end Sys2Proof.Machine

open Sys2Proof Sys2Proof.Machine

/-- Settles O30: the distance to the nearest pulse, once it is known, is the whole correction. -/
theorem drumPhaseTermAddsToDuty : Obligations.DrumPhaseTermAddsToDuty := by
  refine ⟨?_, ?_, ?_⟩
  · intro s at_ hi hp hl hm hr hat
    have hturn := drumTurns_of hr hm
    constructor
    · intro p hlock hhalf hin hn
      obtain ⟨t, hx, hnow, hfree, hv, hsame⟩ := pgPulse_exec hi hp hl hturn hat
        (pgPulse_phase hlock (nearest_eq hhalf hn _) hin _)
      refine ⟨t, hx, hnow, hfree, ?_, ?_, ?_, ?_, ?_, ?_, hsame⟩ <;> rw [hv]
      · exact addDuty_eq ..
      · exact hlock
    · intro hlock
      obtain ⟨t, hx, hnow, hfree, hv, hsame⟩ := pgPulse_exec hi hp hl hturn hat (pgPulse_unlocked hlock _ _ _ _)
      exact ⟨t, hx, hnow, hfree, hv, hsame⟩
  · intro since p older hsorted t ht x hx hnear
    exact mem_pulsesFrom ht hsorted hx hnear
  · intro s rise high p x d hi hp hl hw hs hat hc hwin hlast hrow hlock hpg hx hnear hn hd
    exact tracked hi hp hl hw hs hat hc hwin hlast hrow hlock hpg hx hnear hn hd

end

section
/-! LEMMA. The frame reference (R34) and the frames that TRC writes on it (R48, R54). -/

namespace Sys2Proof.Machine

/-! ### A frame that is written (R48, R54) -/

/-- R48: without an index mark, a frame is one CTL pulse of a quarter of its period. -/
theorem writeFrame_plain {limit : Int} {p : Pos} (h : p.markWrite = none) (hlow : -limit ≤ p.counter)
    (hhigh : p.counter < limit) (fr30 : Bool) :
    p.writeFrame limit fr30
      = ({ p with counter := p.counter + 1, capSource := false }, Config.framePeriod fr30 / 4, none) := by
  simp only [Pos.writeFrame, h, count_inside (by omega : -limit ≤ p.counter + 1) (by omega)]

/-- R54: a frame of an index mark has a pulse of three quarters, and the 60th ends the mark. -/
theorem writeFrame_mark {limit : Int} {p : Pos} {first : Int} {n : Nat} (h : p.markWrite = some ⟨first, n⟩) (hn : n < 60)
    (hlow : -limit ≤ p.counter) (hhigh : p.counter < limit) (fr30 : Bool) :
    p.writeFrame limit fr30 =
      ({ p with
          counter := p.counter + 1, capSource := false
          markWrite := if n = 59 then none else some ⟨first, n + 1⟩ },
        3 * Config.framePeriod fr30 / 4, if n = 59 then some ⟨first, n + 1⟩ else none) := by
  simp only [Pos.writeFrame, h, count_inside (by omega : -limit ≤ p.counter + 1) (by omega)]
  rcases Nat.lt_or_ge n 59 with h59 | h59
  · rw [if_neg (by omega), if_neg (by omega), if_neg (by omega)]
  · rw [if_pos (by omega), if_pos (by omega), if_pos (by omega)]

/-- R133: a completed mark is of interest to a running occurrence alone. -/
theorem markDone_idle {s : State} (h : s.sch.run = none) (m : MarkWrite) : markDone m s = s := by
  unfold markDone
  split <;> simp_all

/-- R48: a frame that is written while no occurrence runs. -/
theorem frameWritten_idle {s : State} (h : s.sch.run = none) {p : Pos} {high : Nat} {mark : Option MarkWrite}
    (hw : s.pos.writeFrame (Config.counterLimit s.straps.fr30) s.straps.fr30 = (p, high, mark)) :
    frameWritten s = (s.setPos p).setCtlOut (some high) := by
  unfold frameWritten
  rw [hw]
  cases mark with
  | none => rfl
  | some m => exact markDone_idle (s := (s.setPos p).setCtlOut (some high)) h m

/-! ### The reference's pulses and its timeout (R34) -/

/-- R34: the internal reference has run on by one target period. -/
def referenceRan (s : State) : State :=
  (reachLimit s.srv.refLast (Config.framePeriod s.straps.fr30) s).setSrv
    { s.srv with refLast := s.srv.refLast + Config.framePeriod s.straps.fr30 }

theorem referenceRan_frame (s : State) : SameBut [.now, .srv] s (referenceRan s) :=
  ((reachLimit_frame _ _ s).mono (by simp)).with ((setSrv_frame _ _).mono (by simp))

theorem frameReferencePulse_exec (s : State) : exec .frameReferencePulse s = command (fun s =>
    if s.srv.row.frameRef && s.srv.source == .internal then writeFrame (referenceRan s) else referenceRan s) s := rfl

section
variable {s : State} (hi : ScheduleIdle s) (hp : PowerSteady s) (hl : LinesStand s)
include hi hp hl

/-- R34: while TRC writes nothing, a reference pulse only moves the reference. -/
theorem referencePulse_alone (hw : s.trc.writing = false) :
    exec .frameReferencePulse s = .next (referenceRan s) := by
  have hframe : writeFrame (referenceRan s) = referenceRan s := if_neg (by simp [referenceRan, reachLimit, reachTime, hw])
  rw [frameReferencePulse_exec]
  refine command_leaves ?_ (referenceRan_frame s) hi hp hl
  rw [hframe, ite_self]

/-- R48: while TRC writes on the internal reference, a pulse of it writes a frame. -/
theorem referencePulse_writes (hw : s.trc.writing = true) (hr : s.srv.row = .record) (hsrc : s.srv.source = .internal)
    {p : Pos} {high : Nat} {mark : Option MarkWrite}
    (hwf : s.pos.writeFrame (Config.counterLimit s.straps.fr30) s.straps.fr30 = (p, high, mark)) :
    ∃ t, exec .frameReferencePulse s = .next t ∧ t.pos = p ∧ t.ctlOut = some high ∧ t.srv = (referenceRan s).srv
      ∧ SameBut [.now, .srv, .pos, .ctlOut] s t := by
  have hframe : SameBut [.now, .srv, .pos, .ctlOut] s (((referenceRan s).setPos p).setCtlOut (some high)) := by
    intro part hpart
    cases part <;> simp_all [Part.same, referenceRan, reachLimit, reachTime]
  refine ⟨((referenceRan s).setPos p).setCtlOut (some high), ?_, rfl, rfl, rfl, hframe⟩
  rw [frameReferencePulse_exec]
  refine command_leaves ?_ hframe hi hp hl
  have href : (s.srv.row.frameRef && s.srv.source == .internal) = true := by rw [hr, hsrc]; rfl
  have hwrite : (referenceRan s).trc.writing = true := hw
  rw [if_pos href, writeFrame_eq, if_pos hwrite]
  exact frameWritten_idle (s := referenceRan s) hi.run hwf

/-- R34: two target periods without a frame start turn the reference to the internal one. -/
theorem referenceTimeout {last : Nat} (hr : s.srv.row = .record) (hsrc : s.srv.source = .external)
    (hlast : s.srv.frameStart = some last) :
    ∃ t, exec .frameReferenceTimeout s = .next t ∧ t.now = max s.now (last + 2 * Config.framePeriod s.straps.fr30)
      ∧ t.srv = { s.srv with source := .internal, refLast := last + Config.framePeriod s.straps.fr30 }
      ∧ SameBut [.now, .srv] s t := by
  have hframe : SameBut [.now, .srv] s ((reachLimit last (2 * Config.framePeriod s.straps.fr30) s).setSrv
      (s.srv.frameTimeout s.straps.fr30)) :=
    ((reachLimit_frame _ _ s).mono (by simp)).with ((setSrv_frame _ _).mono (by simp))
  have hv : s.srv.frameTimeout s.straps.fr30
      = { s.srv with source := .internal, refLast := last + Config.framePeriod s.straps.fr30 } := by
    simp [Srv.frameTimeout, hlast]
  have href : (s.srv.row.frameRef && s.srv.source == .external) = true := by rw [hr, hsrc]; rfl
  refine ⟨_, command_leaves ?_ hframe hi hp hl, rfl, hv, hframe⟩
  simp only [hlast, href, if_true]
  rfl

end

end Sys2Proof.Machine

open Sys2Proof Sys2Proof.Machine

/-- Settles O31: a pulse moves the reference on, and writes the frame that `Pos.writeFrame` describes. -/
theorem frameReferenceRunsAndWrites : Obligations.FrameReferenceRunsAndWrites := by
  refine ⟨?_, ?_, ?_, ?_⟩
  · intro s hi hp hl hw
    exact ⟨_, referencePulse_alone hi hp hl hw, rfl, rfl, referenceRan_frame s⟩
  · intro s hi hp hl hw hr hsrc hm hhigh hlow
    exact referencePulse_writes hi hp hl hw hr hsrc (writeFrame_plain hm hlow hhigh _)
  · intro s first n hi hp hl hw hr hsrc hm hn hhigh hlow
    obtain ⟨t, hx, hpos, hctl, -, hsame⟩ :=
      referencePulse_writes hi hp hl hw hr hsrc (writeFrame_mark hm hn hlow hhigh _)
    exact ⟨t, hx, hpos, hctl, hsame⟩
  · intro s last hi hp hl hr hsrc hlast
    exact referenceTimeout hi hp hl hr hsrc hlast

end

section
/-! LEMMA. Reel marks (R40, R42), the period of a reel (R59 to R63), and the stall of the supply reel (R41, R21). -/

namespace Sys2Proof.Machine

/-! ### A mark of one reel (R40, R41) -/

section
variable {r : Reel} {ms : Nat}

/-- R40: a mark that is not yet the fifth gives no period. -/
theorem mark_early {last : Nat} {older : List Nat} (ht : r.times = last :: older) (hlen : older.length < 3) (ms : Nat) :
    r.mark ms =
      { marks := min 5 (r.marks + 1), times := ms :: last :: older, interval := some (ms - last), period := none
        stall := some (ms + clampNat 400 30000 (2 * (ms - last))) } := by
  have hkeep : (ms :: last :: older).take 4 = ms :: last :: older :=
    List.take_of_length_le (by simp only [List.length_cons]; omega)
  have hnone : older[2]? = none := List.getElem?_eq_none (by omega)
  simp [Reel.mark, ht, hnone, hkeep]

/-- R40: from the fifth mark on, the period is the span of four marks. -/
theorem mark_period {a b c d : Nat} (ht : r.times = [a, b, c, d]) (hd : d < ms) :
    (r.mark ms).period = some (min 65535 (ms - d)) ∧ (r.mark ms).times = [ms, a, b, c] := by
  have hclamp : clampNat 1 65535 (ms - d) = min 65535 (ms - d) := by
    unfold clampNat
    split_ifs <;> omega
  simp [Reel.mark, ht, hclamp]

/-- R42: in PLAY no reel is wound, and a mark of the supply reel is its own alone. -/
theorem reelMark_play {v : Srv} {due : Nat} (hr : v.row = .play) (hst : v.supply.stall = some due) (ms : Nat) :
    v.reelMark .supply ms = ({ v with supply := v.supply.mark ms }, (v.supply.mark ms).period.isSome) := by
  have hwind : (Row.play.reel == .wind) = false := rfl
  simp only [Srv.reelMark, Srv.reel, Srv.setReel, hr, hst, hwind, Bool.false_and, Bool.false_eq_true, if_false]

/-- R40: a reel without a segment takes no mark. -/
theorem reelMark_none {v : Srv} {n : ReelName} (h : (v.reel n).stall = none) (ms : Nat) :
    v.reelMark n ms = (v, false) := by
  simp only [Srv.reelMark, h]

end

/-! ### What POS makes of a period (R59 to R63) -/

section
variable {p : Pos} {m : Speed} {ts tt : Nat} {found : Option Nat}

/-- R61: a period of one reel alone means nothing. -/
theorem takePeriod_takeupNone (n : ReelName) (st : TransportState) (phase : Option SearchPhase) (m : Speed)
    (capLock windSettled : Bool) (supply : Option Nat) (p : Pos) :
    p.takePeriod n st phase m capLock windSettled supply none = p := by
  unfold Pos.takePeriod
  split <;> simp_all

/-- R59, R61: in PLAY, with the capstan locked, a period of the supply reel evaluates where no profile is identified, and
computes. -/
theorem takePeriod_play (phase : Option SearchPhase) (m : Speed) (windSettled : Bool) (ts tt : Nat) (p : Pos) :
    p.takePeriod .supply .play phase m true windSettled (some ts) (some tt)
      = (if p.profile.isNone then p.evaluate m ts tt else p).compute m ts tt := by
  have hsteady : steady .play phase true windSettled = true := rfl
  have heval : (p.profile.isNone && (ReelName.supply == .supply)
      && ((TransportState.play == .play) || (TransportState.play == .record)) && true) = p.profile.isNone := by simp
  simp only [Pos.takePeriod, hsteady, heval, if_true]

/-- R62, R63: with a profile identified, a computation gives R and the remaining seconds. -/
theorem compute_profile {n : Nat} (h : p.profile = some n) : p.compute m ts tt = { p with
    r := some (tapeShare ts tt (profileOf p.profiles n).h)
    remaining := remainingOf (tapeShare ts tt (profileOf p.profiles n).h) (profileOf p.profiles n).nsp m } := by
  simp only [Pos.compute, h]

theorem compute_none (h : p.profile = none) : p.compute m ts tt = p := by simp only [Pos.compute, h]

/-- R59, R60: the profile that two periods match, if U is in range and one does. -/
def profileFound (m : Speed) (ts tt : Nat) (p : Pos) : Option Nat :=
  if cassetteU m ts tt ≤ 65535 then matchProfile p.profiles (cassetteU m ts tt) [1, 2, 3, 4, 5, 6, 7, 8] else none

theorem profileHit_eq (m : Speed) (ts tt : Nat) (p : Pos) :
    (if 65535 < cassetteU m ts tt then none
      else matchProfile p.profiles (cassetteU m ts tt) [1, 2, 3, 4, 5, 6, 7, 8]) = profileFound m ts tt p := by
  unfold profileFound
  rcases Nat.lt_or_ge 65535 (cassetteU m ts tt) with h | h
  · rw [if_pos h, if_neg (by omega)]
  · rw [if_neg (by omega), if_pos h]

/-- R60: a profile found twice in a row is identified. -/
theorem evaluate_again {n : Nat} (hf : profileFound m ts tt p = some n) (hc : p.candidate = some n) :
    p.evaluate m ts tt = { p with profile := some n, candidate := none, noMatchCount := 0, noMatch := false } := by
  simp only [Pos.evaluate, profileHit_eq, hf, hc, if_true]

/-- R60: a profile found for the first time is the candidate. -/
theorem evaluate_first {n : Nat} (hf : profileFound m ts tt p = some n) (hc : p.candidate ≠ some n) :
    p.evaluate m ts tt = { p with candidate := some n, noMatchCount := 0 } := by
  simp only [Pos.evaluate, profileHit_eq, hf, if_neg hc]

/-- R60: where no profile is found the candidate is none, and the second time in a row tells no match. -/
theorem evaluate_missed (hf : profileFound m ts tt p = none) :
    p.evaluate m ts tt =
      if 2 ≤ p.noMatchCount + 1 then { p with candidate := none, noMatch := true, noMatchCount := 0 }
      else { p with candidate := none, noMatchCount := p.noMatchCount + 1 } := by
  simp only [Pos.evaluate, profileHit_eq, hf]

end

/-! ### The mark of the supply reel as an event -/

section
variable {s : State} {at_ due : Nat} (hi : ScheduleIdle s) (hp : PowerSteady s) (hl : LinesStand s)
include hi hp hl

/-- R40, R61: a mark of the supply reel in PLAY, and what POS makes of the period it may give. -/
theorem supplyMark_exec (hr : s.srv.row = .play) (hat : s.now ≤ at_) (hst : s.srv.supply.stall = some due) {p : Pos}
    (hpos : (if (s.srv.supply.mark (at_ / 1000)).period.isSome then
      s.pos.takePeriod .supply s.trc.st (s.trc.search.map fun k => k.phase) s.srv.speed s.srv.capLock s.srv.windSettled
        (s.srv.supply.mark (at_ / 1000)).period s.srv.takeup.period else s.pos) = p) :
    ∃ t, exec (.reelMark .supply at_) s = .next t ∧ t.now = at_
      ∧ t.srv = { s.srv with supply := s.srv.supply.mark (at_ / 1000) } ∧ t.pos = p ∧ SameBut [.now, .srv, .pos] s t := by
  have hframe : SameBut [.now, .srv, .pos] s
      (((reachTime at_ s).setSrv { s.srv with supply := s.srv.supply.mark (at_ / 1000) }).setPos p) :=
    (((reachTime_frame at_ s).mono (by simp)).with ((setSrv_frame _ _).mono (by simp))).with
      ((setPos_frame _ _).mono (by simp))
  refine ⟨_, command_leaves ?_ hframe hi hp hl, reachTime_now hat, rfl, rfl, hframe⟩
  have hmark : (reachTime at_ s).srv.reelMark .supply ((reachTime at_ s).now / 1000) =
      ({ s.srv with supply := s.srv.supply.mark (at_ / 1000) }, (s.srv.supply.mark (at_ / 1000)).period.isSome) := by
    rw [reachTime_now hat]
    exact reelMark_play hr hst _
  dsimp only
  rw [hmark, ← hpos]
  dsimp only
  split <;> rfl

/-- R40: a mark that changes nothing in POS. -/
theorem supplyMark_alone (hr : s.srv.row = .play) (hat : s.now ≤ at_) (hst : s.srv.supply.stall = some due)
    (h : (s.srv.supply.mark (at_ / 1000)).period = none ∨ s.srv.takeup.period = none) :
    ∃ t, exec (.reelMark .supply at_) s = .next t ∧ t.now = at_
      ∧ t.srv = { s.srv with supply := s.srv.supply.mark (at_ / 1000) } ∧ SameBut [.now, .srv] s t := by
  obtain ⟨t, hx, hnow, hv, hpos, hsame⟩ := supplyMark_exec hi hp hl hr hat hst (p := s.pos) (by
    rcases h with h | h
    · rw [h]; rfl
    · rw [h, takePeriod_takeupNone, ite_self])
  refine ⟨t, hx, hnow, hv, fun part hpart => ?_⟩
  by_cases he : part = .pos
  · subst he; exact hpos
  · exact hsame part (by simp_all)

/-- R40: a mark of a reel without a segment. -/
theorem reelMark_ignored {reel : ReelName} (hst : (s.srv.reel reel).stall = none) (at_ : Nat) :
    ∃ t, exec (.reelMark reel at_) s = .next t ∧ t.now = max s.now at_ ∧ SameBut [.now] s t := by
  refine ⟨_, command_leaves ?_ (reachTime_frame at_ s) hi hp hl, rfl, reachTime_frame at_ s⟩
  have hmark : (reachTime at_ s).srv.reelMark reel ((reachTime at_ s).now / 1000) = (s.srv, false) := reelMark_none hst _
  dsimp only
  rw [hmark]
  rfl

end

/-! ### The stall of the supply reel (R41, R21) -/

/-- R41: the stall timer of a reel has run out: its timing stops. -/
def atStall (reel : ReelName) (due : Nat) (s : State) : State :=
  (reachTime (1000 * due) s).setSrv (s.srv.stallReel reel)

section
variable {s : State} {due : Nat}

@[simp] theorem atStall_trc (reel : ReelName) : (atStall reel due s).trc = s.trc := rfl
@[simp] theorem atStall_now (reel : ReelName) : (atStall reel due s).now = max s.now (1000 * due) := rfl
@[simp] theorem atStall_pos (reel : ReelName) : (atStall reel due s).pos = s.pos := rfl
@[simp] theorem atStall_row (reel : ReelName) : (atStall reel due s).srv.row = s.srv.row := by cases reel <;> rfl

theorem atStall_frame (reel : ReelName) (due : Nat) (s : State) : SameBut [.now, .srv] s (atStall reel due s) :=
  ((reachTime_frame _ s).mono (by simp)).with ((setSrv_frame _ _).mono (by simp))

theorem reelStall_exec {reel : ReelName} (h : (s.srv.reel reel).stall = some due) :
    exec (.reelStall reel) s = command (fun _ => stallReported reel (atStall reel due s)) s :=
  command_of (by simp only [h]; rfl)

/-- R21: the reel that stalls in PLAY, if the capstan does not drive it, is at the tape's end. -/
theorem stallReported_supply (hst : s.trc.st = .play) (ho : s.trc.owner = .panel)
    (hauto : setAutoRewind s.mpath.settings = false) :
    stallReported .supply s = reportState (post (evTransport .stop .auto) (stoppedAtLimit .ending true false s)) := by
  obtain ⟨hdir, hseek⟩ := motion_forward (s := s) (by simp [hst])
  have hlimit : stallReported .supply s = tapeLimit .ending true s := by simp [stallReported, hdir, drivenReel]
  rw [hlimit, tapeLimit, limitCore_panel hseek ho, hauto, takeRewind_none (by simp)]
  rfl

/-- What a stall of the supply reel in PLAY does. -/
theorem stall_worked (hi : ScheduleIdle s) (hd : Drained s) (hr : EventRoom 2 s) (ho : s.trc.owner = .panel) :
    Worked [.now, .trc, .srv, .pos] [evTapeLimit .ending true, evTransport .stop .auto] s
      (reportState (post (evTransport .stop .auto) (stoppedAtLimit .ending true false (atStall .supply due s)))) := by
  have h0 : Worked [.now, .trc, .srv, .pos] [] s (atStall .supply due s) :=
    (Worked.start _ hi.notices hi.taken).on (atStall_frame .supply due s)
  have h1 := ((h0.on (stopWriting_frame _)).enterCore .stop false).posts (evTapeLimit .ending true) hr hd
  exact ((h1.on (setTrc_frame _ _)).posts (evTransport .stop .auto) hr hd).report (by simpa using ho)

/-- R29, R40: a change to a row that moves no tape stops the timing of both reels. -/
theorem drive_stopsReels {v : Srv} {row : Row} {main fr30 : Bool} {now : Nat} {dflt : Speed} {on : Bool}
    (h : v.row ≠ row) (hm : row.moves on = false) :
    (v.drive main fr30 now dflt row on).supply.period = none ∧ (v.drive main fr30 now dflt row on).supply.stall = none := by
  rw [drive_turned fun e => h e.1, hm, Bool.and_false]
  exact ⟨rfl, rfl⟩

@[simp] theorem stoppedAtLimit_now (e : TapeEnd) (stall due : Bool) (s : State) : (stoppedAtLimit e stall due s).now = s.now := by
  simp [stoppedAtLimit]

/-- R20, R40: a limit that stops a motion ends the timing of the reels. -/
theorem stoppedAtLimit_reels {e : TapeEnd} {stall due : Bool} (h : s.srv.row ≠ .still) :
    (stoppedAtLimit e stall due s).srv.supply.period = none ∧ (stoppedAtLimit e stall due s).srv.supply.stall = none := by
  have hv : (stoppedAtLimit e stall due s).srv = (enterCore .stop false (stopWriting s)).srv := by simp [stoppedAtLimit]
  have hrow : rowOf (enterCore .stop false (stopWriting s)).trc = .still := by
    rw [enterCore_rowOf _ _ _ (by decide) (by decide)]
    rfl
  rw [hv, enterCore_srv, hrow, stopWriting_srv]
  exact drive_stopsReels h rfl

/-- R41, R21: the stall of the supply reel in PLAY under PANEL. -/
theorem supplyStall (hi : ScheduleIdle s) (hd : Drained s) (hr : EventRoom 2 s) (hp : PowerSteady s)
    (ho : s.trc.owner = .panel) (hst : s.trc.st = .play) (hauto : setAutoRewind s.mpath.settings = false)
    (hrow : s.srv.row = .play) (hdue : s.srv.supply.stall = some due) :
    ∃ t, exec (.reelStall .supply) s = .next t
      ∧ t.now = max s.now (1000 * due) ∧ t.trc.st = .stop ∧ t.srv.row = .still
      ∧ t.srv.supply.period = none ∧ t.srv.supply.stall = none ∧ t.pos.counter = s.pos.counter
      ∧ Posted [evTapeLimit .ending true, evTransport .stop .auto] s t
      ∧ SameBut [.now, .trc, .srv, .pos, .mpath, .rqu] s t := by
  obtain ⟨t, hx, hnow, -, htrc, hsrv, hpos, hpost, hsame⟩ :=
    (stall_worked (due := due) hi hd hr ho).posted (f := fun _ => _) rfl hi hd hp
  have hreels := stoppedAtLimit_reels (s := atStall .supply due s) (e := .ending) (stall := true) (due := false)
    (by simp [hrow])
  rw [reelStall_exec (reel := .supply) hdue, stallReported_supply (s := atStall .supply due s) hst ho hauto]
  refine ⟨t, hx, ?_, ?_, ?_, ?_, ?_, ?_, hpost, hsame⟩
  · simp [hnow]
  · simp [htrc]
  · simp [hsrv]
  · simp [hsrv, hreels]
  · simp [hsrv, hreels]
  · simp [hpos]

end

end Sys2Proof.Machine

open Sys2Proof Sys2Proof.Machine

/-- Settles O32: a mark is the reel's own, its period is what POS evaluates and computes with, and a stall is a tape limit. -/
theorem reelMarksAndStall : Obligations.ReelMarksAndStall := by
  refine ⟨?_, ?_, ?_, ?_, ?_⟩
  · intro s at_ last due older hi hp hl hr hat hst ht hlen hlast
    have hmark := mark_early ht hlen (at_ / 1000)
    obtain ⟨t, hx, hnow, hv, hsame⟩ := supplyMark_alone hi hp hl hr hat hst (.inl (by rw [hmark]))
    rw [hmark] at hv
    exact ⟨t, hx, hnow, by rw [hv], by rw [hv], by rw [hv], by rw [hv], by rw [hv], by rw [hv], by rw [hv], hsame⟩
  · intro s at_ a b c d due hi hp hl hr hat hst ht hd htk
    obtain ⟨hperiod, htimes⟩ := mark_period ht hd
    obtain ⟨t, hx, -, hv, hsame⟩ := supplyMark_alone hi hp hl hr hat hst (.inr htk)
    exact ⟨t, hx, by rw [hv]; exact hperiod, by rw [hv]; exact htimes, by rw [hv], hsame⟩
  · intro s reel at_ hi hp hl hst
    exact reelMark_ignored hi hp hl hst at_
  · intro s at_ a b c d due tt hi hp hl hr hst hlock hat hdue ht hd htk ts m share seconds found
    obtain ⟨hperiod, -⟩ := mark_period ht hd
    obtain ⟨t, hx, -, hv, hpos, hsame⟩ := supplyMark_exec hi hp hl hr hat hdue rfl
    rw [hperiod, htk, hst, hlock, takePeriod_play] at hpos
    refine ⟨t, hx, by rw [hv]; exact hperiod, hsame, ?_, ?_, ?_, ?_, ?_⟩
    · intro n hn
      rw [hpos, hn]
      exact compute_profile hn
    · intro n hn hf hc
      rw [hpos, hn]
      exact (congrArg (Pos.compute m ts tt) (evaluate_again hf hc)).trans (compute_profile rfl)
    · intro n hn hf hc
      rw [hpos, hn]
      exact (congrArg (Pos.compute m ts tt) (evaluate_first hf hc)).trans (compute_none hn)
    · intro hn hf hcount
      have hmiss := evaluate_missed hf
      rw [hcount, if_neg (by decide)] at hmiss
      rw [hpos, hn]
      exact (congrArg (Pos.compute m ts tt) hmiss).trans (compute_none hn)
    · intro hn hf hcount
      have hmiss := evaluate_missed hf
      rw [hcount, if_pos (by decide)] at hmiss
      rw [hpos, hn]
      exact (congrArg (Pos.compute m ts tt) hmiss).trans (compute_none hn)
  · intro s due hi hd hr hp ho hst _ hauto hrow hdue
    exact supplyStall hi hd hr hp ho hst hauto hrow hdue

end

section
/-! LEMMA. COUNTER_RESET (R52), and RECOVER in FAULT (R23). -/

namespace Sys2Proof.Machine

/-- R52: a COUNTER_RESET under PANEL, outside UNTHREADING, EJECTING and SEEK, is taken. -/
theorem requestReset_taken {s : State} (ho : s.trc.owner = .panel)
    (hst : s.trc.st ∉ [TransportState.unthreading, .ejecting, .seek]) :
    requestReset s = (clearRewind (s.setPos (s.pos.reset s.now)), answer .done) := by
  simp only [List.mem_cons, List.not_mem_nil, or_false, not_or] at hst
  obtain ⟨hun, hej, hseek⟩ := hst
  rw [requestReset, if_neg (by simp [ownedByPanel, ho])]
  split
  · exact absurd ‹_› hun
  · exact absurd ‹_› hej
  · exact absurd ‹_› hseek
  · rfl

section
variable {s : State} (ho : s.trc.owner = .panel) (hst : s.trc.st = .fault)
include ho hst

/-- R23: while an overcurrent or the thermal input is active, RECOVER is refused. -/
theorem requestRecover_active (h : s.pins.motorOc ≠ 0 ∨ s.pins.thermal = true) : requestRecover s = (s, answer .state) := by
  have hin : (s.pins.motorOc != 0 || s.pins.thermal) = true := by simpa using h
  simp only [requestRecover, ownedByPanel, ho, hst, hin]
  rfl

/-- R23: with the UNTHREADED switch closed, RECOVER enters the resting state that CASS_SW gives. -/
theorem requestRecover_closed (hoc : s.pins.motorOc = 0) (hth : s.pins.thermal = false)
    (hsw : s.pins.unthreadedSw = true) :
    requestRecover s =
      (enter (restState s) (hostOrigin s) true false (s.setTrc { s.trc with fault := none }), answer .done) := by
  simp [requestRecover, ownedByPanel, ho, hst, hoc, hth, hsw, restState, hostOrigin]

/-- R23, R12: with the switch open, RECOVER unthreads the tape; what was being written ends. -/
theorem requestRecover_open (hoc : s.pins.motorOc = 0) (hth : s.pins.thermal = false)
    (hsw : s.pins.unthreadedSw = false) :
    requestRecover s =
      (enter .unthreading (hostOrigin s) true false (readyToUnthread none (hostOrigin s)
        (stopWriting (s.setTrc { s.trc with fault := none }))), answer .accepted) := by
  simp [requestRecover, ownedByPanel, ho, hst, hoc, hth, hsw, beginUnthread, readyToUnthread, hostOrigin, enter_quiet]

end

/-- R12, R23: CASS_SW chooses between two resting states. -/
theorem restState_cases (s : State) : restState s = .unthreaded ∨ restState s = .noCassette := by
  unfold restState
  split
  exacts [.inl rfl, .inr rfl]

/-- RECOVER with the UNTHREADED switch closed. -/
theorem recoverAtRest {s : State} (hh : HostRuns s) (hi : ScheduleIdle s) (ho : s.trc.owner = .panel)
    (hst : s.trc.st = .fault) (hoc : s.pins.motorOc = 0) (hth : s.pins.thermal = false)
    (hsw : s.pins.unthreadedSw = true) :
    ∃ t, exec .recover s = .next t ∧ t.trc.fault = none
      ∧ t.trc.st = (if s.pins.cassSw then .unthreaded else .noCassette) ∧ t.trc.brake = false
      ∧ t.srv.row = .allOff ∧ t.pos.counter = s.pos.counter
      ∧ Answered 0x0E [] [] (answer .done) s t ∧ SameBut [.trc, .srv, .pos, .mem, .mpath, .rqu] s t := by
  have hreq := congrArg some (requestRecover_closed (s := atRequest 0x0E s) ho hst hoc hth hsw)
  obtain ⟨t, hx, htrc, hsrv, hpos, hans, hsame⟩ := (((atRequest_start hi 0x0E [.trc, .srv, .pos]).setTrc
    { s.trc with fault := none }).enter_quiet (restState s) (hostOrigin (atRequest 0x0E s)) false ho).answered hreq hh hi
  refine ⟨t, hx, ?_, ?_, ?_, ?_, ?_, hans, hsame⟩
  · simp [htrc]
  · simp [htrc, restState]
  · rcases restState_cases s with e | e <;> simp [htrc, e]
  · rw [hsrv, enter_srv, enterCore_row]
    rcases restState_cases s with e | e <;>
    · rw [e, enterCore_rowOf _ _ _ (by decide) (by decide)]
      rfl
  · rw [hpos, enter_pos, enterCore_counter]; rfl

/-- RECOVER with the UNTHREADED switch open. -/
theorem recoverUnthreads {s : State} (hh : HostRuns s) (hi : ScheduleIdle s) (ho : s.trc.owner = .panel)
    (hst : s.trc.st = .fault) (hoc : s.pins.motorOc = 0) (hth : s.pins.thermal = false)
    (hsw : s.pins.unthreadedSw = false) :
    ∃ t, exec .recover s = .next t ∧ t.trc.fault = none ∧ t.trc.st = .unthreading ∧ t.trc.loadMotor = .reverse
      ∧ t.trc.loadTimer = some s.now ∧ t.trc.pending = none ∧ t.trc.op = ⟨s.rqu.tag, .request⟩ ∧ t.trc.brake = false
      ∧ t.srv.row = .allOff ∧ t.pos.counter = s.pos.counter
      ∧ Answered 0x0E [] [] (answer .accepted) s t ∧ SameBut [.trc, .srv, .pos, .mem, .mpath, .rqu] s t := by
  have hreq := congrArg some (requestRecover_open (s := atRequest 0x0E s) ho hst hoc hth hsw)
  have hwork := ((((atRequest_start hi 0x0E [.trc, .srv, .pos]).setTrc { s.trc with fault := none }).on
    (stopWriting_frame _)).on (readyToUnthread_frame none (hostOrigin (atRequest 0x0E s)) _)).enter_quiet .unthreading
    (hostOrigin (atRequest 0x0E s)) false (by simpa using ho)
  obtain ⟨t, hx, htrc, hsrv, hpos, hans, hsame⟩ := hwork.answered hreq hh hi
  refine ⟨t, hx, ?_, ?_, ?_, ?_, ?_, ?_, ?_, ?_, ?_, hans, hsame⟩
  iterate 3 · simp [htrc]
  · simp [htrc, readyToUnthread]
  iterate 3 · simp [htrc, hostOrigin]
  · rw [hsrv, enter_srv, enterCore_row, enterCore_rowOf _ _ _ (by decide) (by decide)]; rfl
  · rw [hpos, enter_pos, enterCore_counter]
    exact stopWriting_counter _

end Sys2Proof.Machine

open Sys2Proof Sys2Proof.Machine

/-- Settles O22: COUNTER_RESET is `Pos.reset` alone; RECOVER enters a resting state or UNTHREADING, or changes nothing. -/
theorem counterResetAndRecover : Obligations.CounterResetAndRecover := by
  constructor
  · intro s hh hi ho hst
    have hreq := congrArg some (requestReset_taken (s := atRequest 0x0D s) ho hst)
    obtain ⟨t, hx, htrc, -, hpos, hans, hsame⟩ :=
      ((atRequest_start hi 0x0D [.pos, .trc]).on (setPos_frame _ (s.pos.reset s.now))).clearRewind.answered hreq hh hi
    have hq : t.pos = s.pos.reset s.now := hpos
    refine ⟨t, hx, ?_, ?_, ?_, ?_, ?_, ?_, ?_, ?_, ?_, ?_, ?_, ?_, htrc, hans, hsame⟩
    iterate 7 · rw [hq]; rfl
    · intro since hb
      simp [hq, Pos.reset, hb]
    · intro hb
      simp [hq, Pos.reset, hb]
    iterate 3 · rw [hq]; rfl
  · intro s hh hi ho hst _
    refine ⟨fun hoc hth hsw => recoverAtRest hh hi ho hst hoc hth hsw,
      fun hoc hth hsw => recoverUnthreads hh hi ho hst hoc hth hsw, fun hin => ?_⟩
    have hreq := congrArg some (requestRecover_active (s := atRequest 0x0E s) ho hst hin)
    obtain ⟨t, hx, -, -, -, hans, hsame⟩ := (atRequest_start hi 0x0E []).answered hreq hh hi
    exact ⟨t, hx, hans, hsame⟩

end

section
/-! LEMMA. Blank tape (R49, R50): the extrapolation in PLAY, and UNSURE in CUE. -/

namespace Sys2Proof.Machine

/-- R24: a changed counter means nothing to TRC outside SEEK. -/
theorem counterChanged_of_ne {s : State} (h : s.trc.st ≠ .seek) : counterChanged s = s := by
  unfold counterChanged
  split
  · contradiction
  · rfl

/-- The event of a timer of POS: the limit is reached, and POS alone changes. -/
theorem limit_setsPos {f : State → State} {s : State} {since limit : Nat} {p : Pos} (hi : ScheduleIdle s)
    (hp : PowerSteady s) (hl : LinesStand s) (hf : f s = (reachLimit since limit s).setPos p) :
    ∃ t, command f s = .next t ∧ t.now = max s.now (since + limit) ∧ t.pos = p ∧ SameBut [.now, .pos] s t := by
  have hframe : SameBut [.now, .pos] s ((reachLimit since limit s).setPos p) :=
    ((reachLimit_frame _ _ s).mono (by simp)).with ((setPos_frame _ _).mono (by simp))
  exact ⟨_, command_leaves hf hframe hi hp hl, rfl, rfl, hframe⟩

/-- The same with the counter handed to TRC, outside SEEK. -/
theorem limit_counts {f : State → State} {s : State} {since limit : Nat} {p : Pos} (hi : ScheduleIdle s)
    (hp : PowerSteady s) (hl : LinesStand s) (hst : s.trc.st ≠ .seek)
    (hf : f s = counterChanged ((reachLimit since limit s).setPos p)) :
    ∃ t, command f s = .next t ∧ t.now = max s.now (since + limit) ∧ t.pos = p ∧ SameBut [.now, .pos] s t :=
  limit_setsPos hi hp hl (hf.trans (counterChanged_of_ne hst))

/-- R51: the counter's limit at the lower frame rate. -/
theorem counterLimit_ge (fr30 : Bool) : 899999 ≤ Config.counterLimit fr30 := by cases fr30 <;> decide

end Sys2Proof.Machine

open Sys2Proof Sys2Proof.Machine

/-- Settles O34: each row reaches its limit and changes POS alone; outside SEEK TRC makes nothing of the counter. -/
theorem blankTapeExtrapolatesOrSetsUnsure : Obligations.BlankTapeExtrapolatesOrSetsUnsure := by
  intro s since hi hp hl hst hc
  have hlimit := counterLimit_ge s.straps.fr30
  have hcount : ∀ d : Int, 0 ≤ d → d ≤ 8 →
      s.pos.count (Config.counterLimit s.straps.fr30) d = { s.pos with counter := s.pos.counter + d } :=
    fun d _ _ => count_inside (by omega) (by omega)
  refine ⟨fun hr he hb => ?_, fun he => ?_, fun hr hb => ?_⟩
  · refine limit_counts hi hp hl hst ?_
    simp only [hr, he, hb]
    exact congrArg (fun p : Pos => counterChanged ((reachLimit since (8 * Config.framePeriod s.straps.fr30) s).setPos
      { p with
        capSource := true, blank := .stopped, extrap := .running (since + 8 * Config.framePeriod s.straps.fr30) }))
      (hcount 8 (by decide) (by decide))
  · refine limit_counts hi hp hl hst ?_
    simp only [he]
    exact congrArg (fun p : Pos => counterChanged ((reachLimit since (Config.framePeriod s.straps.fr30) s).setPos
      { p with extrap := .running (since + Config.framePeriod s.straps.fr30) })) (hcount 1 (by decide) (by decide))
  · refine limit_setsPos hi hp hl ?_
    simp only [hr, hb, Row.blankSets]
    rfl

end

section
/-! SUPPORT. A read pulse in POS (R47, R50, R55, R56): the window it enters, and the mark it completes. -/

namespace Sys2Proof.Machine

/-! ### The window and its lowest long pulse -/

theorem windowFull_iff (w : List ReadPulse) :
    windowFull w = true ↔ w.length = 60 ∧ 48 ≤ (w.filter fun p => p.long).length := by
  simp [windowFull]

theorem lowestLong_eq_min? (w : List ReadPulse) :
    lowestLong w = ((w.filter fun p => p.long).map ReadPulse.frame).min? := by
  induction w with
  | nil => rfl
  | cons p rest ih =>
    rw [lowestLong, ih]
    cases hl : p.long
    · rw [List.filter_cons_of_neg (by simp [hl])]
      cases ((rest.filter fun p => p.long).map ReadPulse.frame).min? <;> rfl
    · rw [List.filter_cons_of_pos hl, List.map_cons, List.min?_cons]
      cases ((rest.filter fun p => p.long).map ReadPulse.frame).min? <;> rfl

/-- R55: the lowest frame number among the long pulses is the one that is none of theirs undercuts. -/
theorem lowestLong_eq {w : List ReadPulse} {m : Int} (hle : ∀ p ∈ w.filter fun p => p.long, m ≤ p.frame)
    (hmem : ∃ p ∈ w.filter fun p => p.long, m = p.frame) : lowestLong w = some m := by
  obtain ⟨p, hp, rfl⟩ := hmem
  rw [lowestLong_eq_min?, List.min?_eq_some_iff]
  refine ⟨List.mem_map_of_mem hp, fun x hx => ?_⟩
  obtain ⟨q, hq, rfl⟩ := List.mem_map.mp hx
  exact hle q hq

section
variable {p : Pos} {m : Int}

/-! ### The marks -/

theorem forwardMark_full (hf : windowFull p.window = true) (hm : lowestLong p.window = some m) :
    p.forwardMark = ({ p with lastMark := some m, window := [] }, some m) := by
  simp only [Pos.forwardMark, hf, hm, if_true]

theorem forwardMark_short (hf : windowFull p.window = false) : p.forwardMark = (p, none) := by
  simp [Pos.forwardMark, hf]

section
variable {pulse : ReadPulse}

theorem backwardMark_counter (pulse : ReadPulse) (p : Pos) : (p.backwardMark pulse).1.counter = p.counter := by
  unfold Pos.backwardMark
  split
  · split_ifs <;> rfl
  · split <;> rfl

theorem backwardMark_full (hk : p.pendingMark = none) (hr : p.runDown = none) (hf : windowFull p.window = true)
    (hm : lowestLong p.window = some m) :
    p.backwardMark pulse = ({ p with pendingMark := some ⟨m, 0⟩ }, none) := by
  simp [Pos.backwardMark, hk, hr, hf, hm]

theorem backwardMark_short (hk : p.pendingMark = none) (hf : windowFull p.window = false) :
    p.backwardMark pulse = (p, none) := by
  simp [Pos.backwardMark, hk, hf]

theorem backwardMark_lowers {k : PendingMark} (hk : p.pendingMark = some k) (hl : pulse.long = true) :
    p.backwardMark pulse = ({ p with pendingMark := some ⟨min k.lowest pulse.frame, 0⟩ }, none) := by
  simp [Pos.backwardMark, hk, hl]

theorem backwardMark_counts {k : PendingMark} (hk : p.pendingMark = some k) (hl : pulse.long = false)
    (hs : k.shorts < 7) :
    p.backwardMark pulse = ({ p with pendingMark := some { k with shorts := k.shorts + 1 } }, none) := by
  simp [Pos.backwardMark, hk, hl, show k.shorts ≠ 7 by omega]

theorem backwardMark_reports {k : PendingMark} (hk : p.pendingMark = some k) (hl : pulse.long = false)
    (hs : k.shorts = 7) :
    p.backwardMark pulse =
      ({ p with pendingMark := none, window := [], lastMark := some k.lowest }, some k.lowest) := by
  simp [Pos.backwardMark, hk, hl, hs]

end

/-! ### The pulse itself -/

/-- R55: a pulse of a high time is long when that is at least half the interval since the one before it. -/
def Pos.pulseLong (rise high : Nat) (p : Pos) : Bool := p.lastPulse.any fun last => rise - last ≤ 2 * high

/-- R55: the window once a pulse has entered it under a frame number. -/
def Pos.pulseWindow (frame : Int) (rise high : Nat) (p : Pos) : List ReadPulse :=
  ⟨frame, p.pulseLong rise high⟩ :: p.window.take 59

/-- R47, R50, R55: POS once a pulse of CUE or REVIEW has counted `d` and entered the window, before its mark test. -/
def Pos.pulsed (d frame : Int) (rise high : Nat) (p : Pos) : Pos :=
  { p with
    counter := p.counter + d, blank := .running rise, capSource := false, unsure := false, lastPulse := some rise
    window := p.pulseWindow frame rise high }

@[simp] theorem pulsed_pendingMark (d frame : Int) (rise high : Nat) :
    (p.pulsed d frame rise high).pendingMark = p.pendingMark := rfl
@[simp] theorem pulsed_runDown (d frame : Int) (rise high : Nat) :
    (p.pulsed d frame rise high).runDown = p.runDown := rfl

variable {limit : Int} (rise high : Nat) (capLock : Bool)

/-- R47: a pulse in CUE counts forward, and its frame is the one it has reached. -/
theorem readPulse_cue (hlow : -limit ≤ p.counter + 1) (hhigh : p.counter + 1 ≤ limit) :
    p.readPulse limit .forward rise high .cue capLock =
      ((p.pulsed 1 (p.counter + 1) rise high).forwardMark.1, p.lastPulse.map fun last => rise - last,
        (p.pulsed 1 (p.counter + 1) rise high).forwardMark.2) := by
  simp only [Pos.readPulse, count_inside hlow hhigh, Pos.pulsed, Pos.pulseWindow, Pos.pulseLong]
  cases p.lastPulse <;> rfl

/-- R47: a pulse in REVIEW counts backward, and its frame is the one it leaves. -/
theorem readPulse_review (hlow : -limit ≤ p.counter + -1) (hhigh : p.counter + -1 ≤ limit) :
    p.readPulse limit .backward rise high .review capLock =
      (((p.pulsed (-1) p.counter rise high).backwardMark ⟨p.counter, p.pulseLong rise high⟩).1,
        p.lastPulse.map fun last => rise - last,
        ((p.pulsed (-1) p.counter rise high).backwardMark ⟨p.counter, p.pulseLong rise high⟩).2) := by
  simp only [Pos.readPulse, count_inside hlow hhigh, Pos.pulsed, Pos.pulseWindow, Pos.pulseLong]
  cases p.lastPulse <;> rfl

/-- R55: the only pulse of a window finds no mark. -/
theorem readPulse_alone (hw : p.window = []) (row : Row) :
    ∃ q, p.readPulse limit .forward rise high row capLock = (q, p.lastPulse.map fun last => rise - last, none) := by
  simp only [Pos.readPulse, hw, List.take_nil, List.take_succ_cons]
  exact ⟨_, rfl⟩

end

end Sys2Proof.Machine
end

section
/-! SUPPORT. A read pulse as an event (R47, R57): what SRV and TRC make of it while no search runs. -/

namespace Sys2Proof.Machine

/-! ### The interval (R39) -/

theorem capReported_lost {s : State} (hr : s.srv.row = .play) :
    capReported .lost s = restartCap ((s.setPos (s.pos.capLost s.now)).setSrv s.srv.detectorNone) := by
  simp [capReported, hr]

/-- R39: an interval is watched in PLAY alone. -/
theorem watchInterval_of_ne {s : State} (hr : s.srv.row ≠ .play) (interval : Option Nat) :
    watchInterval interval s = s := by
  unfold watchInterval
  split
  · rfl
  · simp [hr]

/-- R39: an interval that detects no speed. -/
theorem watchInterval_counts {s : State} {i : Nat} {v : Srv} (hr : s.srv.row = .play) (hl : s.srv.capLock = true)
    (hd : s.srv.detect s.straps.fr30 i = (v, none)) : watchInterval (some i) s = s.setSrv v := by
  simp [watchInterval, hr, hl, hd]

/-- R39: an interval that detects a speed. -/
theorem watchInterval_detects {s : State} {i : Nat} {v : Srv} {k : Speed} (hr : s.srv.row = .play)
    (hl : s.srv.capLock = true) (hd : s.srv.detect s.straps.fr30 i = (v, some k)) :
    watchInterval (some i) s = capReported .lost (useSpeed k .detected (s.setSrv v)) := by
  simp [watchInterval, hr, hl, hd]

theorem watchInterval_search (interval : Option Nat) (s : State) :
    (watchInterval interval s).trc.search = s.trc.search := by
  have hc : ∀ u : State, (capReported .lost u).trc.search = u.trc.search := fun u => by
    unfold capReported; dsimp only; split <;> rfl
  unfold watchInterval
  split
  · rfl
  · split
    · dsimp only
      split
      · rfl
      · rw [hc, useSpeed_trc]; rfl
    · rfl

/-! ### The pulse -/

/-- R25: a mark means nothing to TRC without a search. -/
theorem markReported_none {s : State} (h : s.trc.search = none) (m : Int) : markReported m s = s := by
  unfold markReported
  split
  · simp_all
  · rfl

/-- R36: tracking corrects the capstan's duty alone. -/
theorem track_duty (fr30 : Bool) (at_ : Nat) (tie : Bool) (open_ : Nat) (v : Srv) :
    ∃ duty, v.track fr30 at_ tie open_ = { v with capDuty := duty } := by
  unfold Srv.track
  split <;> exact ⟨_, rfl⟩

theorem track_of_not {v : Srv} (h : v.row.tracking = false) (fr30 : Bool) (at_ : Nat) (tie : Bool) (open_ : Nat) :
    v.track fr30 at_ tie open_ = v := by simp [Srv.track, h]

/-- The state in which SRV watches a pulse's interval: POS has counted it, and tracking has given the capstan its duty. -/
def pulseTaken (at_ : Nat) (q : Pos) (duty : Nat) (s : State) : State :=
  useFree (((reachTime at_ s).setPos q).setSrv { s.srv with capDuty := duty })

theorem pulseTaken_frame (at_ : Nat) (q : Pos) (duty : Nat) (s : State) :
    SameBut [.now, .free, .pos, .srv] s (pulseTaken at_ q duty s) := by
  intro p hp; cases p <;> simp_all [Part.same, pulseTaken, useFree, reachTime]

section
variable {s : State} {row : Row} {rise high : Nat} {q : Pos} {interval : Option Nat} {mark : Option Int}

/-- R47, R57: a pulse while no search runs: it is counted, tracked, and its interval watched. -/
theorem takePulse_searchless {dir : Dir} (hs : s.trc.search = none)
    (hq : s.pos.readPulse (Config.counterLimit s.straps.fr30) dir rise high s.srv.row s.srv.capLock = (q, interval, mark)) :
    takePulse dir rise high s = watchInterval interval (useFree ((s.setPos q).setSrv (s.srv.track s.straps.fr30 rise
      (Config.phaseTie s.free) (Config.trackingBeforePg s.free)))) := by
  have hw := watchInterval_search interval (useFree ((s.setPos q).setSrv (s.srv.track s.straps.fr30 rise
    (Config.phaseTie s.free) (Config.trackingBeforePg s.free))))
  have hc : ∀ (c : Int) (u : State), u.trc.search = none → (if u.pos.counter = c then u else counterChanged u) = u :=
    fun c u hu => by rw [counterChanged_none hu, ite_self]
  simp only [takePulse, hq]
  rw [hc _ _ (hw.trans hs)]
  cases mark with
  | none => rfl
  | some m => exact markReported_none (hw.trans hs) m

/-- R47: a pulse of a row that moves tape, taken at its falling edge. -/
theorem ctlReadPulse_exec (hw : s.trc.writing = false) (hs : s.trc.search = none) (hat : s.now ≤ rise + high)
    (hrow : s.srv.row = row) (hm : row.moves s.srv.capOn = true)
    (hq : s.pos.readPulse (Config.counterLimit s.straps.fr30) row.motionDir rise high row s.srv.capLock
      = (q, interval, mark)) :
    ∃ duty, (row.tracking = false → duty = s.srv.capDuty)
      ∧ exec (.ctlReadPulse rise high) s
        = command (fun _ => watchInterval interval (pulseTaken (rise + high) q duty s)) s := by
  subst hrow
  obtain ⟨duty, hd⟩ := track_duty s.straps.fr30 rise (Config.phaseTie s.free) (Config.trackingBeforePg s.free) s.srv
  have hdir : pulseDir (reachTime (rise + high) s) = some s.srv.row.motionDir := by
    rw [pulseDir, if_neg (by simp [hw])]
    exact if_pos hm
  refine ⟨duty, fun ht => ?_, command_of ?_⟩
  · rw [track_of_not ht] at hd
    exact (congrArg Srv.capDuty hd).symm
  · dsimp only
    rw [hdir]
    dsimp only
    rw [reachTime_now hat, Nat.add_sub_cancel, takePulse_searchless (s := reachTime (rise + high) s) hs hq]
    exact congrArg (fun v => watchInterval interval (useFree (((reachTime (rise + high) s).setPos q).setSrv v))) hd

variable (hi : ScheduleIdle s) (hp : PowerSteady s) (hl : LinesStand s)
include hi hp hl

/-- R47: a pulse in a row that neither tracks nor watches the interval touches POS alone. -/
theorem pulse_counted (hw : s.trc.writing = false) (hs : s.trc.search = none) (hat : s.now ≤ rise + high)
    (hrow : s.srv.row = row) (hm : row.moves s.srv.capOn = true) (ht : row.tracking = false) (hr : row ≠ .play)
    (hq : s.pos.readPulse (Config.counterLimit s.straps.fr30) row.motionDir rise high row s.srv.capLock
      = (q, interval, mark)) :
    ∃ t, exec (.ctlReadPulse rise high) s = .next t ∧ t.now = rise + high ∧ t.free = s.free + 1 ∧ t.pos = q
      ∧ SameBut [.now, .free, .pos] s t := by
  obtain ⟨duty, hduty, hx⟩ := ctlReadPulse_exec hw hs hat hrow hm hq
  have hwatch : watchInterval interval (pulseTaken (rise + high) q duty s) = pulseTaken (rise + high) q duty s :=
    watchInterval_of_ne (s := pulseTaken (rise + high) q duty s) (hrow ▸ hr) interval
  rw [hduty ht] at hx hwatch
  have hframe : SameBut [.now, .free, .pos] s (pulseTaken (rise + high) q s.srv.capDuty s) := by
    intro p hp'
    by_cases hsrv : p = .srv
    · subst hsrv; rfl
    · exact pulseTaken_frame _ _ _ s p (by simp_all)
  rw [hx]
  exact ⟨_, command_leaves hwatch hframe hi hp hl, reachTime_now hat, rfl, rfl, hframe⟩

section
variable (hw : s.trc.writing = false) (hs : s.trc.search = none) (hat : s.now ≤ rise + high)
  (hc : s.pos.counter.natAbs < 100000)
include hw hs hat hc

/-- R47: a pulse in CUE. -/
theorem cuePulse (hr : s.srv.row = .cue) :
    ∃ t, exec (.ctlReadPulse rise high) s = .next t ∧ t.now = rise + high ∧ t.free = s.free + 1
      ∧ t.pos = (s.pos.pulsed 1 (s.pos.counter + 1) rise high).forwardMark.1 ∧ SameBut [.now, .free, .pos] s t := by
  have hlimit := counterLimit_large s.straps.fr30
  exact pulse_counted hi hp hl hw hs hat hr rfl rfl (by decide) (readPulse_cue _ _ _ (by omega) (by omega))

/-- R47: a pulse in REVIEW. -/
theorem reviewPulse (hr : s.srv.row = .review) :
    ∃ t, exec (.ctlReadPulse rise high) s = .next t ∧ t.now = rise + high ∧ t.free = s.free + 1
      ∧ t.pos = ((s.pos.pulsed (-1) s.pos.counter rise high).backwardMark
          ⟨s.pos.counter, s.pos.pulseLong rise high⟩).1
      ∧ SameBut [.now, .free, .pos] s t := by
  have hlimit := counterLimit_large s.straps.fr30
  exact pulse_counted hi hp hl hw hs hat hr rfl rfl (by decide) (readPulse_review _ _ _ (by omega) (by omega))

end

/-- R47: a pulse that counts in no direction passes with its time. -/
theorem pulse_ignored (hd : pulseDir (reachTime (rise + high) s) = none) :
    ∃ t, exec (.ctlReadPulse rise high) s = .next t ∧ t.now = max s.now (rise + high) ∧ SameBut [.now] s t := by
  refine ⟨_, command_leaves ?_ (reachTime_frame (rise + high) s) hi hp hl, rfl, reachTime_frame _ s⟩
  dsimp only
  rw [hd]

end

end Sys2Proof.Machine
end

section
/-! LEMMA. Read pulses (R47, R49, R50, R55, R56), and the speed that their intervals detect (R39). -/

namespace Sys2Proof.Machine

/-! ### Speed detection (R39) -/

/-- R39: the windows of the three speeds lie apart, so that an interval within one of them matches that speed. -/
theorem matchSpeed_eq {fr30 : Bool} {m k : Speed} {i : Nat}
    (h : ((i : Int) - expectedInterval fr30 m k).natAbs ≤ expectedInterval fr30 m k / 8) :
    matchSpeed fr30 m i = some k := by
  have hframe : 33367 ≤ Config.framePeriod fr30 := by cases fr30 <;> decide
  have hspeed : 0 < m.m := by cases m <;> decide
  obtain ⟨g, hg, hexpected⟩ : ∃ g, 33367 ≤ g ∧ ∀ j, expectedInterval fr30 m j = g / j.m :=
    ⟨_, hframe.trans (Nat.le_mul_of_pos_right _ hspeed), fun _ => rfl⟩
  unfold matchSpeed
  cases k with
  | sp => simp [h]
  | lp =>
    have hsp : ¬((i : Int) - expectedInterval fr30 m .sp).natAbs ≤ expectedInterval fr30 m .sp / 8 := by
      simp only [hexpected, Speed.m] at h ⊢
      omega
    simp [h, hsp]
  | ep =>
    have hsp : ¬((i : Int) - expectedInterval fr30 m .sp).natAbs ≤ expectedInterval fr30 m .sp / 8 := by
      simp only [hexpected, Speed.m] at h ⊢
      omega
    have hlp : ¬((i : Int) - expectedInterval fr30 m .lp).natAbs ≤ expectedInterval fr30 m .lp / 8 := by
      simp only [hexpected, Speed.m] at h ⊢
      omega
    simp [h, hsp, hlp]

section
variable {fr30 : Bool} {v : Srv} {i : Nat} {k : Speed} (hm : matchSpeed fr30 v.speed i = some k) (hk : k ≠ v.speed)
  (hc : v.candidate = some k)
include hm hk hc

/-- R39: the candidate's interval counts. -/
theorem detect_counts (hn : v.detCount < 7) : v.detect fr30 i = ({ v with detCount := v.detCount + 1 }, none) := by
  simp [Srv.detect, hm, hk, hc, show ¬7 ≤ v.detCount by omega]

/-- R39: the eighth interval of the candidate detects it. -/
theorem detect_eighth (hn : v.detCount = 7) : v.detect fr30 i = (v.detectorNone, some k) := by
  simp [Srv.detect, hm, hk, hc, hn]

end

/-- R38, R33: another speed set while the capstan runs: its lock is lost, and the segment begins anew. -/
theorem setSpeed_running {v : Srv} {m : Speed} (hm : v.speed ≠ m) (hc : (v.row.capstan v.capOn).isSome = true) (now : Nat)
    (o : SpeedOrigin) : v.setSpeed now m o = ({ v with speed := m, origin := o }.capRetarget).segment now := by
  simp [Srv.setSpeed, hm, hc]

/-- R39, R33, R17: the speed detected in PLAY comes into use, and the capstan's allowance begins. -/
theorem speedDetected {s : State} {k : Speed} (hr : s.srv.row = .play) (hst : s.trc.st = .play) (hk : s.srv.speed ≠ k) :
    ∃ u, capReported .lost (useSpeed k .detected s) = u ∧ SameBut [.pos, .srv, .trc] s u
      ∧ u.srv.detCount = 0 ∧ u.srv.candidate = none ∧ u.srv.speed = k ∧ u.srv.origin = .detected ∧ u.srv.capLock = false
      ∧ u.trc.capAllow = some s.now := by
  have hv := (useSpeed_srv k .detected s).trans
    (setSpeed_running hk (by rw [hr]; rfl : (s.srv.row.capstan s.srv.capOn).isSome = true) s.now .detected)
  have hr' : (useSpeed k .detected s).srv.row = .play := by rw [hv]; exact hr
  have hlock : (useSpeed k .detected s).srv.capLock = false := by rw [hv]; rfl
  have hnow : (useSpeed k .detected s).now = s.now := useSpeed_frame k .detected s .now (by decide)
  have hframe : SameBut [.pos, .srv, .trc] s (capReported .lost (useSpeed k .detected s)) :=
    ((useSpeed_frame k .detected s).mono (by simp)).with ((capReported_frame .lost _).mono (by simp))
  refine ⟨_, rfl, hframe, ?_⟩
  rw [capReported_lost hr']
  refine ⟨rfl, rfl, ?_, ?_, hlock, ?_⟩
  · exact (congrArg Srv.speed hv).trans rfl
  · exact (congrArg Srv.origin hv).trans rfl
  · show (if _ then some _ else none) = _
    simp [capNeeded, hst, hlock, hnow, Srv.detectorNone]

section
variable {s : State} {rise high : Nat} (hi : ScheduleIdle s) (hp : PowerSteady s) (hl : LinesStand s)
include hi hp hl

/-- R39: the interval of a pulse that tape of another speed gives in PLAY. -/
theorem pulse_detects {last : Nat} {k : Speed} (hw : s.trc.writing = false) (hs : s.trc.search = none)
    (hat : s.now ≤ rise + high) (hlast : s.pos.lastPulse = some last) (hwin : s.pos.window = []) (hr : s.srv.row = .play)
    (hst : s.trc.st = .play) (hlock : s.srv.capLock = true) (hk : k ≠ s.srv.speed) (hc : s.srv.candidate = some k)
    (hn : s.srv.detCount < 8) (hm : matchSpeed s.straps.fr30 s.srv.speed (rise - last) = some k) :
    ∃ t, exec (.ctlReadPulse rise high) s = .next t ∧ SameBut [.now, .free, .pos, .srv, .trc] s t
      ∧ (s.srv.detCount < 7 → t.srv.detCount = s.srv.detCount + 1 ∧ t.srv.candidate = some k
        ∧ t.srv.speed = s.srv.speed ∧ t.srv.capLock = true ∧ t.trc = s.trc)
      ∧ (s.srv.detCount = 7 → t.srv.detCount = 0 ∧ t.srv.candidate = none ∧ t.srv.speed = k
        ∧ t.srv.origin = .detected ∧ t.srv.capLock = false ∧ t.trc.capAllow = some t.now) := by
  obtain ⟨q, hq⟩ := readPulse_alone (limit := Config.counterLimit s.straps.fr30) rise high s.srv.capLock hwin .play
  obtain ⟨duty, -, hx⟩ := ctlReadPulse_exec hw hs hat hr rfl hq
  rw [hlast, Option.map_some] at hx
  have hset : ∀ v : Srv, SameBut [.now, .free, .pos, .srv, .trc] s ((pulseTaken (rise + high) q duty s).setSrv v) :=
    fun v => ((pulseTaken_frame (rise + high) q duty s).mono (by simp)).with ((setSrv_frame _ v).mono (by simp))
  rw [hx]
  rcases Nat.lt_or_ge s.srv.detCount 7 with h7 | h7
  · have hwatch := watchInterval_counts (s := pulseTaken (rise + high) q duty s) hr hlock
      (detect_counts (v := { s.srv with capDuty := duty }) hm hk hc h7)
    have hframe := hset { s.srv with capDuty := duty, detCount := s.srv.detCount + 1 }
    exact ⟨_, command_leaves hwatch hframe hi hp hl, hframe, fun _ => ⟨rfl, hc, rfl, hlock, rfl⟩, fun h => by omega⟩
  · have h8 : s.srv.detCount = 7 := by omega
    have hwatch := watchInterval_detects (s := pulseTaken (rise + high) q duty s) hr hlock
      (detect_eighth (v := { s.srv with capDuty := duty }) hm hk hc h8)
    obtain ⟨u, hu, huf, hcount, hcand, hspeed, horigin, hulock, hallow⟩ :=
      speedDetected (s := (pulseTaken (rise + high) q duty s).setSrv
        ({ s.srv with capDuty := duty } : Srv).detectorNone) (k := k) hr hst hk.symm
    have hframe := (hset _).with (huf.mono (by simp))
    have hnow : u.now = (pulseTaken (rise + high) q duty s).now := huf .now (by decide)
    exact ⟨u, command_leaves (hwatch.trans hu) hframe hi hp hl, hframe, fun h => by omega,
      fun _ => ⟨hcount, hcand, hspeed, horigin, hulock, hallow.trans (congrArg some hnow.symm)⟩⟩

/-- R47: the run-down ends. -/
theorem runDownEnd_exec {d : RunDown} (hd : s.pos.runDown = some d) :
    ∃ t, exec .runDownEnd s = .next t ∧ t.now = max s.now (d.since + 300000)
      ∧ t.pos = { s.pos with runDown := none } ∧ SameBut [.now, .pos] s t := by
  refine limit_setsPos hi hp hl ?_
  simp only [hd]
  rfl

end

/-- R47: no direction while TRC writes, nor in a row that moves no tape once no run-down goes on. -/
theorem pulseDir_none {s : State} {t : Nat} (h : s.trc.writing = true ∨ s.srv.moves = false ∧ (s.pos.runDown = none
      ∨ ∃ d, s.pos.runDown = some d ∧ d.since + 300000 < max s.now t)) : pulseDir (reachTime t s) = none := by
  unfold pulseDir
  rcases h with hw | ⟨hm, hd⟩
  · exact if_pos hw
  · split
    · rfl
    · refine (if_neg (by simpa [reachTime] using hm)).trans ?_
      rcases hd with hd | ⟨d, hd, hlate⟩
      · simp [reachTime, hd]
      · have hpast : ¬(reachTime t s).now ≤ d.since + Config.runDownLimit := Nat.not_le.mpr hlate
        have hd' : (reachTime t s).pos.runDown = some d := hd
        rw [hd']
        exact if_neg hpast

end Sys2Proof.Machine

open Sys2Proof Sys2Proof.Machine

/-- Settles O33: a pulse counts, enters the window, and completes a mark by the window's test or by the shorts after it; in
PLAY its interval counts for the candidate. -/
theorem readPulsesCountFrames : Obligations.ReadPulsesCountFrames := by
  refine ⟨?_, ?_, ?_, ?_, ?_⟩
  · intro s rise high hi hp hl hw hs hat hwin hk hc
    have hshort : ∀ d frame : Int, windowFull (s.pos.pulsed d frame rise high).window = false := fun d frame => by
      simp [windowFull, Pos.pulsed, Pos.pulseWindow, hwin]
    constructor
    · intro hr
      obtain ⟨t, hx, hnow, hfree, hq, hsame⟩ := cuePulse hi hp hl hw hs hat hc hr
      rw [forwardMark_short (hshort _ _)] at hq
      refine ⟨t, hx, hnow, ?_, ?_, ?_, ?_, ?_, ?_, ?_, hfree, hsame⟩
      iterate 7 · rw [hq]; rfl
    · intro hr
      obtain ⟨t, hx, hnow, hfree, hq, hsame⟩ := reviewPulse hi hp hl hw hs hat hc hr
      rw [backwardMark_short ((pulsed_pendingMark ..).trans hk) (hshort _ _)] at hq
      refine ⟨t, hx, hnow, ?_, ?_, ?_, ?_, ?_, ?_, ?_, hfree, hsame⟩
      iterate 7 · rw [hq]; rfl
  · intro s d hi hp hl hd
    exact runDownEnd_exec hi hp hl hd
  · intro s rise high hi hp hl h
    exact pulse_ignored hi hp hl (pulseDir_none h)
  · intro s rise high hi hp hl hw hs hat hc hrun long window longs full lowest
    have hcue := cuePulse hi hp hl hw hs hat hc
    have hreview := reviewPulse hi hp hl hw hs hat hc
    have hfull : ∀ d frame : Int, full frame → windowFull (s.pos.pulsed d frame rise high).window = true :=
      fun d frame h => (windowFull_iff _).mpr h
    have hshort : ∀ d frame : Int, ¬full frame → windowFull (s.pos.pulsed d frame rise high).window = false :=
      fun d frame h => Bool.eq_false_iff.mpr fun e => h ((windowFull_iff _).mp e)
    have hlow : ∀ d frame m : Int, lowest frame m → lowestLong (s.pos.pulsed d frame rise high).window = some m :=
      fun d frame m h => lowestLong_eq h.1 h.2
    refine ⟨?_, ?_, ?_, ?_, ?_⟩
    · intro m hr hf hm
      obtain ⟨t, hx, -, -, hq, hsame⟩ := hcue hr
      rw [forwardMark_full (hfull _ _ hf) (hlow _ _ _ hm)] at hq
      exact ⟨t, hx, by rw [hq]; rfl, by rw [hq], by rw [hq], hsame⟩
    · intro hr hf
      obtain ⟨t, hx, -, -, hq, hsame⟩ := hcue hr
      rw [forwardMark_short (hshort _ _ hf)] at hq
      exact ⟨t, hx, by rw [hq]; rfl, by rw [hq]; rfl, by rw [hq]; rfl, hsame⟩
    · intro m hr hk hf hm
      obtain ⟨t, hx, -, -, hq, hsame⟩ := hreview hr
      rw [backwardMark_full ((pulsed_pendingMark ..).trans hk) ((pulsed_runDown ..).trans hrun) (hfull _ _ hf)
        (hlow _ _ _ hm)] at hq
      exact ⟨t, hx, by rw [hq]; rfl, by rw [hq]; rfl, by rw [hq], by rw [hq]; rfl, hsame⟩
    · intro hr hk hf
      obtain ⟨t, hx, -, -, hq, hsame⟩ := hreview hr
      rw [backwardMark_short ((pulsed_pendingMark ..).trans hk) (hshort _ _ hf)] at hq
      exact ⟨t, hx, by rw [hq]; rfl, by rw [hq]; rfl, by rw [hq]; exact hk, by rw [hq]; rfl, hsame⟩
    · intro m shorts hr hk _
      obtain ⟨t, hx, -, -, hq, hsame⟩ := hreview hr
      have hk' := (pulsed_pendingMark (-1) s.pos.counter rise high).trans hk
      refine ⟨t, hx, by rw [hq, backwardMark_counter]; rfl, hsame, fun hlong => ?_, fun hlong h7 => ?_, fun hlong h7 => ?_⟩
      · rw [backwardMark_lowers hk' hlong] at hq
        exact ⟨by rw [hq], by rw [hq]; rfl, by rw [hq]; rfl⟩
      · rw [backwardMark_counts hk' hlong h7] at hq
        exact ⟨by rw [hq], by rw [hq]; rfl, by rw [hq]; rfl⟩
      · rw [backwardMark_reports hk' hlong h7] at hq
        exact ⟨by rw [hq], by rw [hq], by rw [hq]⟩
  · intro s rise high last k hi hp hl hw hs hat hlast hwin hr hst hlock _ hk hc hn hm
    exact pulse_detects hi hp hl hw hs hat hlast hwin hr hst hlock hk hc hn (matchSpeed_eq hm)

end

section
/-! LEMMA. The tape share (R62) and the display form of the counter (R53). -/

namespace Sys2Proof.Machine

/-! ### The tape share (R62) -/

/-- R62: the supply's share of 65536 lies below 65536, since the take-up reel has a share of its own. -/
theorem supplyShare_lt {qs qt : Nat} (h : 0 < qt) : qs * 65536 / (qs + qt) < 65536 := by
  rw [Nat.div_lt_iff_lt_mul (by omega)]
  omega

/-! ### The display form (R53) -/

/-- R53: the four fields of the display form, together, are the size of the counter. -/
theorem displayOf_together {fps : Nat} {c : Int} {h m s f : Nat} (hd : displayOf fps c = (h, m, s, f)) :
    c.natAbs = ((h * 60 + m) * 60 + s) * fps + f := by
  simp only [displayOf, Prod.mk.injEq] at hd
  obtain ⟨rfl, rfl, rfl, rfl⟩ := hd
  have hm : c.natAbs / (60 * fps) = c.natAbs / fps / 60 := by rw [Nat.mul_comm, Nat.div_div_eq_div_mul]
  have hh : c.natAbs / (3600 * fps) = c.natAbs / fps / 60 / 60 := by
    rw [Nat.div_div_eq_div_mul, Nat.div_div_eq_div_mul, Nat.mul_comm]
  have hq : (c.natAbs / fps / 60 / 60 * 60 + c.natAbs / fps / 60 % 60) * 60 + c.natAbs / fps % 60 = c.natAbs / fps := by
    omega
  rw [hm, hh, hq, Nat.div_add_mod']

/-- R51, R53: within the counter's limits the hours are one digit. -/
theorem displayOf_hours {fr30 : Bool} {c : Int} (h : c.natAbs ≤ (Config.counterLimit fr30).natAbs) :
    c.natAbs / (3600 * Config.fps fr30) ≤ 9 := by
  cases fr30
  · rw [show Config.counterLimit false = 899999 from rfl] at h
    rw [show Config.fps false = 25 from rfl]
    omega
  · rw [show Config.counterLimit true = 1079999 from rfl] at h
    rw [show Config.fps true = 30 from rfl]
    omega

theorem bitAt_eq (b : Bool) (place : Nat) : bitAt b place = b.toNat * 2 ^ place := by cases b <;> simp [bitAt]

/-- 11.3: a byte of a number below 16 and four flags shows the number in its low half, and the last flag as bit 7. -/
theorem flagByte_reads {n : Nat} (hn : n < 16) (a b c d : Bool) :
    (Byte.of (n + bitAt a 4 + bitAt b 5 + bitAt c 6 + bitAt d 7)).getLsbD 7 = d
    ∧ (Byte.of (n + bitAt a 4 + bitAt b 5 + bitAt c 6 + bitAt d 7)).toNat % 16 = n := by
  have ha := a.toNat_le
  have hb := b.toNat_le
  have hc := c.toNat_le
  have hd := d.toNat_le
  simp only [bitAt_eq, BitVec.getLsbD_ofNat, BitVec.toNat_ofNat, Nat.testBit_eq_decide_div_mod_eq]
  refine ⟨?_, by omega⟩
  have h7 : (n + a.toNat * 2 ^ 4 + b.toNat * 2 ^ 5 + c.toNat * 2 ^ 6 + d.toNat * 2 ^ 7) / 2 ^ 7 % 2 = d.toNat := by omega
  rw [h7]
  cases d <;> rfl

/-- 11.3: the COUNTER group, its display form given; the last mark follows. -/
theorem liveCounter_eq {fps h m s f : Nat} {p : Pos} (hd : displayOf fps p.counter = (h, m, s, f)) :
    ∃ mark, liveCounter fps p = signed24 p.counter
      ++ [Byte.of (h + bitAt p.capSource 4 + bitAt p.overrange 5 + bitAt p.unsure 6 + bitAt (p.counter < 0) 7),
          Byte.of m, Byte.of s, Byte.of f] ++ mark := by
  unfold liveCounter
  rw [hd]
  exact ⟨_, rfl⟩

end Sys2Proof.Machine

open Sys2Proof Sys2Proof.Machine

/-- Settles O35: the supply's share is bounded by the take-up reel's own, and the rest follows from the ranges. -/
theorem tapeShareFollowsStagesOneToThree : Obligations.TapeShareFollowsStagesOneToThree := by
  intro ts tt h hts hts' htt htt' hh qs qt fs
  have hqs : 1 * 1 ≤ qs ∧ qs ≤ 65535 * 65535 := ⟨Nat.mul_le_mul hts hts, Nat.mul_le_mul hts' hts'⟩
  have hqt : 1 * 1 ≤ qt ∧ qt ≤ 65535 * 65535 := ⟨Nat.mul_le_mul htt htt, Nat.mul_le_mul htt' htt'⟩
  have hfs : fs ≤ 65535 := Nat.min_le_left _ _
  refine ⟨by omega, by omega, by omega, by omega, supplyShare_lt (by omega), by omega, by omega, fun hle => ?_,
    fun hlt => ?_⟩
  · exact if_pos hle
  · exact if_neg (Nat.not_le.mpr hlt)

/-- Settles O36: the fields are quotients and remainders of the counter's size, and the group shows them byte by byte. -/
theorem displayFormReadsTheCounter : Obligations.DisplayFormReadsTheCounter := by
  refine ⟨?_, rfl, by decide, by decide⟩
  intro fr30 p h m s f hlimit hd
  have htogether := displayOf_together hd
  have hours := displayOf_hours hlimit
  obtain ⟨mark, hlive⟩ := liveCounter_eq hd
  simp only [displayOf, Prod.mk.injEq] at hd
  obtain ⟨hh, hm, hs, hf⟩ := hd
  refine ⟨hf.symm, hs.symm, hm.symm, hh.symm, by omega, htogether, ?_, ?_, ?_, ?_, ?_⟩
  iterate 4 · rw [hlive]; rfl
  · intro b hb
    rw [hlive] at hb
    obtain rfl : Byte.of (h + bitAt p.capSource 4 + bitAt p.overrange 5 + bitAt p.unsure 6 + bitAt (p.counter < 0) 7) = b :=
      Option.some.inj hb
    exact flagByte_reads (by omega) _ _ _ _

end

section
/-! SUPPORT. What the tuner's own work leaves: the events it posted, the groups it handed, and the parts it touched. The
statements about the tuner end through `Handing.command` and `Handing.answered`. -/

namespace Sys2Proof.Machine

/-! ### Frames, and what a posted event leaves to the tuner -/

theorem setTun_frame (s : State) (x : Tun) : SameBut [.tun] s (s.setTun x) := by
  intro p hp; cases p <;> simp_all [Part.same]
theorem setLds_frame (s : State) (x : Lds) : SameBut [.lds] s (s.setLds x) := by
  intro p hp; cases p <;> simp_all [Part.same]

theorem closeCycle_frame (s : State) : SameBut [.mpath] s (closeCycle s) := by
  intro p hp; cases p <;> simp_all [Part.same, closeCycle]

@[simp] theorem State.setTun_setTun (s : State) (x y : Tun) : (s.setTun x).setTun y = s.setTun y := rfl

@[simp] theorem post_tun (e : Event) (s : State) : (post e s).tun = s.tun := post_frame e s .tun (by decide)
@[simp] theorem post_lds (e : Event) (s : State) : (post e s).lds = s.lds := post_frame e s .lds (by decide)
@[simp] theorem post_settings (e : Event) (s : State) : (post e s).mpath.settings = s.mpath.settings := by
  unfold post appendEvent offerRqu
  split
  · rfl
  · split <;> dsimp only <;> split <;> rfl

@[simp] theorem atRequest_tun (code : Byte) (s : State) : (atRequest code s).tun = s.tun := rfl

@[simp] theorem enqueue_lds (g : WriteGroup) (s : State) : (enqueue g s).lds = s.lds := rfl
@[simp] theorem enqueue_pins (g : WriteGroup) (s : State) : (enqueue g s).pins = s.pins := rfl

/-! ### The work -/

/-- How far an event's own work has come: it has posted `evs`, handed `groups`, those of its events among them, and touched
only `ps` beside. Unlike `Worked` it tells SCH nothing. -/
structure Handing (ps : List Part) (evs : List Event) (groups : List WriteGroup) (s u : State) : Prop where
  frame : SameBut ([.rqu, .mpath] ++ ps) s u
  rqu : u.rqu = { s.rqu with count := s.rqu.count + evs.length, newest := evs.getLastD s.rqu.newest }
  mpath : u.mpath = { s.mpath with queue := s.mpath.queue ++ groups }

section
variable {ps : List Part} {evs : List Event} {groups : List WriteGroup} {s u : State}

theorem Handing.start (ps : List Part) (s : State) : Handing ps [] [] s s where
  frame := .refl _ s
  rqu := rfl
  mpath := by simp

/-- Work on the listed parts alone. -/
theorem Handing.on {qs : List Part} {t : State} (h : Handing ps evs groups s u) (hf : SameBut qs u t)
    (hq : ∀ p ∈ qs, p ∈ ps := by decide) (ho : OwnParts ps := by decide) : Handing ps evs groups s t where
  frame := h.frame.with ((hf.mono hq).mono fun _ hp => List.mem_append_right _ hp)
  rqu := (hf.mono hq .rqu ho.1).trans h.rqu
  mpath := (hf.mono hq .mpath ho.2.1).trans h.mpath

theorem Handing.setTun (h : Handing ps evs groups s u) (x : Tun) (hq : .tun ∈ ps := by decide)
    (ho : OwnParts ps := by decide) : Handing ps evs groups s (u.setTun x) :=
  h.on (setTun_frame u x) (by simpa using hq) ho

theorem Handing.setLds (h : Handing ps evs groups s u) (x : Lds) (hq : .lds ∈ ps := by decide)
    (ho : OwnParts ps := by decide) : Handing ps evs groups s (u.setLds x) :=
  h.on (setLds_frame u x) (by simpa using hq) ho

/-- R162: a group is handed. -/
theorem Handing.hand (h : Handing ps evs groups s u) (g : WriteGroup) :
    Handing ps evs (groups ++ [g]) s (enqueue g u) where
  frame := h.frame.with ((enqueue_frame g u).mono (by simp))
  rqu := h.rqu
  mpath := by rw [enqueue_mpath, h.mpath, List.append_assoc]

/-- R171: an event is posted while the queues have room. -/
theorem Handing.post (h : Handing ps evs groups s u) (e : Event) (hov : s.rqu.overflow = none)
    (hc : s.rqu.count + evs.length ≤ 30) (hq : s.mpath.queue.length + groups.length < 4)
    (ho : OwnParts ps := by decide) :
    Handing ps (evs ++ [e]) (groups ++ [eventGroupAt s evs.length e]) s (post e u) := by
  have hck : u.clk = s.clk := h.frame .clk (by simpa using ho.2.2.2.1)
  have hp := post_room (e := e) (s := u) (by simp [h.rqu, hov]) (by simpa [h.rqu] using hc) (by simpa [h.mpath] using hq)
  have hg : eventGroupAt u 0 e = eventGroupAt s evs.length e := by simp [eventGroupAt, h.rqu, hck]
  exact
    { frame := h.frame.with ((post_frame e u).mono (by simp))
      rqu := by simp [hp, h.rqu, Nat.add_assoc]
      mpath := by simp [hp, h.mpath, hg] }

/-- R171: the first event, posted where there is room for it, when nothing waited to drain. -/
theorem Handing.posts {n : Nat} (h : Handing ps [] groups s u) (e : Event) (hr : EventRoom (n + 1) s)
    (hq : s.mpath.queue = []) (hg : groups.length < 4 := by simp) (ho : OwnParts ps := by decide) :
    Handing ps [e] (groups ++ [eventGroupAt s 0 e]) s (Machine.post e u) := by
  have := hr.count
  exact h.post e hr.overflow (by simp only [List.length_nil]; omega) (by simpa [hq] using hg) ho

/-! ### The end of the event -/

/-- A command that did its own work, when nothing waited to drain. -/
theorem Handing.command {f : State → State} (h : Handing ps evs groups s u) (hf : f s = u) (hi : ScheduleIdle s)
    (hd : Drained s) (hp : PowerSteady s) (hps : .pwr ∉ ps := by decide) (ho : OwnParts ps := by decide) :
    ∃ t, Machine.command f s = .next t ∧ t.tun = u.tun ∧ t.lds = u.lds ∧ t.pins = u.pins ∧ Appended evs s t
      ∧ Handed groups s t ∧ SameBut (ps ++ [.mpath, .rqu]) s t := by
  obtain ⟨-, -, hun, -, hsc⟩ := ho
  have hpwr : u.pwr = s.pwr := h.frame .pwr (by simpa using hps)
  have hsch : u.sch = s.sch := h.frame .sch (by simpa using hsc)
  obtain ⟨hnot, htak⟩ : u.notices = s.notices ∧ u.taken = s.taken := h.frame .untold (by simpa using hun)
  refine ⟨ended (hostRuns s) u, ?_, rfl, rfl, rfl, ?_, ?_, ?_⟩
  · exact command_ends hf hp.powered (.inl (hnot.trans hi.notices)) (by rw [hsch]; exact hi.run)
      (by rw [hsch]; exact hi.queue) (by rw [hpwr]; exact hp.notStopping) (by rw [hpwr]; exact hp.notResetHold)
  · rw [Appended, ended_rqu, h.rqu]; rfl
  · rw [Handed, ended_mpath, h.mpath]; simp [openLevel, openAfter, h.mpath, hd.queue]
  · have hf' := ended_frame (ran := hostRuns s) ⟨hi.notices, hi.taken⟩ h.frame (by simp) (by simp)
    exact hf'.mono fun p hp' => by
      have := List.mem_of_mem_erase hp'
      simp only [List.cons_append, List.nil_append, List.mem_cons, List.mem_append, List.not_mem_nil, or_false] at this ⊢
      tauto

/-- R168, R169: a request of the host whose owner's work is known: it is answered, and the result is handed last. -/
theorem Handing.answered {code : Byte} {a : Answer} (h : Handing ps evs groups (atRequest code s) u)
    (ha : ownerActs code (atRequest code s) = some (u, a)) (hh : HostRuns s) (hi : ScheduleIdle s)
    (hlen : groups.length < 4 := by simp) (hps : .pwr ∉ ps ∧ .mem ∉ ps := by decide)
    (ho : OwnParts ps := by decide) :
    ∃ t, hostCycle (hostWriteAt offCommand code) s = .next t ∧ t.tun = u.tun ∧ Answered code evs groups a s t
      ∧ SameBut (ps ++ [.mem, .mpath, .rqu]) s t := by
  obtain ⟨hpw, hme⟩ := hps
  obtain ⟨-, -, hun, -, hsc⟩ := ho
  have hpwr : u.pwr = s.pwr := h.frame .pwr (by simpa using hpw)
  have hmem : u.mem = (atRequest code s).mem := h.frame .mem (by simpa using hme)
  have hrun : u.sch.run = none := by rw [h.frame .sch (by simpa using hsc)]; exact hi.run
  have hnot : u.notices = [] := (h.frame .untold (by simpa using hun)).1.trans hi.notices
  have hphase : u.pwr.phase = .running := by rw [hpwr]; exact hh.phase
  have hqu : u.mpath.queue = groups := by rw [h.mpath]; exact congrArg (· ++ groups) hh.drained.queue
  have hreq : request code (atRequest code s) = enqueue (resultGroup a s.rqu.tag) u := by
    have hcancel : cancelOff u = u := by simp [cancelOff, hphase]
    simp only [request, ha, hcancel, ite_self]
    rw [settle_idle _ hnot hrun, makeResult_room (by rwa [hqu]), atRequest_rqu]
  have hdone := h.hand (resultGroup a s.rqu.tag)
  refine ⟨closeCycle (ended true (enqueue (resultGroup a s.rqu.tag) u)), ?_, rfl, ⟨⟨⟨?_, ?_⟩, ?_⟩, ?_⟩, ?_⟩
  · rw [hostCycle_request hh, hreq, settle_idle (s := enqueue _ u) _ hnot hrun,
      finish_steady (by simp [enqueue, hphase]) (by simp [enqueue, hphase])]
    rfl
  · show u.mem.read _ = _
    rw [hmem]
    exact Memory.read_write_same hh.ram _ _
  · intro x hx
    show u.mem.read x = _
    rw [hmem]
    exact Memory.read_write_other _ _ hx
  · have hclosed (v : State) : (closeCycle (ended true v)).mpath =
        { v.mpath with urgent := urgentLevel v, hwait := urgentLevel v, cycleOpen := false } := rfl
    have hnone : (atRequest code s).mpath.queue = [] := hh.drained.queue
    rw [hclosed, hdone.mpath, hnone]
    rfl
  · have hlevel (v : State) : (closeCycle (ended true v)).rqu = { v.rqu with irq := irqLevel v } := rfl
    rw [Appended, hlevel, hdone.rqu]
    rfl
  · have hall := (atRequest_frame code s).trans
      (ended_frame (ran := true) ⟨hi.notices, hi.taken⟩ hdone.frame (by simp) (by simp))
    refine (hall.trans (closeCycle_frame _)).mono fun p hp => ?_
    have hp' : (p ∈ [Part.mem, .mpath] ∨ p ∈ [Part.rqu, .mpath] ++ ps) ∨ p ∈ [Part.mpath] :=
      (List.mem_append.mp hp).imp_left fun h => (List.mem_append.mp h).imp_right List.mem_of_mem_erase
    simp only [List.mem_append, List.mem_cons, List.not_mem_nil, or_false] at hp' ⊢
    tauto

end

end Sys2Proof.Machine
end

section
/-! SUPPORT. The operations of TUN (4.2 to 4.9), an equation per case: words, tuner states, tunes, samples, and writes. -/

namespace Sys2Proof.Machine

/-! ### Ranges -/

theorem dividerInRange_iff {x : Int} : dividerInRange x = true ↔ 1600 ≤ x ∧ x ≤ 18000 := by
  rw [dividerInRange, Bool.and_eq_true, decide_eq_true_eq, decide_eq_true_eq]
  rfl

theorem offsetInRange_iff {x : Int} : offsetInRange x = true ↔ -24 ≤ x ∧ x ≤ 24 := by simp [offsetInRange]

theorem stepAllowed_iff {t : Tun} {d : Int} : stepAllowed t d = true ↔
    (-24 ≤ t.offset + d ∧ t.offset + d ≤ 24) ∧ 1600 ≤ (t.shownBase : Int) + t.offset + d
      ∧ (t.shownBase : Int) + t.offset + d ≤ 18000 := by
  simp only [stepAllowed, Bool.and_eq_true, offsetInRange_iff, dividerInRange_iff]

/-! ### The working divider and its word (4.1, R67, R68) -/

section
variable {t : Tun}

theorem shownBase_none (h : t.scan = none) : t.shownBase = t.base := by simp [Tun.shownBase, h]
theorem shownBase_some {k : Scan} (h : t.scan = some k) : t.shownBase = k.base := by simp [Tun.shownBase, h]

theorem working_cast (hb : 0 < t.shownBase) (h : 0 ≤ (t.shownBase : Int) + t.offset) :
    (t.working : Int) = t.shownBase + t.offset := by
  rw [Tun.working, if_neg (by omega)]
  exact Int.toNat_of_nonneg h

theorem working_centred (h : t.offset = 0) : t.working = t.shownBase := by
  unfold Tun.working
  split
  · omega
  · simp [h]

/-- R68: the tuner with the word of its working divider being sent. -/
def Tun.sent (ifUnits : Nat) (t : Tun) : Tun :=
  { t with band := bandOf ifUnits t.working, sending := some ⟨t.working, bandOf ifUnits t.working⟩ }

@[simp] theorem sent_presets (ifUnits : Nat) : (t.sent ifUnits).presets = t.presets := rfl

theorem sent_divider {ifUnits : Nat} (hb : 0 < t.shownBase) (h : 0 ≤ (t.shownBase : Int) + t.offset) :
    ((t.sent ifUnits).sending.map fun w => (w.divider : Int)) = some ((t.shownBase : Int) + t.offset) :=
  congrArg some (working_cast hb h)

/-- The word of a tuner whose offset has moved by `d`. -/
theorem sent_divider_step {ifUnits : Nat} {u : Tun} {d : Int} (hu : u.shownBase = t.base) (ho : u.offset = t.offset + d)
    (hb : 0 < t.base) (h : 0 ≤ (t.base : Int) + t.offset + d) :
    ((u.sent ifUnits).sending.map fun w => (w.divider : Int)) = some ((t.base : Int) + t.offset + d) := by
  rw [sent_divider (by omega) (by omega), hu, ho, Int.add_assoc]

theorem sent_divider_centred {ifUnits : Nat} (h : t.offset = 0) :
    ((t.sent ifUnits).sending.map fun w => w.divider) = some t.shownBase := congrArg some (working_centred h)

end

section
variable {s : State}

/-- R68: with the main rail, and no word being sent, a word is sent at once. -/
theorem sendWord_idle (hm : s.pins.mainGood = true) (hs : s.tun.sending = none) :
    sendWord s = s.setTun (s.tun.sent (setIf s.mpath.settings)) := by
  simp [sendWord, hm, hs, Tun.sent]

/-! ### Tuner states (R90) -/

/-- R90: a change of state to or from neither side of LOCKED leaves LDS alone. -/
theorem tunEnter_outside {st : TunerState} (h : s.tun.st ≠ .locked) (h' : st ≠ .locked) :
    tunEnter st s = s.setTun { s.tun with st } := by simp [tunEnter, h, h']

theorem tunEnter_leaves {st : TunerState} (h : s.tun.st = .locked) (h' : st ≠ .locked) :
    tunEnter st s = (s.setTun { s.tun with st }).setLds s.lds.unlocked := by simp [tunEnter, h, h']

theorem tunEnter_locks (h : s.tun.st ≠ .locked) :
    tunEnter .locked s = (s.setTun { s.tun with st := .locked }).setLds s.lds.locked := by simp [tunEnter, h]

/-! ### Tunes (R69, R70) -/

theorem closeScan_none (h : s.tun.scan = none) (code : Byte) : closeScan code s = s := by simp [closeScan, h]

/-- R70: with the main rail, and no word being sent, SETTLING begins and the word is sent. -/
theorem settleOrHold_sends (hm : s.pins.mainGood = true) (hl : s.tun.st ≠ .locked) (hs : s.tun.sending = none) :
    settleOrHold s = s.setTun ({ s.tun with st := .settling }.sent (setIf s.mpath.settings)) := by
  rw [settleOrHold, if_pos hm, tunEnter_outside hl (by decide), sendWord_idle (by exact hm) (by exact hs)]
  rfl

/-- R69: a TUNE that nothing refuses is taken. -/
theorem requestTune_taken {k : TuneKind} (hk : tuneKindOf s.rqu.arg0 = some k) (ho : s.tun.owner = .panel)
    (hr : tuneRefused k s.rqu.arg12 false s = none) :
    requestTune s =
      (takeTune k s.rqu.arg12 s.rqu.tag s, answer (if k == .line then .done else .accepted)) := by
  have ho' : (s.tun.owner == .schedule) = false := by rw [ho]; rfl
  simp only [requestTune, hk, ho', hr]

/-- R70: with no scan to end, the tune is taken at once. -/
theorem takeTune_scanless (hs : s.tun.scan = none) (k : TuneKind) (n : Nat) (tag : Byte) :
    takeTune k n tag s = match k with
      | .preset => tunePreset n tag s
      | .direct => tuneDirect n tag s
      | .line => tuneLine s := by
  cases k <;> simp only [takeTune, closeScan_none hs]

/-! ### Samples of an acquisition (R71, R73) -/

theorem lastSample_early {r : Reading} (h : s.tun.samples < 40) : lastSample r s = s := by
  rw [lastSample, if_neg (by omega)]

/-- R71: a reading off centre, before the last sample, steps the offset and sends the word. -/
theorem afcSample_steps {r : Reading} {d : Int} (hr : readingStep r = some d) (ha : stepAllowed s.tun d = true)
    (hn : s.tun.samples < 39) (hm : s.pins.mainGood = true) (hs : s.tun.sending = none) :
    afcSample r s = s.setTun ({ s.tun with
      samples := s.tun.samples + 1, offset := s.tun.offset + d, centre := 0 }.sent (setIf s.mpath.settings)) := by
  have ha' : stepAllowed { s.tun with samples := s.tun.samples + 1 } d = true := ha
  simp only [afcSample, hr, ha', if_true]
  rw [sendWord_idle (by exact hm) (by exact hs)]
  exact lastSample_early (by show s.tun.samples + 1 < 40; omega)

/-- R71: a first centred reading with sync, before the last sample, is counted. -/
theorem afcSample_first (hc : s.tun.centre = 0) (hn : s.tun.samples < 39) :
    afcSample ⟨false, false, true⟩ s = s.setTun { s.tun with samples := s.tun.samples + 1, centre := 1 } := by
  have h : afcSample ⟨false, false, true⟩ s = lastSample ⟨false, false, true⟩
      (s.setTun { s.tun with samples := s.tun.samples + 1, centre := 1 }) := by simp [afcSample, readingStep, hc]
  rw [h]
  exact lastSample_early (by show s.tun.samples + 1 < 40; omega)

/-- R73: the second one locks. -/
theorem afcSample_second (hc : s.tun.centre = 1) : afcSample ⟨false, false, true⟩ s =
    acquireLock (s.setTun { s.tun with samples := s.tun.samples + 1, centre := 2 }) := by
  simp [afcSample, readingStep, hc]

/-- R71: a reading without sync and off neither way clears the count. -/
theorem afcSample_silent (hn : s.tun.samples < 39) :
    afcSample ⟨false, false, false⟩ s = s.setTun { s.tun with samples := s.tun.samples + 1, centre := 0 } := by
  have h : afcSample ⟨false, false, false⟩ s = lastSample ⟨false, false, false⟩
      (s.setTun { s.tun with samples := s.tun.samples + 1, centre := 0 }) := by simp [afcSample, readingStep]
  rw [h]
  exact lastSample_early (by show s.tun.samples + 1 < 40; omega)

/-- The tuner as an acquisition begins. -/
def Tun.acquiring (t : Tun) : Tun := { t.clearCounts with st := .acquire }

theorem startAcquire_outside (h : s.tun.st ≠ .locked) (r : Reading) :
    startAcquire r s = afcSample r (s.setTun s.tun.acquiring) := by
  rw [startAcquire, tunEnter_outside (by exact h) (by decide)]
  rfl

theorem startAcquire_locked (h : s.tun.st = .locked) (r : Reading) :
    startAcquire r s = afcSample r ((s.setTun s.tun.acquiring).setLds s.lds.unlocked) := by
  rw [startAcquire, tunEnter_leaves (by exact h) (by decide)]
  rfl

/-- R71: an acquisition outside LOCKED whose first reading steps the offset. -/
theorem startAcquire_steps {r : Reading} {d : Int} (hl : s.tun.st ≠ .locked) (hr : readingStep r = some d)
    (ha : stepAllowed s.tun d = true) (hm : s.pins.mainGood = true) (hs : s.tun.sending = none) :
    startAcquire r s = s.setTun ({ s.tun.acquiring with
      samples := 1, offset := s.tun.offset + d }.sent (setIf s.mpath.settings)) := by
  rw [startAcquire_outside hl, afcSample_steps (s := s.setTun s.tun.acquiring) hr ha (Nat.zero_lt_succ 38) hm hs]
  rfl

/-- R71, R75, R80: an acquisition outside LOCKED whose first reading is centred and has sync. -/
theorem startAcquire_centred (hl : s.tun.st ≠ .locked) :
    startAcquire ⟨false, false, true⟩ s = s.setTun { s.tun.acquiring with samples := 1, centre := 1 } := by
  rw [startAcquire_outside hl, afcSample_first (s := s.setTun s.tun.acquiring) rfl (Nat.zero_lt_succ 38)]
  rfl

/-- R74: an acquisition out of LOCKED whose first reading has no sync. -/
theorem startAcquire_silent (hl : s.tun.st = .locked) : startAcquire ⟨false, false, false⟩ s =
    (s.setTun { s.tun.acquiring with samples := 1 }).setLds s.lds.unlocked := by
  rw [startAcquire_locked hl, afcSample_silent (s := (s.setTun s.tun.acquiring).setLds _) (Nat.zero_lt_succ 38)]
  rfl

/-- R77: only a PRESET tuning writes its offset to the table. -/
theorem writeOffset_direct (h : s.tun.kind = .direct) : writeOffset s = s := by simp [writeOffset, h]

/-- R73: a DIRECT tuning outside a scan locks. -/
theorem acquireLock_direct (hs : s.tun.scan = none) (hk : s.tun.kind = .direct) (hl : s.tun.st ≠ .locked) :
    acquireLock s = post (evTune 1 s.tun.tag s.tun.preset s.tun.offset)
      ((s.setTun { s.tun with st := .locked, offCentre := 0, syncLoss := 0, quiet := false }).setLds s.lds.locked) := by
  simp only [acquireLock, hs]
  rw [tunEnter_locks (by exact hl), writeOffset_direct (by exact hk)]
  rfl

/-! ### Scans (R80, R81, R84) -/

/-- R84: the end of a scan without a held write. -/
theorem closeScan_some {k : Scan} (h : s.tun.scan = some k) (hh : s.tun.held = []) (code : Byte) :
    closeScan code s = post (evScanEnd code k.tag) (s.setTun { s.tun with scan := none, base := k.base }) := by
  simp [closeScan, h, dropStation, hh]

/-- The tuner of a scan that stands at a new base divider, in STEP. -/
def Tun.stepTo (k : Scan) (n : Nat) (t : Tun) : Tun :=
  { t with st := .settling, offset := 0, scan := some { k with base := n, phase := .step, station := none } }

/-- R80: a scan steps outside LOCKED. -/
theorem scanTo_outside {k : Scan} {n : Nat} (hk : s.tun.scan = some k) (hn : 1600 ≤ n ∧ n ≤ 18000)
    (hl : s.tun.st ≠ .locked) (hm : s.pins.mainGood = true) (hs : s.tun.sending = none) :
    scanTo n s = s.setTun ((s.tun.stepTo k n).sent (setIf s.mpath.settings)) := by
  have hr : dividerInRange n = true := dividerInRange_iff.mpr (by omega)
  simp only [scanTo, hk, hr, if_true]
  rw [tunEnter_outside (by exact hl) (by decide), sendWord_idle (by exact hm) (by exact hs)]
  rfl

/-- R80: a scan steps out of LOCKED. -/
theorem scanTo_locked {k : Scan} {n : Nat} (hk : s.tun.scan = some k) (hn : 1600 ≤ n ∧ n ≤ 18000)
    (hl : s.tun.st = .locked) (hm : s.pins.mainGood = true) (hs : s.tun.sending = none) :
    scanTo n s = (s.setTun ((s.tun.stepTo k n).sent (setIf s.mpath.settings))).setLds s.lds.unlocked := by
  have hr : dividerInRange n = true := dividerInRange_iff.mpr (by omega)
  simp only [scanTo, hk, hr, if_true]
  rw [tunEnter_leaves (by exact hl) (by decide), sendWord_idle (by exact hm) (by exact hs)]
  rfl

/-! ### Writes to the table (R77, R83, R85) -/

theorem queueHasRoom_nil (h : s.mpath.queue = []) : queueHasRoom s = true := by simp [queueHasRoom, h]

/-- R77: a write is handed at once when nothing waits to drain. -/
theorem offerTun_drained (h : s.mpath.queue = []) (x : TunHeld) : offerTun x s = handTun x s := by
  rw [offerTun, if_pos (queueHasRoom_nil h)]

/-- R77: the offset of a tuned preset whose byte differs is written at once when nothing waits. -/
theorem writeOffset_preset {n : Nat} (hk : s.tun.kind = .preset) (hp : s.tun.preset = some n)
    (ho : presetOccupied s.tun.presets n = true) (hd : presetOffset s.tun.presets n ≠ s.tun.offset)
    (hh : s.tun.held = []) (hq : s.mpath.queue = []) :
    writeOffset s = handTun (.offset n (signedByte s.tun.offset)) s := by
  have hd' : (presetOffset s.tun.presets n != s.tun.offset) = true := by simpa using hd
  simp only [writeOffset, hk, hp, ho, hd', Bool.and_self, if_true, offerOffset, hh, List.any_nil]
  exact offerTun_drained hq _

/-- R83: a scan's station that finds a free preset. -/
theorem handTun_station {k : Scan} {n : Nat} {x : Station} (hk : s.tun.scan = some k)
    (hn : freePreset s.tun.presets (setScanStart s.mpath.settings) = some n) :
    handTun (.station x) s = scanResume ((x.divider : Int) + x.offset)
      (post (evScanFound n k.tag ((x.divider : Int) + x.offset).toNat)
        ((enqueue (mkGroup (offPresets + 16 * n) (presetRecord x.divider x.offset x.net x.name)) s).setTun
          { s.tun with
            presets := s.tun.presets.writeAll (16 * n) (presetRecord x.divider x.offset x.net x.name) })) := by
  simp only [handTun, hk, hn]

end

end Sys2Proof.Machine
end

section
/-! LEMMA. TUNE (R69, R70, R76) and the words on the synthesiser link (R68). -/

namespace Sys2Proof.Machine

section
variable {s : State}

/-- The tuner as a TUNE by divider is taken. -/
def Tun.direct (n : Nat) (tag : Byte) (t : Tun) : Tun :=
  { t.clearCounts with
    st := .settling, kind := .direct, preset := none, base := n, offset := 0, net := 0, hold := false, quiet := false,
    tag, scan := none }

/-- R70: with the main rail, and no word being sent, a tune by divider settles, and its word is sent. -/
theorem tuneDirect_sends (hm : s.pins.mainGood = true) (hl : s.tun.st ≠ .locked) (hs : s.tun.sending = none) (n : Nat)
    (tag : Byte) : tuneDirect n tag s = s.setTun ((s.tun.direct n tag).sent (setIf s.mpath.settings)) := by
  rw [tuneDirect, settleOrHold_sends (by exact hm) (by exact hl) (by exact hs)]
  rfl

/-- The tuner as a TUNE by preset is taken. -/
def Tun.ofPreset (n : Nat) (tag : Byte) (t : Tun) : Tun :=
  { t.clearCounts with
    st := .settling, kind := .preset, preset := some n, base := presetDivider t.presets n,
    offset := presetOffset t.presets n, net := presetNet t.presets n, hold := false, quiet := false, tag, scan := none }

/-- R70: a tune by preset settles likewise. -/
theorem tunePreset_sends (hm : s.pins.mainGood = true) (hl : s.tun.st ≠ .locked) (hs : s.tun.sending = none) (n : Nat)
    (tag : Byte) : tunePreset n tag s = s.setTun ((s.tun.ofPreset n tag).sent (setIf s.mpath.settings)) := by
  rw [tunePreset, settleOrHold_sends (by exact hm) (by exact hl) (by exact hs)]
  rfl

/-- The offset of a preset is a signed byte. -/
theorem presetOffset_lt (m : Memory) (n : Nat) : presetOffset m n < 128 := BitVec.toInt_lt (x := presetOffsetByte m n)

/-- R81: the word of a tune by preset is that of the preset's tuned divider. -/
theorem ofPreset_divider {t : Tun} {n ifUnits : Nat} {tag : Byte} (h : 1600 ≤ presetTuned t.presets n) :
    (((t.ofPreset n tag).sent ifUnits).sending.map fun w => (w.divider : Int)) = some (presetTuned t.presets n) := by
  have hoff := presetOffset_lt t.presets n
  have hbase : (t.ofPreset n tag).shownBase = presetDivider t.presets n := rfl
  have hoffset : (t.ofPreset n tag).offset = presetOffset t.presets n := rfl
  unfold presetTuned at h ⊢
  rw [sent_divider (by omega) (by omega), hbase, hoffset]

/-- R69: a divider in the range is not refused. -/
theorem tuneRefused_direct {n : Nat} (hlo : 1600 ≤ n) (hhi : n ≤ 18000) : tuneRefused .direct n false s = none := by
  have hr : dividerInRange n = true := dividerInRange_iff.mpr (by omega)
  simp [tuneRefused, hr]

/-- R69: an occupied preset with a tuned divider in the range is not refused. -/
theorem tuneRefused_preset {n : Nat} (hlo : 1 ≤ n) (hhi : n ≤ 99) (ho : presetOccupied s.tun.presets n = true)
    (hr : 1600 ≤ presetTuned s.tun.presets n ∧ presetTuned s.tun.presets n ≤ 18000) :
    tuneRefused .preset n false s = none := by
  simp [tuneRefused, hlo, hhi, ho, dividerInRange_iff.mpr hr]

/-- R69: a TUNE that nothing refuses, with no scan to end and nothing else at work, is answered where its taking leaves the
tuner. -/
theorem tune_answered {k : TuneKind} {x : Tun} (hh : HostRuns s) (hi : ScheduleIdle s)
    (hk : tuneKindOf s.rqu.arg0 = some k) (ho : s.tun.owner = .panel) (hr : tuneRefused k s.rqu.arg12 false s = none)
    (hx : takeTune k s.rqu.arg12 s.rqu.tag (atRequest 0x21 s) = (atRequest 0x21 s).setTun x) :
    ∃ t, exec .tune s = .next t ∧ t.tun = x ∧ Answered 0x21 [] [] (answer (if k == .line then .done else .accepted)) s t
      ∧ SameBut [.tun, .mem, .mpath, .rqu] s t := by
  have hreq := congrArg some (requestTune_taken (s := atRequest 0x21 s) hk ho hr)
  rw [atRequest_rqu, hx] at hreq
  exact ((Handing.start [.tun] (atRequest 0x21 s)).setTun x).answered hreq hh hi

end

/-! ### The synthesiser link (R68) -/

theorem bitsMsbFirst_length (b : Byte) : (bitsMsbFirst b).length = 8 := by simp [bitsMsbFirst]

theorem bitsMsbFirst_getElem? (b : Byte) {i : Nat} (h : i < 8) : (bitsMsbFirst b)[i]? = some (b.getLsbD (7 - i)) := by
  simp [bitsMsbFirst, h]

/-- The bits of a list of bytes: bit `i` is that of byte `i / 8`. -/
theorem flatMap_bitsMsbFirst_getElem? (bs : List Byte) (i : Nat) :
    (bs.flatMap bitsMsbFirst)[i]? = (bs[i / 8]?).map fun b => b.getLsbD (7 - i % 8) := by
  induction bs generalizing i with
  | nil => simp
  | cons b rest ih =>
    rw [List.flatMap_cons]
    by_cases h : i < 8
    · rw [List.getElem?_append_left (by simpa [bitsMsbFirst_length] using h), bitsMsbFirst_getElem? b h,
        Nat.div_eq_of_lt h, Nat.mod_eq_of_lt h]
      rfl
    · obtain ⟨j, rfl⟩ : ∃ j, i = j + 8 := ⟨i - 8, by omega⟩
      rw [List.getElem?_append_right (by simp [bitsMsbFirst_length]), bitsMsbFirst_length, Nat.add_sub_cancel, ih,
        Nat.add_div_right _ (by decide), Nat.add_mod_right, List.getElem?_cons_succ]

end Sys2Proof.Machine

open Sys2Proof Sys2Proof.Machine

/-- Settles O37: each kind of TUNE is taken, and settles with its word, or stands at once. -/
theorem tuneTakesItsSource : Obligations.TuneTakesItsSource := by
  intro s hh hi hm ho hscan hsend hst
  have htake := takeTune_scanless (s := atRequest 0x21 s) hscan
  refine ⟨fun ha hlo hhi => ?_, fun ha hlo hhi hocc htlo hthi => ?_, fun ha => ?_⟩
  · obtain ⟨t, hx, htun, hans, hsame⟩ := tune_answered hh hi (k := .direct) (by rw [ha]; rfl) ho
      (tuneRefused_direct hlo hhi) ((htake ..).trans (tuneDirect_sends (s := atRequest 0x21 s) hm hst hsend _ _))
    have hw : ((atRequest 0x21 s).tun.direct s.rqu.arg12 s.rqu.tag).working = s.rqu.arg12 := working_centred rfl
    refine ⟨t, hx, ?_⟩
    rw [htun]
    refine ⟨rfl, rfl, rfl, rfl, rfl, rfl, rfl, rfl, ?_, rfl, hans, hsame⟩
    simp only [Tun.sent, hw, atRequest_settings]
  · obtain ⟨t, hx, htun, hans, hsame⟩ := tune_answered hh hi (k := .preset) (by rw [ha]; rfl) ho
      (tuneRefused_preset hlo hhi hocc ⟨htlo, hthi⟩)
      ((htake ..).trans (tunePreset_sends (s := atRequest 0x21 s) hm hst hsend _ _))
    refine ⟨t, hx, ?_⟩
    rw [htun]
    exact ⟨rfl, rfl, rfl, rfl, rfl, rfl, rfl, rfl, ofPreset_divider htlo, hans, hsame⟩
  · obtain ⟨t, hx, htun, hans, hsame⟩ := tune_answered hh hi (k := .line) (by rw [ha]; rfl) ho rfl
      ((htake ..).trans (tunEnter_outside (s := (atRequest 0x21 s).setTun _) (by exact hst) (by decide)))
    refine ⟨t, hx, htun.trans ?_, hans, hsame⟩
    rw [← hscan]
    rfl

/-- Settles O38: a bit of the link is a bit of its byte, and a word's end changes the tuner alone. -/
theorem synthesiserWordsAreSent : Obligations.SynthesiserWordsAreSent := by
  refine ⟨fun s w hw => ?_, fun s w hi hp hl hw => ?_⟩
  · have hbits : linkBits s = w.bytes.flatMap bitsMsbFirst := by simp only [linkBits, hw]
    refine ⟨by simp [tenLevel, hw], ?_, ?_, fun i _ => ?_⟩
    · simp [hbits, SynthWord.bytes, le16, bitsMsbFirst_length]
    · rfl
    · rw [hbits, flatMap_bitsMsbFirst_getElem?]
  · have hf : wordEnd s = s.setTun { s.tun with sending := s.tun.waiting, waiting := none } := by simp only [wordEnd, hw]
    exact ⟨_, command_leaves hf (setTun_frame s _) hi hp hl, rfl, setTun_frame s _⟩

end

section
/-! LEMMA. The acquisition (R71, R73, R90), tracking in LOCKED (R74), and the watch in NO_SIGNAL (R75). -/

namespace Sys2Proof.Machine

section
variable {s : State}

@[simp] theorem sawReading_tun (r : Reading) (s : State) : (sawReading r s).tun = s.tun := rfl

theorem sawReading_frame (r : Reading) (s : State) : SameBut [.pins] s (sawReading r s) := setPins_frame s _

/-- A sample that changes TUN alone. -/
theorem sampled_frame (r : Reading) (s : State) (x : Tun) : SameBut [.tun, .pins] s ((sawReading r s).setTun x) :=
  ((sawReading_frame r s).mono (by simp)).with ((setTun_frame _ x).mono (by simp))

/-- A sample that changes TUN alone, and posts nothing. -/
theorem sample_leaves {f : State → State} {r : Reading} {x : Tun} (hf : f s = (sawReading r s).setTun x)
    (hi : ScheduleIdle s) (hp : PowerSteady s) (hl : LinesStand s) :
    ∃ t, command f s = .next t ∧ t.tun = x ∧ t.pins = (sawReading r s).pins ∧ SameBut [.tun, .pins] s t :=
  ⟨_, command_leaves hf (sampled_frame r s x) hi hp hl, rfl, rfl, sampled_frame r s x⟩

theorem linkIdle_none (hs : s.tun.sending = none) (hw : s.tun.waiting = none) : s.tun.linkIdle = true := by
  simp [Tun.linkIdle, hs, hw]

/-! ### Tracking (R74) -/

theorem trackEvent_locked (h : s.tun.st = .locked) (r : Reading) :
    trackEvent r s = trackSample r (sawReading r s) := by simp [trackEvent, h]

/-- R74: a tracking step of a DIRECT tuning sends its word, and writes nothing. -/
theorem trackStep_direct {r : Reading} {d : Int} (hr : readingStep r = some d) (ha : stepAllowed s.tun d = true)
    (hk : s.tun.kind = .direct) (hm : s.pins.mainGood = true) (hs : s.tun.sending = none) :
    trackStep r s = s.setTun ({ s.tun with offset := s.tun.offset + d }.sent (setIf s.mpath.settings)) := by
  simp only [trackStep, hr, ha, if_true]
  rw [sendWord_idle (by exact hm) (by exact hs)]
  exact writeOffset_direct hk

/-- R74: the third off-centre sample in succession, with AFT_LO alone, steps the offset down. -/
theorem trackSample_third (hh : s.tun.hold = false) (ho : s.tun.offCentre = 2)
    (ha : stepAllowed s.tun (-1) = true) (hk : s.tun.kind = .direct) (hm : s.pins.mainGood = true)
    (hs : s.tun.sending = none) : trackSample ⟨false, true, true⟩ s = s.setTun ({ s.tun with
      offset := s.tun.offset + -1, syncLoss := 0, offCentre := 0 }.sent (setIf s.mpath.settings)) := by
  have h : trackSample ⟨false, true, true⟩ s =
      trackStep ⟨false, true, true⟩ (s.setTun { s.tun with syncLoss := 0, offCentre := 0 }) := by
    simp [trackSample, hh, ho]
  exact h.trans (trackStep_direct (s := s.setTun _) (d := -1) rfl ha hk hm hs)

/-- The tuner once a sample without sync has begun its re-acquisition. -/
def Tun.reacquiring (t : Tun) : Tun :=
  { t with
    st := .acquire, samples := 1, centre := 0, offCentre := 0, syncLoss := 0, tag := 0, quiet := false }

/-- R74: outside a scan TUNE LOST is posted, and an acquisition begins with the sample. -/
theorem signalLost_scanless (hs : s.tun.scan = none) (hl : s.tun.st = .locked) :
    signalLost ⟨false, false, false⟩ s =
      ((post (evTune 4 0 s.tun.preset s.tun.offset) s).setTun s.tun.reacquiring).setLds s.lds.unlocked := by
  simp only [signalLost, hs]
  rw [startAcquire_silent (by simpa using hl)]
  simp only [post_tun, post_lds, State.setTun_tun, State.setTun_lds]
  rfl

/-- R74: the second sample in succession without sync loses the signal. -/
theorem trackSample_lost (h : s.tun.syncLoss = 1) (hs : s.tun.scan = none) (hl : s.tun.st = .locked) :
    trackSample ⟨false, false, false⟩ s =
      ((post (evTune 4 0 s.tun.preset s.tun.offset) (s.setTun { s.tun with syncLoss := 2 })).setTun
        s.tun.reacquiring).setLds s.lds.unlocked := by
  have h' : trackSample ⟨false, false, false⟩ s =
      signalLost ⟨false, false, false⟩ (s.setTun { s.tun with syncLoss := 2 }) := by simp [trackSample, h]
  exact h'.trans (signalLost_scanless (s := s.setTun _) hs hl)

end

end Sys2Proof.Machine

open Sys2Proof Sys2Proof.Machine

/-- Settles O39: the first sample steps, the second centred one locks. -/
theorem acquisitionStepsAndLocks : Obligations.AcquisitionStepsAndLocks := by
  constructor
  · intro s sync hi hp hl hm hst hscan hsend hwait hk holo hohi hblo hbhi hb
    have hbase : s.tun.shownBase = s.tun.base := shownBase_none hscan
    have hstep : stepAllowed s.tun 1 = true := stepAllowed_iff.mpr (by omega)
    have hf : settleEnd ⟨true, false, sync⟩ s = startAcquire ⟨true, false, sync⟩ (sawReading ⟨true, false, sync⟩ s) := by
      simp [settleEnd, hst, hscan, linkIdle_none hsend hwait]
    obtain ⟨t, hx, htun, hpins, hsame⟩ := sample_leaves
      (hf.trans (startAcquire_steps (s := sawReading _ s) (by simp [hst]) rfl hstep hm hsend)) hi hp hl
    refine ⟨t, hx, ?_⟩
    rw [htun]
    exact ⟨rfl, rfl, rfl, rfl, sent_divider_step hbase rfl hb (by omega), rfl, hk, rfl, hpins, hsame⟩
  · intro s hi hp hd hr hst hscan hk hpre hsend hwait hc
    have hf : afcEvent ⟨false, false, true⟩ s = afcSample ⟨false, false, true⟩ (sawReading ⟨false, false, true⟩ s) := by
      simp [afcEvent, hst, linkIdle_none hsend hwait]
    rw [afcSample_second (s := sawReading _ s) hc,
      acquireLock_direct (s := (sawReading _ s).setTun _) (by exact hscan) (by exact hk) (by simp [hst])] at hf
    have hwork := ((((Handing.start [.tun, .lds, .pins] s).on (sawReading_frame ⟨false, false, true⟩ s)).setTun
      { s.tun with
        st := .locked, samples := s.tun.samples + 1, centre := 2, offCentre := 0, syncLoss := 0, quiet := false }).setLds
      s.lds.locked).posts (evTune 1 s.tun.tag s.tun.preset s.tun.offset) hr hd.queue
    obtain ⟨t, hx, htun, hlds, hpins, happ, hhand, hsame⟩ := hwork.command hf hi hd hp
    rw [hpre] at happ hhand
    exact ⟨t, hx, htun.trans (post_tun _ _), hlds.trans (post_lds _ _), hpins.trans (post_pins _ _), ⟨happ, hhand⟩, hsame⟩

/-- Settles O40: one case of `trackSample` each, and the watch's acquisition begins with a centred sample. -/
theorem trackingAndNoSignalWatch : Obligations.TrackingAndNoSignalWatch := by
  refine ⟨fun s hi hp hl hst => ?_, fun s hi hp hl hst hh ho hscan hk hm hsend holo hohi hblo hbhi hb => ?_,
    fun s hi hp hd hr hst hloss hscan hk _ => ?_, fun s hi hp hl hst hk hscan => ⟨?_, ?_⟩⟩
  · refine sample_leaves (r := ⟨false, false, true⟩) ?_ hi hp hl
    rw [trackEvent_locked hst]
    rfl
  · have hbase : s.tun.shownBase = s.tun.base := shownBase_none hscan
    have hstep : stepAllowed s.tun (-1) = true := stepAllowed_iff.mpr (by omega)
    obtain ⟨t, hx, htun, -, hsame⟩ := sample_leaves
      ((trackEvent_locked hst _).trans (trackSample_third (s := sawReading _ s) hh ho hstep hk hm hsend)) hi hp hl
    refine ⟨t, hx, ?_⟩
    rw [htun]
    exact ⟨rfl, rfl, rfl, hst, sent_divider_step hbase rfl hb (by omega), hsame⟩
  · have hwork := ((((((Handing.start [.tun, .lds, .pins] s).on (sawReading_frame ⟨false, false, false⟩ s)).setTun
      { s.tun with syncLoss := 2 }).posts (evTune 4 0 s.tun.preset s.tun.offset) hr hd.queue).setTun
      s.tun.reacquiring).setLds s.lds.unlocked)
    obtain ⟨t, hx, htun, hlds, hpins, happ, hhand, hsame⟩ :=
      hwork.command ((trackEvent_locked hst _).trans (trackSample_lost (s := sawReading _ s) hloss hscan hst)) hi hd hp
    refine ⟨t, hx, ?_, ?_, ?_, hpins.trans (post_pins _ _), ⟨happ, hhand⟩, hsame⟩
    · rw [htun]; rfl
    · rw [hlds]; rfl
    · rw [hlds]; rfl
  · have hf : watchEvent ⟨false, false, false⟩ s = sawReading ⟨false, false, false⟩ s := by simp [watchEvent, hst, hk]
    exact ⟨_, command_leaves hf (sawReading_frame _ s) hi hp hl, rfl, rfl, sawReading_frame _ s⟩
  · have hf : watchEvent ⟨false, false, true⟩ s = startAcquire ⟨false, false, true⟩
        ((sawReading ⟨false, false, true⟩ s).setTun { s.tun with quiet := true, tag := 0 }) := by
      simp [watchEvent, hst, hk]
    obtain ⟨t, hx, htun, -, hsame⟩ := sample_leaves
      (hf.trans (startAcquire_centred (s := (sawReading _ s).setTun _) (by simp [hst]))) hi hp hl
    exact ⟨t, hx, htun, hsame⟩

end

section
/-! LEMMA. FINE and STORE (R76, R77, R85, R198), and the station scan (R79 to R84). -/

namespace Sys2Proof.Machine

section
variable {s : State}

/-! ### FINE and STORE -/

/-- The tuner after a FINE that moves the offset. -/
def Tun.fineBy (d : Int) (t : Tun) : Tun := { t with hold := true, offset := t.offset + d }

/-- R76: FINE up in a locked preset is taken. -/
theorem requestFine_up {n : Nat} (ha : s.rqu.arg0 = 0x01) (ho : s.tun.owner = .panel) (hs : s.tun.scan = none)
    (hk : s.tun.kind = .preset) (hp : s.tun.preset = some n) (hl : s.tun.st = .locked)
    (hocc : presetOccupied s.tun.presets n = true) : requestFine s = (takeFine 1 s, answer .done) := by
  simp [requestFine, ha, ho, hs, hk, hp, hl, hocc]

/-- R76, R77: FINE sends the word, and hands the new offset of the preset. -/
theorem takeFine_writes {d : Int} {n : Nat} (hst : stepAllowed s.tun d = true) (hm : s.pins.mainGood = true)
    (hsend : s.tun.sending = none) (hk : s.tun.kind = .preset) (hp : s.tun.preset = some n)
    (hocc : presetOccupied s.tun.presets n = true) (hd : presetOffset s.tun.presets n ≠ s.tun.offset + d)
    (hh : s.tun.held = []) (hq : s.mpath.queue = []) :
    takeFine d s = handTun (.offset n (signedByte (s.tun.offset + d)))
      (s.setTun ((s.tun.fineBy d).sent (setIf s.mpath.settings))) := by
  have hst' : stepAllowed { s.tun with hold := true } d = true := hst
  simp only [takeFine, State.setTun_tun, hst', if_true, State.setTun_setTun]
  rw [sendWord_idle (by exact hm) (by exact hsend)]
  exact writeOffset_preset (s := s.setTun ((s.tun.fineBy d).sent (setIf s.mpath.settings))) hk hp hocc hd hh hq

/-- R198: the bytes of a record without network or name. -/
theorem presetRecord_noName (divider : Nat) (offset : Int) : presetRecord divider offset 0 noName =
    [0x01, Byte.of divider, Byte.of (divider / 256), signedByte offset, 0, 0,
      0x20, 0x20, 0x20, 0x20, 0x20, 0, 0, 0, 0, 0] := rfl

/-- R85: the record of a DIRECT tuning has neither. -/
theorem storeRecord_direct {t : Tun} (h : t.kind = .direct) :
    storeRecord t = presetRecord t.base t.offset 0 noName := by simp [storeRecord, h]

/-- The tuner once a DIRECT tuning is stored as preset `n`. -/
def Tun.storedAs (n : Nat) (t : Tun) : Tun :=
  { t with
    kind := .preset, preset := some n,
    presets := t.presets.writeAll (16 * n) (presetRecord t.base t.offset 0 noName) }

@[simp] theorem storedAs_presets (n : Nat) (t : Tun) :
    (t.storedAs n).presets = t.presets.writeAll (16 * n) (presetRecord t.base t.offset 0 noName) := by
  simp only [Tun.storedAs]

/-- R85: STORE of a locked DIRECT tuning. -/
theorem requestStore_direct {n : Nat} (ha : s.rqu.arg0.toNat = n) (hlo : 1 ≤ n) (hhi : n ≤ 99)
    (ho : s.tun.owner = .panel) (hs : s.tun.scan = none) (hk : s.tun.kind = .direct) (hl : s.tun.st = .locked)
    (hq : s.mpath.queue = []) : requestStore s =
      ((enqueue (mkGroup (offPresets + 16 * n) (presetRecord s.tun.base s.tun.offset 0 noName)) s).setTun
        (s.tun.storedAs n), answer .done) := by
  simp [requestStore, ha, hlo, hhi, ho, hs, hk, hl, offerTun_drained hq, storeRecord_direct hk, handTun, Tun.storedAs]

/-! ### The scan's start and its end (R79, R84) -/

/-- The tuner as a SCAN is taken. -/
def Tun.scanning (dir : ScanDir) (base : Nat) (tag : Byte) (t : Tun) : Tun :=
  { t with
    st := .settling, kind := .scan, preset := none, net := 0, offset := 0, quiet := false, tag,
    scan := some { dir, tag, base, phase := .step, station := none } }

/-- R79: with the main rail, and no word being sent, a SCAN sends its first word. -/
theorem takeScan_sends (hm : s.pins.mainGood = true) (hl : s.tun.st ≠ .locked) (hs : s.tun.sending = none)
    (dir : ScanDir) (base : Nat) :
    takeScan dir base s = s.setTun ((s.tun.scanning dir base s.rqu.tag).sent (setIf s.mpath.settings)) := by
  simp only [takeScan, State.setTun_pins, hm, if_true]
  rw [tunEnter_outside (by exact hl) (by decide), sendWord_idle (by exact hm) (by exact hs)]
  rfl

/-- R79: SCAN UP from the bottom is taken at the lowest divider. -/
theorem requestScan_bottom (ha : s.rqu.arg0 = 0) (hv : s.rqu.arg12 = 0) (ho : s.tun.owner = .panel)
    (hs : s.tun.scan = none) (hf : (freePreset s.tun.presets (setScanStart s.mpath.settings)).isSome) :
    requestScan s = (takeScan .up 1600 s, answer .accepted) := by
  obtain ⟨n, hn⟩ := Option.isSome_iff_exists.mp hf
  simp [requestScan, ha, hv, ho, hs, hn, Config.dividerLow]

/-- R84: a scan that stands at its base divider ends, and a DIRECT tune of that divider follows. -/
theorem endScan_sends {k : Scan} (hk : s.tun.scan = some k) (hoff : s.tun.offset = 0) (hh : s.tun.held = [])
    (hm : s.pins.mainGood = true) (hl : s.tun.st ≠ .locked) (hs : s.tun.sending = none) (code : Byte) :
    endScan code s = (post (evScanEnd code k.tag) (s.setTun { s.tun with scan := none, base := k.base })).setTun
      (({ s.tun with scan := none, base := k.base }.direct k.base 0).sent (setIf s.mpath.settings)) := by
  have hn : s.tun.working = k.base := (working_centred hoff).trans (shownBase_some hk)
  rw [endScan, closeScan_some hk hh, hn, tuneDirect_sends (by simpa using hm) (by simpa using hl) (by simpa using hs)]
  simp only [post_tun, post_settings, State.setTun_tun, State.setTun_mpath]

/-! ### The scan's steps and its stations (R80, R82, R83) -/

@[simp] theorem stepTo_presets (k : Scan) (n : Nat) (t : Tun) : (t.stepTo k n).presets = t.presets := rfl

/-- R80: the next step UP. -/
theorem scanNext_up {k : Scan} (hk : s.tun.scan = some k) (hd : k.dir = .up) :
    scanNext s = scanTo ((k.base + 4 : Nat) : Int) s := by
  simp only [scanNext, hk, hd, ScanDir.by, Nat.cast_add, Nat.cast_ofNat]

/-- R81: a scan UP resumes 16 further. -/
theorem scanResume_up {k : Scan} (hk : s.tun.scan = some k) (hd : k.dir = .up) (l : Int) :
    scanResume l s = scanTo (l + 16) s := by
  simp only [scanResume, hk, hd, ScanDir.by]

/-- The station of a scan's dwell with no NAME. -/
def dwellStation (k : Scan) (t : Tun) : Station := ⟨k.base, t.offset, 0, noName⟩

/-- R82: a scan in STORE with its station. -/
def Scan.storing (x : Station) (k : Scan) : Scan := { k with phase := .store, station := some x }

/-- The tuner once its scan's station stands in the table at preset `n`. -/
def Tun.stored (k : Scan) (n : Nat) (t : Tun) : Tun :=
  { t with
    scan := some (k.storing (dwellStation k t))
    presets := t.presets.writeAll (16 * n) (presetRecord k.base t.offset 0 noName) }

@[simp] theorem stored_presets (k : Scan) (n : Nat) (t : Tun) :
    (t.stored k n).presets = t.presets.writeAll (16 * n) (presetRecord k.base t.offset 0 noName) := by
  simp only [Tun.stored]

/-- R82, R83: the station is handed and announced. -/
def stationStored (k : Scan) (n : Nat) (s : State) : State :=
  post (evScanFound n k.tag ((k.base : Int) + s.tun.offset).toNat)
    ((enqueue (mkGroup (offPresets + 16 * n) (presetRecord k.base s.tun.offset 0 noName)) s).setTun (s.tun.stored k n))

/-- R82: the end of a dwell, when nothing waits to drain and a preset is free. -/
theorem dwellEnd_stores {k : Scan} {n : Nat} (hk : s.tun.scan = some k) (hph : k.phase = .dwell)
    (hq : s.mpath.queue = []) (hn : freePreset s.tun.presets (setScanStart s.mpath.settings) = some n) :
    dwellEnd s = scanResume ((k.base : Int) + s.tun.offset) (stationStored k n s) := by
  have hd : inDwell s = true := by simp [inDwell, hk, hph]
  have hm : makeStation 0 noName s = offerTun (.station (dwellStation k s.tun))
      (s.setTun { s.tun with scan := some (k.storing (dwellStation k s.tun)) }) := by simp only [makeStation, hk]; rfl
  rw [dwellEnd, if_pos hd, hm, offerTun_drained (by exact hq),
    handTun_station (k := k.storing (dwellStation k s.tun)) (n := n) rfl (by exact hn)]
  rfl

@[simp] theorem stationStored_tun (k : Scan) (n : Nat) (s : State) : (stationStored k n s).tun = s.tun.stored k n := by
  simp [stationStored]
@[simp] theorem stationStored_lds (k : Scan) (n : Nat) (s : State) : (stationStored k n s).lds = s.lds := by
  simp [stationStored]
@[simp] theorem stationStored_pins (k : Scan) (n : Nat) (s : State) : (stationStored k n s).pins = s.pins := by
  simp [stationStored]

/-- The dwell's end as work of its own: the record is handed before the event's group. -/
theorem stationStored_handing {k : Scan} {n : Nat} (hd : Drained s) (hr : EventRoom 1 s) :
    Handing [.tun, .lds] [evScanFound n k.tag ((k.base : Int) + s.tun.offset).toNat]
      (mkGroup (offPresets + 16 * n) (presetRecord k.base s.tun.offset 0 noName)
        :: eventGroups s [evScanFound n k.tag ((k.base : Int) + s.tun.offset).toNat]) s (stationStored k n s) :=
  (((Handing.start [.tun, .lds] s).hand _).setTun _).posts _ hr hd.queue

end

end Sys2Proof.Machine

open Sys2Proof Sys2Proof.Machine

/-- Settles O41: each request hands its one group, and the shadow takes it in the same event. -/
theorem fineAndStoreWriteThePreset : Obligations.FineAndStoreWriteThePreset := by
  constructor
  · intro s n hh hi ha ho hscan hk hp _ _ hl hocc hm hsend hheld hb holo hohi hblo hbhi hd
    have hbase : s.tun.shownBase = s.tun.base := shownBase_none hscan
    have hstep : stepAllowed s.tun 1 = true := stepAllowed_iff.mpr (by omega)
    have hreq := congrArg some (requestFine_up (s := atRequest 0x25 s) ha ho hscan hk hp hl hocc)
    rw [takeFine_writes (s := atRequest 0x25 s) hstep hm hsend hk hp hocc hd hheld hh.drained.queue] at hreq
    obtain ⟨t, hx, htun, hans, hsame⟩ :=
      ((((Handing.start [.tun] (atRequest 0x25 s)).setTun _).hand _).setTun _).answered hreq hh hi
    refine ⟨t, hx, ?_⟩
    rw [htun]
    exact ⟨rfl, rfl, hl, sent_divider_step hbase rfl hb (by omega), rfl, hans, hsame⟩
  · intro s n hh hi ha hlo hhi ho hscan hk hl
    have hreq := congrArg some (requestStore_direct (s := atRequest 0x24 s) ha hlo hhi ho hscan hk hl hh.drained.queue)
    obtain ⟨t, hx, htun, hans, hsame⟩ :=
      (((Handing.start [.tun] (atRequest 0x24 s)).hand _).setTun _).answered hreq hh hi
    refine ⟨t, hx, ?_⟩
    rw [htun, ← presetRecord_noName]
    exact ⟨rfl, rfl, hl, rfl, rfl, by simp, hans, hsame⟩

/-- Settles O42: a scan from the bottom sends the word of the lowest divider; its end is that of `endScan_sends`. -/
theorem scanStartsAndStops : Obligations.ScanStartsAndStops := by
  constructor
  · intro s hh hi ha hv ho hscan hm hsend hl hfree
    have hreq := congrArg some (requestScan_bottom (s := atRequest 0x22 s) ha hv ho hscan hfree)
    rw [takeScan_sends (s := atRequest 0x22 s) hm hl hsend] at hreq
    obtain ⟨t, hx, htun, hans, hsame⟩ := ((Handing.start [.tun] (atRequest 0x22 s)).setTun _).answered hreq hh hi
    refine ⟨t, hx, ?_⟩
    rw [htun]
    exact ⟨rfl, rfl, rfl, rfl, rfl, sent_divider_centred rfl, hans, hsame⟩
  · intro s k hh hi hr hk _ _ hoff hheld hm hsend hst
    have hreq : ownerActs 0x23 (atRequest 0x23 s) = some (endScan 0xF3 (atRequest 0x23 s), answer .done) :=
      congrArg some (if_pos (by rw [atRequest_tun, hk]; rfl))
    rw [endScan_sends (s := atRequest 0x23 s) hk hoff hheld hm (by rw [atRequest_tun, hst]; decide) hsend] at hreq
    obtain ⟨t, hx, htun, hans, hsame⟩ := ((((Handing.start [.tun] (atRequest 0x23 s)).setTun _).posts (n := 0) _
      ⟨hr.overflow, hr.count⟩ hh.drained.queue).setTun _).answered hreq hh hi
    refine ⟨t, hx, ?_⟩
    rw [htun]
    exact ⟨rfl, rfl, rfl, rfl, rfl, rfl, sent_divider_centred rfl, hans, hsame⟩

/-- Settles O43: a step test steps or acquires; a dwell's end stores the station, and the scan steps out of LOCKED. -/
theorem scanStepsAndStoresStations : Obligations.ScanStepsAndStoresStations := by
  constructor
  · intro s k hi hp hl hk hph hd hlo hhi hsend hwait hst hm
    have hidle := linkIdle_none hsend hwait
    constructor
    · have hf : stepTest ⟨false, false, false⟩ s = scanNext (sawReading ⟨false, false, false⟩ s) := by
        simp [stepTest, hk, hph, hidle]
      obtain ⟨t, hx, htun, -, hsame⟩ := sample_leaves (hf.trans ((scanNext_up (s := sawReading _ s) hk hd).trans
        (scanTo_outside (s := sawReading _ s) hk (by omega) (by simp [hst]) hm hsend))) hi hp hl
      refine ⟨t, hx, ?_⟩
      rw [htun]
      exact ⟨rfl, rfl, rfl, sent_divider_centred rfl, hsame⟩
    · have hf : stepTest ⟨false, false, true⟩ s = startAcquire ⟨false, false, true⟩
          ((sawReading ⟨false, false, true⟩ s).setTun { s.tun with scan := some { k with phase := .acquire } }) := by
        simp [stepTest, hk, hph, hidle]
      obtain ⟨t, hx, htun, -, hsame⟩ := sample_leaves
        (hf.trans (startAcquire_centred (s := (sawReading _ s).setTun _) (by simp [hst]))) hi hp hl
      refine ⟨t, hx, ?_⟩
      rw [htun]
      exact ⟨rfl, rfl, rfl, rfl, hsame⟩
  · intro s k n hi hp hd hr hk hph hdir hlo hhi holo hohi hsend hst hm hheld hn
    have hf := dwellEnd_stores hk hph hd.queue hn
    have hto : (k.base : Int) + s.tun.offset + 16 = (((k.base : Int) + s.tun.offset + 16).toNat : Int) := by omega
    rw [scanResume_up (k := k.storing (dwellStation k s.tun)) (by rw [stationStored_tun]; rfl) hdir, hto,
      scanTo_locked (k := k.storing (dwellStation k s.tun)) (by rw [stationStored_tun]; rfl) (by omega)
        (by rw [stationStored_tun]; exact hst) (by rw [stationStored_pins]; exact hm)
        (by rw [stationStored_tun]; exact hsend), stationStored_tun, stationStored_lds] at hf
    obtain ⟨t, hx, htun, hlds, -, happ, hhand, hsame⟩ :=
      (((stationStored_handing hd hr).setTun _).setLds _).command hf hi hd hp
    refine ⟨t, hx, ?_⟩
    rw [htun, hlds]
    exact ⟨rfl, rfl, rfl, rfl, by simp, happ, by rw [hhand]; rfl, hsame⟩

end

section
/-! SUPPORT. The operations of LDS (chapter 5), an equation per case, and what each keeps of the slicer and of the FIFO: R90,
R91, R93, R94, R100 to R103. -/

namespace Sys2Proof.Machine

/-! ### Packets that are alike (R100) -/

theorem Packet.alike_comm (p q : Packet) : p.alike q = q.alike p := by
  cases p <;> cases q <;> simp [Packet.alike, eq_comm]

/-- Packets that are alike are alike to the same others. -/
theorem Packet.alike_congr {p q : Packet} (h : p.alike q = true) (r : Packet) : p.alike r = q.alike r := by
  cases p <;> cases q <;> cases r <;> simp_all [Packet.alike]

theorem Packet.alike_label_isLabel {p q : Packet} (h : p.alike q = true) : p.isLabel = q.isLabel := by
  cases p <;> cases q <;> simp_all [Packet.alike, Packet.isLabel]

/-! ### What a FIFO holds (R100) -/

/-- R100: a FIFO of at most 8 packets, no two alike. -/
structure FifoFits (ps : List Packet) : Prop where
  length : ps.length ≤ 8
  apart : ps.Pairwise fun p q => p.alike q = false

theorem FifoFits.nil : FifoFits [] := ⟨by simp, .nil⟩

theorem FifoFits.sublist {ps qs : List Packet} (h : FifoFits ps) (hs : List.Sublist qs ps) : FifoFits qs :=
  ⟨hs.length_le.trans h.length, h.apart.sublist hs⟩

/-- R100: a packet takes the place of the one that is alike to it. -/
theorem FifoFits.replace {ps : List Packet} (h : FifoFits ps) (p : Packet) :
    FifoFits (ps.map fun q => if q.alike p then p else q) := by
  refine ⟨by simpa using h.length, List.pairwise_map.2 (h.apart.imp fun {q r} hqr => ?_)⟩
  by_cases hq : q.alike p = true <;> by_cases hr : r.alike p = true
  · rw [Packet.alike_congr hq, Packet.alike_comm, hr] at hqr
    cases hqr
  · rw [if_pos hq, if_neg hr, Packet.alike_comm]
    simpa using hr
  · rw [if_neg hq, if_pos hr]
    simpa using hq
  · rw [if_neg hq, if_neg hr]
    exact hqr

/-- R100: a packet alike to none is appended while there is room. -/
theorem FifoFits.append {ps : List Packet} (h : FifoFits ps) {p : Packet} (hp : (ps.any fun q => q.alike p) = false)
    (hl : ps.length < 8) : FifoFits (ps ++ [p]) := by
  refine ⟨by rw [List.length_append]; simpa using hl, List.pairwise_append.2 ⟨h.apart, List.pairwise_singleton _ _, ?_⟩⟩
  intro q hq r hr
  rw [List.mem_singleton.1 hr]
  simpa using List.any_eq_false.1 hp q hq

theorem takeOldest_sublist (is : Packet → Bool) (ps : List Packet) : List.Sublist (takeOldest is ps).2 ps := by
  induction ps with
  | nil => exact .slnil
  | cons p rest ih =>
    unfold takeOldest
    split
    · exact List.sublist_cons_self p rest
    · exact ih.cons_cons p

/-! ### The rules of LDS alone -/

/-- R90, R100, R103: the FIFO fits, of the takes that are due at most all find nothing, and an OFF slicer holds nothing. -/
structure Lds.Wf (l : Lds) : Prop where
  fits : FifoFits l.fifo
  clkVoid : l.clkVoid ≤ l.clkTakes
  schVoid : l.schVoid ≤ l.schTakes
  tunVoid : l.tunVoid ≤ l.tunTakes
  off : l.st = .off → l.fifo = [] ∧ l.asm = .idle

theorem Lds.Wf.ne_off {l : Lds} (h : l.Wf) (ha : l.asm ≠ .idle) : l.st ≠ .off := fun hs => ha (h.off hs).2

theorem Lds.start_wf : Lds.start.Wf := ⟨.nil, le_rfl, le_rfl, le_rfl, fun _ => ⟨rfl, rfl⟩⟩

/-- R90, R103: the slicer is turned OFF, and the FIFO emptied, whatever it held. -/
theorem Lds.unlocked_wf (l : Lds) : l.unlocked.Wf := ⟨.nil, le_rfl, le_rfl, le_rfl, fun _ => ⟨rfl, rfl⟩⟩

section
variable {l : Lds} (h : l.Wf)
include h

/-- R90: the slicer leaves OFF. -/
theorem Lds.Wf.locked : l.locked.Wf := { h with off := nofun }

theorem Lds.Wf.fieldStart : l.fieldStart.Wf := by
  unfold Lds.fieldStart
  split
  · exact h
  · exact { h with off := nofun }

theorem Lds.Wf.lineStart : l.lineStart.Wf := by
  unfold Lds.lineStart
  split
  · rename_i hst
    exact { h with off := fun hoff => by cases hst.symm.trans hoff }
  · exact h

theorem Lds.Wf.frame (bits : List Bool) : (l.frame bits).Wf := by
  unfold Lds.frame
  split
  · rename_i hasm
    have hoff := h.ne_off (by rw [hasm]; decide)
    split
    · exact h
    · split
      · exact h
      · split_ifs
        · exact h
        · exact { h with off := fun hs => absurd hs hoff }
        · exact { h with off := fun hs => absurd hs hoff }
  · exact h

theorem Lds.Wf.setFifo {ps : List Packet} (hp : FifoFits ps) (hoff : l.st ≠ .off) : Lds.Wf { l with fifo := ps } :=
  { h with fits := hp, off := fun hs => absurd hs hoff }

theorem Lds.Wf.sublist {ps : List Packet} (hp : List.Sublist ps l.fifo) : Lds.Wf { l with fifo := ps } :=
  { h with
    fits := h.fits.sublist hp
    off := fun hs => ⟨List.sublist_nil.1 ((h.off hs).1 ▸ hp), (h.off hs).2⟩ }

theorem Lds.Wf.dropNames (dwell : Bool) : (l.dropNames dwell).Wf := by
  unfold Lds.dropNames
  split
  · exact h
  · exact h.sublist List.filter_sublist

theorem Lds.Wf.due (dwell : Bool) (p : Packet) : (l.due dwell p).Wf := by
  unfold Lds.due
  split
  · exact { h with clkVoid := h.clkVoid.trans (Nat.le_succ _) }
  · exact { h with schVoid := h.schVoid.trans (Nat.le_succ _) }
  · split
    · exact { h with tunVoid := h.tunVoid.trans (Nat.le_succ _) }
    · exact h

theorem Lds.Wf.join (dwell : Bool) (p : Packet) (hoff : l.st ≠ .off) : (l.join dwell p).Wf := by
  unfold Lds.join
  split_ifs with ha hl
  · exact h.setFifo (h.fits.replace p) hoff
  · exact (h.setFifo (h.fits.append (by simpa using ha) hl) hoff).due dwell p
  · exact h.dropNames dwell

theorem Lds.Wf.collect (dwell : Bool) (bytes : List (BitVec 9)) : (l.collect dwell bytes).Wf := by
  unfold Lds.collect
  split
  · rename_i hasm
    have hoff := h.ne_off (by rw [hasm]; decide)
    have hdone (all : List (BitVec 9)) : Lds.Wf { l with asm := .done, bytes := all } :=
      { h with off := fun hs => absurd hs hoff }
    dsimp only
    split
    · exact { h with off := h.off }
    · split
      · exact hdone _
      · exact (hdone _).join dwell _ hoff
  · exact h

theorem Lds.Wf.takeEntry (is : Packet → Bool) (dwell void : Bool) : (l.takeEntry is dwell void).1.Wf := by
  unfold Lds.takeEntry
  split
  · exact h
  · dsimp only
    split
    · exact h
    · exact (h.sublist (takeOldest_sublist is l.fifo)).dropNames dwell

theorem Lds.Wf.takeTime (dwell : Bool) : (l.takeTime dwell).1.Wf :=
  have ht : Lds.Wf { l with clkTakes := l.clkTakes - 1, clkVoid := l.clkVoid - 1 } :=
    { h with clkVoid := Nat.sub_le_sub_right h.clkVoid 1 }
  ht.takeEntry _ _ _

theorem Lds.Wf.takeLabel (dwell : Bool) : (l.takeLabel dwell).1.Wf :=
  have ht : Lds.Wf { l with schTakes := l.schTakes - 1, schVoid := l.schVoid - 1 } :=
    { h with schVoid := Nat.sub_le_sub_right h.schVoid 1 }
  ht.takeEntry _ _ _

theorem Lds.Wf.takeName : l.takeName.1.Wf :=
  have ht : Lds.Wf { l with tunTakes := l.tunTakes - 1, tunVoid := l.tunVoid - 1 } :=
    { h with tunVoid := Nat.sub_le_sub_right h.tunVoid 1 }
  ht.takeEntry _ _ _

end

/-! ### What leaves the slicer's state alone (R90) -/

section
variable (l : Lds)

/-- R91: a field start takes the slicer to RUN, and none out of OFF. -/
theorem Lds.fieldStart_off_iff : l.fieldStart.st = .off ↔ l.st = .off := by
  unfold Lds.fieldStart
  split <;> simp_all

@[simp] theorem Lds.lineStart_st : l.lineStart.st = l.st := by
  unfold Lds.lineStart
  split <;> rfl

@[simp] theorem Lds.frame_st (bits : List Bool) : (l.frame bits).st = l.st := by
  unfold Lds.frame
  split
  · split
    · rfl
    · split
      · rfl
      · split_ifs <;> rfl
  · rfl

@[simp] theorem Lds.dropNames_st (dwell : Bool) : (l.dropNames dwell).st = l.st := by
  unfold Lds.dropNames
  split <;> rfl

@[simp] theorem Lds.due_st (dwell : Bool) (p : Packet) : (l.due dwell p).st = l.st := by
  unfold Lds.due
  split
  · rfl
  · rfl
  · split <;> rfl

@[simp] theorem Lds.join_st (dwell : Bool) (p : Packet) : (l.join dwell p).st = l.st := by
  unfold Lds.join
  split_ifs <;> simp

@[simp] theorem Lds.collect_st (dwell : Bool) (bytes : List (BitVec 9)) : (l.collect dwell bytes).st = l.st := by
  unfold Lds.collect
  split
  · dsimp only
    split
    · rfl
    · split <;> simp
  · rfl

@[simp] theorem Lds.takeEntry_st (is : Packet → Bool) (dwell void : Bool) : (l.takeEntry is dwell void).1.st = l.st := by
  unfold Lds.takeEntry
  split
  · rfl
  · dsimp only
    split <;> simp

@[simp] theorem Lds.takeTime_st (dwell : Bool) : (l.takeTime dwell).1.st = l.st := by simp [Lds.takeTime]
@[simp] theorem Lds.takeLabel_st (dwell : Bool) : (l.takeLabel dwell).1.st = l.st := by simp [Lds.takeLabel]
@[simp] theorem Lds.takeName_st : l.takeName.1.st = l.st := by simp [Lds.takeName]

end

end Sys2Proof.Machine
end

section
/-! SUPPORT. R90, R100, R103: what leaves LDS and the tuner's state alone: every operation but those of TUN, of LDS and of the
settings keeps `State.feed`. One lemma per operation, in the order of the model's definitions. -/

namespace Sys2Proof.Machine

/-- What `FifoWf` and `SlicerWf` speak of: LDS, and the tuner state that the slicer follows. -/
structure Feed where
  lds : Lds
  st : TunerState

/-- LDS and the tuner state of a machine. -/
def State.feed (s : State) : Feed := ⟨s.lds, s.tun.st⟩

/-! ### One field of another block -/

section
variable (s : State)

@[simp] theorem State.setPending_feed (x : List Instr) : (s.setPending x).feed = s.feed := by rfl
@[simp] theorem State.setNow_feed (x : Nat) : (s.setNow x).feed = s.feed := by rfl
@[simp] theorem State.setFree_feed (x : Nat) : (s.setFree x).feed = s.feed := by rfl
@[simp] theorem State.setNotices_feed (x : List Notice) : (s.setNotices x).feed = s.feed := by rfl
@[simp] theorem State.setTaken_feed (x : List (Fin 16)) : (s.setTaken x).feed = s.feed := by rfl
@[simp] theorem State.setMem_feed (x : Memory) : (s.setMem x).feed = s.feed := by rfl
@[simp] theorem State.setHd_feed (x : Option Byte) : (s.setHd x).feed = s.feed := by rfl
@[simp] theorem State.setCtlOut_feed (x : Option Nat) : (s.setCtlOut x).feed = s.feed := by rfl
@[simp] theorem State.setPins_feed (x : Pins) : (s.setPins x).feed = s.feed := by rfl
@[simp] theorem State.setTrc_feed (x : Trc) : (s.setTrc x).feed = s.feed := by rfl
@[simp] theorem State.setSrv_feed (x : Srv) : (s.setSrv x).feed = s.feed := by rfl
@[simp] theorem State.setPos_feed (x : Pos) : (s.setPos x).feed = s.feed := by rfl
@[simp] theorem State.setClk_feed (x : Clk) : (s.setClk x).feed = s.feed := by rfl
@[simp] theorem State.setSch_feed (x : Sch) : (s.setSch x).feed = s.feed := by rfl
@[simp] theorem State.setMpath_feed (x : Mpath) : (s.setMpath x).feed = s.feed := by rfl
@[simp] theorem State.setRqu_feed (x : Rqu) : (s.setRqu x).feed = s.feed := by rfl
@[simp] theorem State.setPwr_feed (x : Pwr) : (s.setPwr x).feed = s.feed := by rfl

/-- A change of TUN in its state alone is one that LDS follows. -/
@[simp] theorem State.setTun_feed {x : Tun} (hx : x.st = s.tun.st) : (s.setTun x).feed = s.feed := by
  simp [State.feed, hx]

end

/-- An operation of two branches. -/
@[simp] theorem ite_feed (c : Prop) [Decidable c] (s t : State) :
    (if c then s else t).feed = if c then s.feed else t.feed := apply_ite State.feed c s t

/-- The same, for an operation that answers. -/
@[simp] theorem ite_fst_feed (c : Prop) [Decidable c] (r q : State × Answer) :
    (if c then r else q).1.feed = if c then r.1.feed else q.1.feed := apply_ite (fun r : State × Answer => r.1.feed) c r q

/-- An operation whose frame holds LDS and TUN. -/
theorem SameBut.feed {ps : List Part} {s t : State} (h : SameBut ps s t)
    (hp : .lds ∉ ps ∧ .tun ∉ ps := by decide) : t.feed = s.feed := by
  have hlds : t.lds = s.lds := h .lds hp.1
  have htun : t.tun = s.tun := h .tun hp.2
  simp only [State.feed, hlds, htun]

/-! ### Time, memory, groups and events -/

section
variable (s : State)

@[simp] theorem reachTime_feed (t : Nat) : (reachTime t s).feed = s.feed := by rfl
@[simp] theorem reachLimit_feed (since limit : Nat) : (reachLimit since limit s).feed = s.feed := by rfl
@[simp] theorem writeRegion_feed (off : Nat) (v : Byte) : (writeRegion off v s).feed = s.feed := by rfl
@[simp] theorem enqueue_feed (g : WriteGroup) : (enqueue g s).feed = s.feed := by rfl
@[simp] theorem askSlot_feed (b : Block) : (askSlot b s).feed = s.feed := by rfl
@[simp] theorem dropAsk_feed (b : Block) : (dropAsk b s).feed = s.feed := by rfl
@[simp] theorem notify_feed (n : Notice) : (notify n s).feed = s.feed := by rfl
@[simp] theorem setLines_feed (ran : Bool) : (setLines ran s).feed = s.feed := by rfl
@[simp] theorem groupLeft_feed (g : WriteGroup) : (groupLeft g s).feed = s.feed := by simp [groupLeft]

@[simp] theorem groupsLeft_feed (gs : List WriteGroup) : (groupsLeft gs s).feed = s.feed := by
  induction gs generalizing s with
  | nil => rfl
  | cons k rest ih => simp [groupsLeft, ih]

@[simp] theorem clearPending_feed (off : Nat) : (clearPending off s).feed = s.feed := by simp [clearPending]

@[simp] theorem drainByte_feed : (drainByte s).feed = s.feed := by
  unfold drainByte
  split
  · rfl
  · split <;> simp

@[simp] theorem post_feed (e : Event) : (post e s).feed = s.feed := (post_frame e s).feed
@[simp] theorem offerRqu_feed (g : WriteGroup) : (offerRqu g s).feed = s.feed := by simp [offerRqu]
@[simp] theorem acknowledge_feed (seq : Byte) : (acknowledge seq s).feed = s.feed := by simp [acknowledge]
@[simp] theorem makeResult_feed (a : Answer) (tag : Byte) : (makeResult a tag s).feed = s.feed := by simp [makeResult]

end

/-! ### The clock -/

section
variable (s : State)

@[simp] theorem applyStep_feed (subject source : Byte) (new : DateTime) (limit : Bool) :
    (applyStep subject source new limit s).feed = s.feed := by simp [applyStep]

@[simp] theorem broadcastStep_feed (subject : Byte) (d : Int) : (broadcastStep subject d s).feed = s.feed := by
  simp [broadcastStep]

@[simp] theorem requestSetTime_feed : (requestSetTime s).1.feed = s.feed := by unfold requestSetTime; split <;> simp
@[simp] theorem deferStep_feed (d : Int) : (deferStep d s).feed = s.feed := by simp [deferStep]

@[simp] theorem confirm_feed (d code : Int) : (confirm d code s).feed = s.feed := by
  unfold confirm
  dsimp only
  split_ifs <;> simp

@[simp] theorem meetSample_feed (d code : Int) : (meetSample d code s).feed = s.feed := by unfold meetSample; split <;> simp

@[simp] theorem timePacket_feed (year month day hour minute second code : Byte) :
    (timePacket year month day hour minute second code s).feed = s.feed := by simp [timePacket]

@[simp] theorem reportRunning_feed : (reportRunning s).feed = s.feed := by rfl

@[simp] theorem reportNotRunning_feed : (reportNotRunning s).feed = s.feed := by
  unfold reportNotRunning
  dsimp only
  split
  · split <;> simp
  · simp

@[simp] theorem retain_feed (r : Retained) : (retain r s).feed = s.feed := by rfl
@[simp] theorem clearRetained_feed : (clearRetained s).feed = s.feed := by rfl
@[simp] theorem postInvalid_feed : (postInvalid s).feed = s.feed := by simp [postInvalid]

end

/-! ### The transport -/

section
variable (s : State)

@[simp] theorem applyRow_feed (on : Bool) : (applyRow on s).feed = s.feed := (applyRow_frame on s).feed
@[simp] theorem useSpeed_feed (m : Speed) (o : SpeedOrigin) : (useSpeed m o s).feed = s.feed := (useSpeed_frame m o s).feed
@[simp] theorem restartDrum_feed : (restartDrum s).feed = s.feed := by rfl
@[simp] theorem restartCap_feed : (restartCap s).feed = s.feed := by rfl

@[simp] theorem enterCore_feed (st : TransportState) (on : Bool) : (enterCore st on s).feed = s.feed :=
  (enterCore_frame st on s).feed

@[simp] theorem reportState_feed : (reportState s).feed = s.feed := by unfold reportState; split <;> simp

@[simp] theorem enterPosting_feed (st : TransportState) (o : Origin) (on : Bool) : (enterPosting st o on s).feed = s.feed := by
  simp [enterPosting]

@[simp] theorem enter_feed (st : TransportState) (o : Origin) (quiet on : Bool) : (enter st o quiet on s).feed = s.feed := by
  simp [enter]

@[simp] theorem stopWriting_feed : (stopWriting s).feed = s.feed := by simp [stopWriting]
@[simp] theorem beginWriting_feed : (beginWriting s).feed = s.feed := by rfl
@[simp] theorem tryWriting_feed : (tryWriting s).feed = s.feed := by simp [tryWriting]

@[simp] theorem latchFault_feed (code : FaultCode) (detail : Nat) : (latchFault code detail s).feed = s.feed := by
  unfold latchFault
  dsimp only
  split
  · simp
  · split <;> simp

@[simp] theorem limitCore_feed (e : TapeEnd) (stall : Bool) : (limitCore e stall s).feed = s.feed := by
  unfold limitCore
  dsimp only
  split <;> split <;> simp

@[simp] theorem takeRewind_feed : (takeRewind s).feed = s.feed := by simp [takeRewind]
@[simp] theorem tapeLimit_feed (e : TapeEnd) (stall : Bool) : (tapeLimit e stall s).feed = s.feed := by simp [tapeLimit]
@[simp] theorem meetLimit_feed : (meetLimit s).feed = s.feed := by unfold meetLimit; split <;> simp

@[simp] theorem enterMotion_feed (st : TransportState) (o : Origin) (quiet : Bool) :
    (enterMotion st o quiet s).feed = s.feed := by simp [enterMotion]

@[simp] theorem startRun_feed (goal : Nat) : (startRun goal s).feed = s.feed := by rfl
@[simp] theorem enterPhase_feed (p : RecPhase) : (enterPhase p s).feed = s.feed := by rfl
@[simp] theorem beginPause_feed (o : Origin) (quiet : Bool) : (beginPause o quiet s).feed = s.feed := by simp [beginPause]
@[simp] theorem startCatchUp_feed (o : Origin) : (startCatchUp o s).feed = s.feed := by simp [startCatchUp]
@[simp] theorem backSpaceDone_feed : (backSpaceDone s).feed = s.feed := by unfold backSpaceDone; split <;> simp
@[simp] theorem reverseCatchUp_feed : (reverseCatchUp s).feed = s.feed := by simp [reverseCatchUp]
@[simp] theorem catchUpDone_feed : (catchUpDone s).feed = s.feed := by simp [catchUpDone]

@[simp] theorem runDone_feed : (runDone s).feed = s.feed := by
  unfold runDone
  split
  · split <;> simp
  · simp

@[simp] theorem enterRecord_feed (m : Speed) (mark paused : Bool) (o : Origin) (quiet : Bool) :
    (enterRecord m mark paused o quiet s).feed = s.feed := by simp [enterRecord]

@[simp] theorem stopSearch_feed : (stopSearch s).feed = s.feed := by unfold stopSearch; split <;> simp

@[simp] theorem startGoto_feed (target : Int) (o : Origin) (quiet : Bool) : (startGoto target o quiet s).feed = s.feed := by
  simp [startGoto]

@[simp] theorem startIndex_feed (dir : Dir) (count : Nat) (o : Origin) (quiet : Bool) :
    (startIndex dir count o quiet s).feed = s.feed := by simp [startIndex]

@[simp] theorem searchFound_feed (k : Search) : (searchFound k s).feed = s.feed := by simp [searchFound]
@[simp] theorem counterChanged_feed : (counterChanged s).feed = s.feed := by unfold counterChanged; split <;> simp
@[simp] theorem markReported_feed (m : Int) : (markReported m s).feed = s.feed := by unfold markReported; split <;> simp
@[simp] theorem searchTimeout_feed : (searchTimeout s).feed = s.feed := by unfold searchTimeout; split <;> simp
@[simp] theorem beginThread_feed (p : Target) : (beginThread p s).feed = s.feed := by simp [beginThread]

@[simp] theorem beginUnthread_feed (pending : Option Target) (o : Origin) : (beginUnthread pending o s).feed = s.feed := by
  simp [beginUnthread]

@[simp] theorem beginEject_feed (o : Origin) : (beginEject o s).feed = s.feed := by simp [beginEject]
@[simp] theorem holdInStop_feed (p : Target) : (holdInStop p s).feed = s.feed := by rfl
@[simp] theorem serveTarget_feed (p : Target) : (serveTarget p s).feed = s.feed := by unfold serveTarget; split <;> simp

@[simp] theorem threadingDone_feed : (threadingDone s).feed = s.feed := by
  unfold threadingDone
  dsimp only
  split <;> simp

@[simp] theorem threadFailure_feed : (threadFailure s).feed = s.feed := by simp [threadFailure]

@[simp] theorem unthreadedSwitch_feed : (unthreadedSwitch s).feed = s.feed := by
  unfold unthreadedSwitch
  split
  · split <;> simp
  · split
    · split <;> simp
    · rfl
  · rfl

end

/-! ### The transport's requests -/

section
variable (s : State)

@[simp] theorem clearRewind_feed : (clearRewind s).feed = s.feed := by rfl
@[simp] theorem replaceTarget_feed (p : Target) : (replaceTarget p s).feed = s.feed := by rfl

@[simp] theorem requestMotion_feed (st : TransportState) (req : TargetRequest) :
    (requestMotion st req s).1.feed = s.feed := by
  unfold requestMotion
  split
  · rfl
  · split <;> simp

/-- The search that a request starts keeps it. -/
@[simp] theorem requestSearch_feed (req : TargetRequest) {start : State → State}
    (hs : ∀ u : State, (start u).feed = u.feed) : (requestSearch req start s).1.feed = s.feed := by
  unfold requestSearch
  split
  · rfl
  · split <;> simp [hs]

@[simp] theorem requestGoto_feed : (requestGoto s).1.feed = s.feed := by simp [requestGoto]
@[simp] theorem requestIndex_feed : (requestIndex s).1.feed = s.feed := by unfold requestIndex; split <;> simp

@[simp] theorem takeRecord_feed (m : Speed) (mark paused : Bool) (o : Origin) (quiet : Bool) :
    (takeRecord m mark paused o quiet s).1.feed = s.feed := by
  unfold takeRecord
  split <;> simp

@[simp] theorem dropHeld_feed : (dropHeld s).feed = s.feed := by simp [dropHeld]
@[simp] theorem stopTape_feed (o : Origin) (quiet : Bool) : (stopTape o quiet s).feed = s.feed := by simp [stopTape]
@[simp] theorem stopByTable_feed : (stopByTable s).1.feed = s.feed := by unfold stopByTable; split <;> simp
@[simp] theorem ownerToPanel_feed : (ownerToPanel s).feed = s.feed := by simp [ownerToPanel]
@[simp] theorem stopOverride_feed : (stopOverride s).1.feed = s.feed := by unfold stopOverride; split <;> simp
@[simp] theorem requestStop_feed : (requestStop s).1.feed = s.feed := by simp [requestStop]
@[simp] theorem pauseInPause_feed : (pauseInPause s).1.feed = s.feed := by unfold pauseInPause; split <;> simp

@[simp] theorem requestPause_feed : (requestPause s).1.feed = s.feed := by
  unfold requestPause
  split
  · rfl
  · split <;> simp

@[simp] theorem resumeInPause_feed (o : Origin) : (resumeInPause o s).1.feed = s.feed := by
  unfold resumeInPause
  split <;> simp

@[simp] theorem requestResume_feed : (requestResume s).1.feed = s.feed := by
  unfold requestResume
  split
  · rfl
  · split <;> simp

@[simp] theorem ejectByTable_feed (o : Origin) : (ejectByTable o s).1.feed = s.feed := by
  unfold ejectByTable
  split <;> simp

@[simp] theorem requestEject_feed : (requestEject s).1.feed = s.feed := by simp [requestEject]

@[simp] theorem requestReset_feed : (requestReset s).1.feed = s.feed := by
  unfold requestReset
  split
  · rfl
  · split <;> simp

@[simp] theorem requestRecover_feed : (requestRecover s).1.feed = s.feed := by
  unfold requestRecover
  split
  · rfl
  · split
    · rfl
    · rfl
    · dsimp only
      split_ifs <;> simp
    · rfl

end

/-! ### The cassette, the scheduler's operations on TRC, and the main rail -/

section
variable (s : State)

@[simp] theorem defaultSpeed_feed : (defaultSpeed s).feed = s.feed := by simp [defaultSpeed]
@[simp] theorem cassetteIn_feed (tab : Bool) : (cassetteIn tab s).feed = s.feed := by simp [cassetteIn]
@[simp] theorem cassetteGone_feed : (cassetteGone s).feed = s.feed := by simp [cassetteGone]

@[simp] theorem insertCassette_feed (tab : Bool) : (insertCassette tab s).1.feed = s.feed := by
  unfold insertCassette
  split <;> simp

@[simp] theorem removeCassette_feed : (removeCassette s).feed = s.feed := by unfold removeCassette; split <;> simp
@[simp] theorem takeTransport_feed : (takeTransport s).feed = s.feed := by rfl
@[simp] theorem returnTransport_feed : (returnTransport s).feed = s.feed := by simp [returnTransport]
@[simp] theorem schRecord_feed (m : Speed) : (schRecord m s).feed = s.feed := by unfold schRecord; split <;> simp
@[simp] theorem schResume_feed (mark : Bool) : (schResume mark s).feed = s.feed := by simp [schResume]
@[simp] theorem schPause_feed : (schPause s).feed = s.feed := by unfold schPause; split <;> simp

@[simp] theorem schStop_feed : (schStop s).feed = s.feed := by
  unfold schStop
  split
  · split <;> simp
  · simp

@[simp] theorem unthreadForPowerOff_feed (o : Origin) : (unthreadForPowerOff o s).feed = s.feed := by
  simp [unthreadForPowerOff]

@[simp] theorem stopDrumAllowance_feed : (stopDrumAllowance s).feed = s.feed := by simp [stopDrumAllowance]
@[simp] theorem transportRailLost_feed : (transportRailLost s).feed = s.feed := by simp [transportRailLost]

@[simp] theorem transportRailGood_feed : (transportRailGood s).feed = s.feed := by
  unfold transportRailGood
  dsimp only
  split <;> simp

@[simp] theorem startRecordCapstan_feed : (startRecordCapstan s).feed = s.feed := by simp [startRecordCapstan]
@[simp] theorem drumReported_feed (r : LockReport) : (drumReported r s).feed = s.feed := by cases r <;> simp [drumReported]
@[simp] theorem capReported_feed (r : LockReport) : (capReported r s).feed = s.feed := by cases r <;> simp [capReported]

end

/-! ### The tuner -/

section
variable (s : State)

@[simp] theorem sendWord_feed : (sendWord s).feed = s.feed := by
  unfold sendWord
  dsimp only
  split
  · simp
  · split <;> simp

@[simp] theorem dropStation_feed : (dropStation s).feed = s.feed := by simp [dropStation]
@[simp] theorem closeScan_feed (code : Byte) : (closeScan code s).feed = s.feed := by unfold closeScan; split <;> simp
@[simp] theorem dropHeldOffset_feed (n : Nat) : (dropHeldOffset n s).feed = s.feed := by simp [dropHeldOffset]
@[simp] theorem takeTuner_feed : (takeTuner s).feed = s.feed := by simp [takeTuner]
@[simp] theorem returnTuner_feed : (returnTuner s).feed = s.feed := by rfl
@[simp] theorem wordEnd_feed : (wordEnd s).feed = s.feed := by unfold wordEnd; split <;> simp
@[simp] theorem sawReading_feed (r : Reading) : (sawReading r s).feed = s.feed := by rfl

end

/-! ### Power -/

section
variable (s : State)

@[simp] theorem wake_feed (c : WakeCause) : (wake c s).feed = s.feed := by simp [wake]
@[simp] theorem cancelOff_feed : (cancelOff s).feed = s.feed := by simp [cancelOff]
@[simp] theorem beginOff_feed (off : PowerOff) (o : Origin) : (beginOff off o s).feed = s.feed := by simp [beginOff]
@[simp] theorem autoOff_feed : (autoOff s).feed = s.feed := by simp [autoOff]
@[simp] theorem completeOff_feed : (completeOff s).feed = s.feed := by simp [completeOff]

@[simp] theorem releaseHost_feed : (releaseHost s).feed = s.feed := by
  unfold releaseHost
  dsimp only
  split
  · split <;> simp
  · simp

@[simp] theorem railLost_feed : (railLost s).feed = s.feed := by simp [railLost]
@[simp] theorem dropToggle_feed : (dropToggle s).feed = s.feed := by simp [dropToggle]
@[simp] theorem requestPowerOff_feed : (requestPowerOff s).1.feed = s.feed := by simp [requestPowerOff]

end

/-! ### The scheduler -/

section
variable (s : State)

@[simp] theorem setEntry_feed (k : Fin 16) (e : Entry) : (setEntry k e s).feed = s.feed := by rfl
@[simp] theorem handSch_feed (h : SchHeld) : (handSch h s).feed = s.feed := by cases h <;> simp [handSch]
@[simp] theorem writeStatus_feed (k : Fin 16) : (writeStatus k s).feed = s.feed := by simp [writeStatus]

@[simp] theorem postProgramme_feed (k : Fin 16) (o : EndOutcome) (r : Reason) : (postProgramme k o r s).feed = s.feed := by
  simp [postProgramme]

@[simp] theorem recompute_feed (k : Fin 16) : (recompute k s).feed = s.feed := by
  unfold recompute
  dsimp only
  split
  · split <;> simp
  · simp

@[simp] theorem recomputeAll_feed (ks : List (Fin 16)) : (recomputeAll ks s).feed = s.feed := by
  induction ks generalizing s with
  | nil => rfl
  | cons k rest ih => simp [recomputeAll, ih]

@[simp] theorem makeLog_feed (k : Fin 16) (f : LogFacts) : (makeLog k f s).feed = s.feed := by simp [makeLog]

@[simp] theorem conclude_feed (k : Fin 16) (e : Entry) (f : LogFacts) : (conclude k e f s).feed = s.feed := by
  simp [conclude]

@[simp] theorem missDay_feed (k : Fin 16) (day : Nat) (reason : Reason) : (missDay k day reason s).feed = s.feed := by
  simp [missDay]

@[simp] theorem missNext_feed (k : Fin 16) (reason : Reason) : (missNext k reason s).feed = s.feed := by simp [missNext]

@[simp] theorem concludeRun_feed (c : Run) (o : EndOutcome) (r : Reason) (detail : Nat) :
    (concludeRun c o r detail s).feed = s.feed := by simp [concludeRun]

@[simp] theorem releaseRun_feed (wasStarted : Bool) : (releaseRun wasStarted s).feed = s.feed := by simp [releaseRun]

@[simp] theorem endRun_feed (o : EndOutcome) (r : Reason) (detail : Nat) : (endRun o r detail s).feed = s.feed := by
  unfold endRun
  split <;> simp

@[simp] theorem endWell_feed : (endWell s).feed = s.feed := by unfold endWell; split <;> simp
@[simp] theorem setRun_feed (c : Run) : (setRun c s).feed = s.feed := by rfl

@[simp] theorem startEffects_feed (c : Run) (counter : Int) : (startEffects c counter s).feed = s.feed := by
  simp [startEffects]

@[simp] theorem startOccurrence_feed : (startRun_ s).feed = s.feed := by unfold startRun_; split <;> simp
@[simp] theorem continueRun_feed (c : Run) (b : Fin 16) : (continueRun c b s).feed = s.feed := by simp [continueRun]
@[simp] theorem fallBack_feed (c : Run) : (fallBack c s).feed = s.feed := by simp [fallBack]

@[simp] theorem clockTests_feed (c : Run) : (clockTests c s).feed = s.feed := by
  unfold clockTests
  dsimp only
  split
  · split_ifs <;> simp
  · split
    · split <;> simp
    · rfl
  · rfl

@[simp] theorem labelTests_feed (c : Run) : (labelTests c s).feed = s.feed := by unfold labelTests; split <;> simp
@[simp] theorem runTests_feed : (runTests s).feed = s.feed := by unfold runTests; split <;> simp
@[simp] theorem passOver_feed (k : Fin 16) : (passOver k s).feed = s.feed := by simp [passOver]

@[simp] theorem endPassed_feed (k : Fin 16) : (endPassed k s).feed = s.feed := by
  unfold endPassed
  dsimp only
  split <;> simp

@[simp] theorem endPassedAll_feed (ks : List (Fin 16)) : (endPassedAll ks s).feed = s.feed := by
  induction ks generalizing s with
  | nil => rfl
  | cons k rest ih => simp [endPassedAll, ih]

@[simp] theorem setWait_feed (w : WaitReason) (ks : List (Fin 16)) : (setWait w ks s).feed = s.feed := by
  induction ks generalizing s with
  | nil => rfl
  | cons k rest ih => simp [setWait, ih]

@[simp] theorem handRecord_feed (c : Run) : (handRecord c s).feed = s.feed := by simp [handRecord]
@[simp] theorem takeUp_feed (k : Fin 16) : (takeUp k s).feed = s.feed := by rfl

@[simp] theorem labelAction_feed (c : Run) (status : Nat) : (labelAction c status s).feed = s.feed := by
  unfold labelAction
  dsimp only
  split <;> simp

@[simp] theorem labelPacket_feed (net : Nat) (label : List Byte) (status : Nat) :
    (labelPacket net label status s).feed = s.feed := by
  unfold labelPacket
  split <;> simp

@[simp] theorem absenceEnd_feed (c : Run) : (absenceEnd c s).feed = s.feed := by
  unfold absenceEnd
  dsimp only
  split
  · split <;> simp
  · simp

@[simp] theorem lossEnd_feed (c : Run) : (lossEnd c s).feed = s.feed := by
  unfold lossEnd
  dsimp only
  split
  · split <;> simp
  · simp

@[simp] theorem labelTick_feed : (labelTick s).feed = s.feed := by unfold labelTick; split <;> simp
@[simp] theorem makeEmpty_feed (k : Fin 16) : (makeEmpty k s).feed = s.feed := by unfold makeEmpty; split <;> simp
@[simp] theorem expireClaim_feed (k : Fin 16) : (expireClaim k s).feed = s.feed := by simp [expireClaim]
@[simp] theorem claimTick_feed : (claimTick s).feed = s.feed := by unfold claimTick; split <;> simp

@[simp] theorem requestClaim_feed : (requestClaim s).1.feed = s.feed := by
  unfold requestClaim
  split
  · rfl
  · split
    · split <;> rfl
    · split <;> simp

@[simp] theorem takeCommit_feed (k : Fin 16) : (takeCommit k s).feed = s.feed := by simp [takeCommit]

@[simp] theorem requestCommit_feed : (requestCommit s).1.feed = s.feed := by
  unfold requestCommit
  split
  · rfl
  · split
    · rfl
    · split <;> simp

@[simp] theorem requestDiscard_feed : (requestDiscard s).1.feed = s.feed := by unfold requestDiscard; split <;> simp

@[simp] theorem requestDelete_feed : (requestDelete s).1.feed = s.feed := by
  unfold requestDelete
  split
  · rfl
  · split <;> simp

@[simp] theorem requestAbort_feed : (requestAbort s).1.feed = s.feed := by unfold requestAbort; split <;> simp

@[simp] theorem stepOver_feed (new : Nat) (k : Fin 16) : (stepOver new k s).feed = s.feed := by
  unfold stepOver
  dsimp only
  split <;> simp

@[simp] theorem stepOverAll_feed (new : Nat) (ks : List (Fin 16)) : (stepOverAll new ks s).feed = s.feed := by
  induction ks generalizing s with
  | nil => rfl
  | cons k rest ih => simp [stepOverAll, ih]

@[simp] theorem clockMiss_feed (new : Nat) (k : Fin 16) : (clockMiss new k s).feed = s.feed := by
  unfold clockMiss
  dsimp only
  split
  · split <;> simp
  · simp

@[simp] theorem clockMissAll_feed (new : Nat) (ks : List (Fin 16)) : (clockMissAll new ks s).feed = s.feed := by
  induction ks generalizing s with
  | nil => rfl
  | cons k rest ih => simp [clockMissAll, ih]

@[simp] theorem stepBack_feed (new : Nat) : (stepBack new s).feed = s.feed := by unfold stepBack; split <;> simp
@[simp] theorem stepNotice_feed (n : StepNotice) : (stepNotice n s).feed = s.feed := by simp [stepNotice]

@[simp] theorem transportReport_feed (st : TransportState) : (transportReport st s).feed = s.feed := by
  unfold transportReport
  split
  · rfl
  · split <;> simp

@[simp] theorem limitReport_feed : (limitReport s).feed = s.feed := by unfold limitReport; split <;> simp
@[simp] theorem testAutoOff_feed : (testAutoOff s).feed = s.feed := by simp [testAutoOff]
@[simp] theorem secondsEvent_feed : (secondsEvent s).feed = s.feed := by simp [secondsEvent]
@[simp] theorem markDone_feed (m : MarkWrite) : (markDone m s).feed = s.feed := by unfold markDone; split <;> simp

end

/-! ### The memory path -/

section
variable (s : State)

@[simp] theorem finish_feed (ran : Bool) : (finish ran s).feed = s.feed := by simp [finish]
@[simp] theorem closeCycle_feed : (closeCycle s).feed = s.feed := by rfl

@[simp] theorem protect_feed (r : ProtectReason) (off : Nat) (data : Byte) : (protect r off data s).feed = s.feed := by
  simp [protect]

@[simp] theorem releaseLatch_feed : (releaseLatch s).feed = s.feed := by rfl
@[simp] theorem takeCell_feed (n : Nat) (v : Byte) : (takeCell n v s).feed = s.feed := by rfl

end

/-! ### The standby start -/

section
variable (s : State)

@[simp] theorem loadCells_feed : (loadCells s).feed = s.feed := by rfl
@[simp] theorem loadOne_feed (k : Fin 16) : (loadOne k s).feed = s.feed := by simp [loadOne]

@[simp] theorem loadEntries_feed (ks : List (Fin 16)) : (loadEntries ks s).feed = s.feed := by
  induction ks generalizing s with
  | nil => rfl
  | cons k rest ih => simp [loadEntries, ih]

@[simp] theorem loadSchedule_feed : (loadSchedule s).feed = s.feed := by simp [loadSchedule]

@[simp] theorem offerInit_feed (gs : List WriteGroup) : (offerInit gs s).feed = s.feed := by
  induction gs generalizing s with
  | nil => rfl
  | cons k rest ih => simp [offerInit, ih]

@[simp] theorem dropDrafts_feed (ks : List (Fin 16)) : (dropDrafts ks s).feed = s.feed := by
  induction ks generalizing s with
  | nil => rfl
  | cons k rest ih => simp [dropDrafts, ih]

@[simp] theorem resolveRetained_feed : (resolveRetained s).feed = s.feed := by simp [resolveRetained]

@[simp] theorem resolveOne_feed (k : Fin 16) : (resolveOne k s).feed = s.feed := by
  unfold resolveOne
  dsimp only
  split <;> simp

@[simp] theorem resolveAll_feed (ks : List (Fin 16)) : (resolveAll ks s).feed = s.feed := by
  induction ks generalizing s with
  | nil => rfl
  | cons k rest ih => simp [resolveAll, ih]

@[simp] theorem supplyOff_feed (k : Fin 16) : (supplyOff k s).feed = s.feed := by
  unfold supplyOff
  dsimp only
  split <;> simp

@[simp] theorem supplyOffAll_feed (ks : List (Fin 16)) : (supplyOffAll ks s).feed = s.feed := by
  induction ks generalizing s with
  | nil => rfl
  | cons k rest ih => simp [supplyOffAll, ih]

@[simp] theorem rebuild_feed : (rebuild s).feed = s.feed := by simp [rebuild]

end

/-! ### The servo's and the position unit's own events -/

section
variable (s : State)

@[simp] theorem useFree_feed : (useFree s).feed = s.feed := by rfl

@[simp] theorem frameWritten_feed : (frameWritten s).feed = s.feed := by
  unfold frameWritten
  dsimp only
  split <;> simp

@[simp] theorem writeFrame_feed : (writeFrame s).feed = s.feed := by rw [writeFrame_eq]; simp
@[simp] theorem frameStarted_feed : (frameStarted s).feed = s.feed := by rfl

@[simp] theorem stallReported_feed (reel : ReelName) : (stallReported reel s).feed = s.feed := by
  unfold stallReported
  split <;> simp

@[simp] theorem watchInterval_feed (interval : Option Nat) : (watchInterval interval s).feed = s.feed := by
  unfold watchInterval
  split
  · rfl
  · split
    · dsimp only
      split <;> simp
    · rfl

@[simp] theorem takePulse_feed (dir : Dir) (rise high : Nat) : (takePulse dir rise high s).feed = s.feed := by
  unfold takePulse
  dsimp only
  split <;> simp

@[simp] theorem pwmPeriod_feed : (pwmPeriod s).feed = s.feed := by simp [pwmPeriod]

end

end Sys2Proof.Machine
end

section
/-! SUPPORT. R90, R100, R103: every operation of TUN, of SCH and of the memory path keeps the slicer with the tuner's LOCKED and
the FIFO's packets few and apart. The tuner's state is changed by `tunEnter` alone, and LDS follows it there. -/

namespace Sys2Proof.Machine

/-! ### The rules of LDS and of the tuner state that it follows -/

/-- R90, R100, R103: LDS keeps its own rules, and is OFF exactly while the tuner is not LOCKED. -/
def Feed.Wf (d : Feed) : Prop := d.lds.Wf ∧ (d.lds.st = .off ↔ d.st ≠ .locked)

theorem feedWf_iff (s : State) : s.feed.Wf ↔ FifoWf s ∧ SlicerWf s :=
  ⟨fun ⟨⟨⟨hlen, hap⟩, hc, hs, ht, hoff⟩, hf⟩ => ⟨⟨hlen, hap, hc, hs, ht⟩, ⟨hf, hoff⟩⟩,
    fun ⟨⟨hlen, hap, hc, hs, ht⟩, ⟨hf, hoff⟩⟩ => ⟨⟨⟨hlen, hap⟩, hc, hs, ht, hoff⟩, hf⟩⟩

@[simp] theorem Feed.ite_wf_iff (c : Prop) [Decidable c] (d e : Feed) :
    (if c then d else e).Wf ↔ (c → d.Wf) ∧ (¬ c → e.Wf) := by
  split <;> simp_all

@[simp] theorem enqueue_tun (g : WriteGroup) (s : State) : (enqueue g s).tun = s.tun := by rfl
@[simp] theorem Tun.clearCounts_st (t : Tun) : t.clearCounts.st = t.st := by rfl

section
variable {s : State} (h : s.feed.Wf)
include h

/-- LDS does work of its own, by which the slicer neither leaves OFF nor returns to it. -/
theorem Feed.Wf.setLds {l : Lds} (hl : s.lds.Wf → l.Wf) (hst : l.st = .off ↔ s.lds.st = .off) : (s.setLds l).feed.Wf :=
  ⟨hl h.1, hst.trans h.2⟩

theorem Feed.Wf.setTun {x : Tun} (hx : x.st = s.tun.st) : (s.setTun x).feed.Wf := by
  rw [State.setTun_feed s hx]
  exact h

omit h in
/-- An operation of two branches. -/
theorem ite_feedWf {c : Prop} [Decidable c] {t u : State} (ht : t.feed.Wf) (hu : u.feed.Wf) :
    (if c then t else u).feed.Wf := by
  split <;> assumption

/-- An operation that keeps LDS and the tuner's state. -/
theorem Feed.Wf.same {t : State} (ht : t.feed = s.feed := by simp) : t.feed.Wf := ht ▸ h

/-! ### The tuner -/

/-- R90: the slicer follows the tuner into LOCKED and out of it. -/
@[simp] theorem tunEnter_feedWf (st : TunerState) : (tunEnter st s).feed.Wf := by
  by_cases hs : s.tun.st = .locked <;> by_cases hst : st = .locked
  · have hsame : tunEnter st s = s.setTun { s.tun with st } := by simp [tunEnter, hs, hst]
    rw [hsame]
    exact h.setTun (hst.trans hs.symm)
  · rw [tunEnter_leaves hs hst]
    exact ⟨s.lds.unlocked_wf, iff_of_true rfl hst⟩
  · rw [hst, tunEnter_locks hs]
    exact ⟨h.1.locked, iff_of_false nofun (not_not_intro rfl)⟩
  · rw [tunEnter_outside hs hst]
    exact ⟨h.1, iff_of_true (h.2.2 hs) hst⟩

@[simp] theorem settleOrHold_feedWf : (settleOrHold s).feed.Wf := by simp [settleOrHold, h]

@[simp] theorem tuneDirect_feedWf (n : Nat) (tag : Byte) : (tuneDirect n tag s).feed.Wf := by simp [tuneDirect, h]

@[simp] theorem tunePreset_feedWf (n : Nat) (tag : Byte) : (tunePreset n tag s).feed.Wf := by simp [tunePreset, h]

@[simp] theorem tuneLine_feedWf : (tuneLine s).feed.Wf := by simp [tuneLine, h]

@[simp] theorem endScan_feedWf (code : Byte) : (endScan code s).feed.Wf := by simp [endScan, h]

@[simp] theorem railScan_feedWf : (railScan s).feed.Wf := by simp [railScan, h]

@[simp] theorem scanTo_feedWf (n : Int) : (scanTo n s).feed.Wf := by
  unfold scanTo
  split <;> simp [h]

@[simp] theorem scanNext_feedWf : (scanNext s).feed.Wf := by
  unfold scanNext
  split <;> simp [h]

@[simp] theorem scanResume_feedWf (l : Int) : (scanResume l s).feed.Wf := by
  unfold scanResume
  split <;> simp [h]

@[simp] theorem handTun_feedWf (w : TunHeld) : (handTun w s).feed.Wf := by
  unfold handTun
  split
  · exact h
  · exact h
  · split
    · exact h
    · exact endScan_feedWf h _
    · refine scanResume_feedWf ?_ _
      rw [post_feed]
      exact h

@[simp] theorem offerTun_feedWf (w : TunHeld) : (offerTun w s).feed.Wf := by simp [offerTun, h]

@[simp] theorem offerOffset_feedWf (n : Nat) (v : Byte) : (offerOffset n v s).feed.Wf := by simp [offerOffset, h]

@[simp] theorem writeOffset_feedWf : (writeOffset s).feed.Wf := by
  unfold writeOffset
  split <;> simp [h]

@[simp] theorem makeStation_feedWf (net : Nat) (name : List Byte) : (makeStation net name s).feed.Wf := by
  unfold makeStation
  split <;> simp [h]

@[simp] theorem acquireFail_feedWf (sync : Bool) : (acquireFail sync s).feed.Wf := by
  unfold acquireFail
  split <;> simp [h]

@[simp] theorem acquireLock_feedWf : (acquireLock s).feed.Wf := by
  unfold acquireLock
  split
  · simp [h]
  · have hl := tunEnter_feedWf (s := s.setTun { s.tun with offCentre := 0, syncLoss := 0, quiet := false }) h .locked
    simp [hl]

@[simp] theorem lastSample_feedWf (r : Reading) : (lastSample r s).feed.Wf := by simp [lastSample, h]

@[simp] theorem afcSample_feedWf (r : Reading) : (afcSample r s).feed.Wf := by
  unfold afcSample
  dsimp only
  split <;> simp [h]

@[simp] theorem startAcquire_feedWf (r : Reading) : (startAcquire r s).feed.Wf :=
  afcSample_feedWf (tunEnter_feedWf (s := s.setTun s.tun.clearCounts) h .acquire) r

@[simp] theorem signalLost_feedWf (r : Reading) : (signalLost r s).feed.Wf := by
  unfold signalLost
  split
  · have hl := tunEnter_feedWf (tunEnter_feedWf (h.same (t := (post (evTune 4 0 s.tun.preset s.tun.offset) s).setTun
      { (post (evTune 4 0 s.tun.preset s.tun.offset) s).tun.clearCounts with tag := 0 })) .acquire) .locked
    dsimp only
    split
    · exact makeStation_feedWf hl 0 noName
    · exact hl
  · exact startAcquire_feedWf h.same r

@[simp] theorem trackStep_feedWf (r : Reading) : (trackStep r s).feed.Wf := by
  unfold trackStep
  split <;> simp [h]

@[simp] theorem trackSample_feedWf (r : Reading) : (trackSample r s).feed.Wf := by simp [trackSample, h]

@[simp] theorem takeTune_feedWf (k : TuneKind) (value : Nat) (tag : Byte) : (takeTune k value tag s).feed.Wf := by
  cases k <;> simp [takeTune, h]

@[simp] theorem requestTune_feedWf : (requestTune s).1.feed.Wf := by
  unfold requestTune
  split
  · exact h
  · split <;> simp [h]

@[simp] theorem takeScan_feedWf (dir : ScanDir) (base : Nat) : (takeScan dir base s).feed.Wf := by
  unfold takeScan
  dsimp only
  split <;> simp [h]

@[simp] theorem requestScan_feedWf : (requestScan s).1.feed.Wf := by
  unfold requestScan
  dsimp only
  split <;> simp [h]

@[simp] theorem requestScanStop_feedWf : (requestScanStop s).1.feed.Wf := by simp [requestScanStop, h]

@[simp] theorem requestStore_feedWf : (requestStore s).1.feed.Wf := by
  have hoffer := offerTun_feedWf h (.record s.rqu.arg0.toNat (storeRecord s.tun))
  simp [requestStore, h, hoffer]

@[simp] theorem takeFine_feedWf (d : Int) : (takeFine d s).feed.Wf := by
  unfold takeFine
  dsimp only
  split <;> simp [h]

@[simp] theorem requestFine_feedWf : (requestFine s).1.feed.Wf := by
  unfold requestFine
  dsimp only
  split <;> simp [h]

@[simp] theorem tunerRailLost_feedWf : (tunerRailLost s).feed.Wf := by
  unfold tunerRailLost
  dsimp only
  split
  · simp [h]
  · split <;> simp [h]

@[simp] theorem tunerRailGood_feedWf : (tunerRailGood s).feed.Wf := by simp [tunerRailGood, h]

@[simp] theorem settleEnd_feedWf (r : Reading) : (settleEnd r s).feed.Wf := by simp [settleEnd, h]

@[simp] theorem afcEvent_feedWf (r : Reading) : (afcEvent r s).feed.Wf := by simp [afcEvent, h]

@[simp] theorem trackEvent_feedWf (r : Reading) : (trackEvent r s).feed.Wf := by simp [trackEvent, h]

@[simp] theorem watchEvent_feedWf (r : Reading) : (watchEvent r s).feed.Wf := by
  unfold watchEvent
  dsimp only
  split
  · split
    · refine startAcquire_feedWf ?_ r
      exact h
    · exact h
  · exact h

@[simp] theorem stepTest_feedWf (r : Reading) : (stepTest r s).feed.Wf := by
  unfold stepTest
  dsimp only
  split
  · exact h
  · split
    · split
      · refine startAcquire_feedWf ?_ r
        exact h
      · exact scanNext_feedWf (s := sawReading r s) h
    · exact h

@[simp] theorem dwellEnd_feedWf : (dwellEnd s).feed.Wf := by simp [dwellEnd, h]

/-! ### The takes (R101, R102) -/

@[simp] theorem nameTake_feedWf : (nameTake s).feed.Wf := by
  have hl := h.setLds (fun hl => hl.takeName) (by rw [Lds.takeName_st])
  unfold nameTake
  split
  · exact h
  · dsimp only
    split <;> simp [hl]

@[simp] theorem timeTake_feedWf : (timeTake s).feed.Wf := by
  have hl := h.setLds (fun hl => hl.takeTime (inDwell s)) (by rw [Lds.takeTime_st])
  unfold timeTake
  split
  · exact h
  · dsimp only
    split <;> simp [hl]

@[simp] theorem labelTake_feedWf : (labelTake s).feed.Wf := by
  have hl := h.setLds (fun hl => hl.takeLabel (inDwell s)) (by rw [Lds.takeLabel_st])
  unfold labelTake
  split
  · exact h
  · dsimp only
    split <;> simp [hl]

/-! ### RECORD's source, the settings and the keys -/

/-- R6: TUN takes the source of a RECORD, or refuses it. -/
@[simp] theorem recordTune_feedWf (src : RecordSource) : (recordTune src s).1.feed.Wf := by
  unfold recordTune
  split
  · exact h
  · split <;> simp [h]

@[simp] theorem requestRecord_feedWf : (requestRecord s).1.feed.Wf := by
  have htune := recordTune_feedWf h ((recordSource s.rqu.arg0).getD .current)
  unfold requestRecord
  dsimp only
  split
  · exact h
  · split
    · exact h
    · split
      · exact h
      · split <;> rename_i hr <;> rw [hr] at htune
        · exact h
        · simpa using htune

/-- R92, R159: a byte of the settings block may change the line window. -/
@[simp] theorem takeSetting_feedWf (pos : Nat) (v : Byte) : (takeSetting pos v s).feed.Wf := by
  have hw : (s.setLds { s.lds with window := setWindow (s.mpath.settings.write pos v) }).feed.Wf :=
    h.setLds (fun hl => { hl with off := hl.off }) .rfl
  unfold takeSetting
  dsimp only
  split_ifs
  · exact hw
  · exact h
  · exact hw
  · exact h

@[simp] theorem handPwr_feedWf (w : PwrHeld) : (handPwr w s).feed.Wf := by cases w <;> simp [handPwr, h]

@[simp] theorem toggleTimer_feedWf : (toggleTimer s).feed.Wf := by simp [toggleTimer, h]

@[simp] theorem keyPressed_feedWf (n : Nat) : (keyPressed n s).feed.Wf := by
  unfold keyPressed
  split
  · simp [h]
  · split <;> simp [h]
  · exact h

@[simp] theorem pressIf_feedWf (b : Bool) (n : Nat) : (pressIf b n s).feed.Wf := by simp [pressIf, h]

theorem keySample_feedWf (k : BitVec 4) : (keySample k s).feed.Wf := by
  unfold keySample
  dsimp only
  refine pressIf_feedWf (pressIf_feedWf (pressIf_feedWf (pressIf_feedWf ?_ _ _) _ _) _ _) _ _
  exact h

/-! ### The scheduler -/

@[simp] theorem beginPreroll_feedWf (k : Fin 16) (start : Nat) : (beginPreroll k start s).feed.Wf := by
  unfold beginPreroll
  dsimp only
  split <;> simp [h]

@[simp] theorem tryEntry_feedWf (k : Fin 16) (busy : Bool) : (tryEntry k busy s).1.feed.Wf := by
  unfold tryEntry
  dsimp only
  split_ifs <;> simp [h]

omit h in
@[simp] theorem checkDue_feedWf (n : Nat) {s : State} (h : s.feed.Wf) : (checkDue n s).feed.Wf := by
  induction n generalizing s with
  | zero => exact h
  | succ n ih =>
    have hwait : (if transportBusy s then setWait .transport (dueEntries s) s else s).feed.Wf := by simp [h]
    unfold checkDue
    dsimp only
    iterate 4 refine iteInduction (motive := fun t : State => t.feed.Wf) (fun _ => by simp [h]) fun _ => ?_
    split
    · exact hwait
    · have ht := tryEntry_feedWf hwait ‹Fin 16› (transportBusy s)
      simp [ih, ht]

@[simp] theorem prerollCheck_feedWf : (prerollCheck s).feed.Wf := by simp [prerollCheck, h]

@[simp] theorem takeNotice_feedWf (n : Notice) : (takeNotice n s).feed.Wf := by cases n <;> simp [takeNotice, h]

omit h in
@[simp] theorem settle_feedWf (n : Nat) {s : State} (h : s.feed.Wf) : (settle n s).feed.Wf := by
  induction n generalizing s with
  | zero => exact h
  | succ n ih =>
    unfold settle
    split <;> simp [ih, h]

/-! ### Grants, events and host cycles -/

@[simp] theorem handOldest_feedWf (b : Block) : (handOldest b s).feed.Wf := by
  cases b <;> simp only [handOldest] <;> split <;> simp [h]

omit h in
@[simp] theorem grants_feedWf (n : Nat) {s : State} (h : s.feed.Wf) : (grants n s).feed.Wf := by
  induction n generalizing s with
  | zero => exact h
  | succ n ih =>
    unfold grants
    split <;> simp [ih, h]

@[simp] theorem grantSlots_feedWf : (grantSlots s).feed.Wf := grants_feedWf 16 h

@[simp] theorem drain_feedWf : (drain s).feed.Wf := by simp [drain, h]

theorem event_feedWf {f : State → State} (hf : ∀ u : State, u.feed.Wf → (f u).feed.Wf) : (event f s).feed.Wf := by
  simp [event, h, hf s h]

omit h in
@[simp] theorem holdCycle_feedWf (n : Nat) {s : State} (h : s.feed.Wf) : (holdCycle n s).feed.Wf := by
  induction n generalizing s with
  | zero => exact h
  | succ n ih =>
    have hd := event_feedWf h fun u hu => drain_feedWf hu
    simp [holdCycle, ih, h, hd]

@[simp] theorem holdOrServe_feedWf : (holdOrServe s).feed.Wf := by simp [holdOrServe, h]

@[simp] theorem passWrite_feedWf (off : Nat) (data : Byte) : (passWrite off data s).feed.Wf := by simp [passWrite, h]

/-- Each command's owner keeps the rules. -/
theorem ownerActs_feedWf {code : Byte} {t : State} {a : Answer} (ha : ownerActs code s = some (t, a)) : t.feed.Wf := by
  have of {r : State × Answer} (hr : r.1.feed.Wf) (e : some r = some (t, a)) : t.feed.Wf := by cases e; exact hr
  unfold ownerActs at ha
  split at ha
  case h_27 => cases ha
  all_goals exact of (by simp [h]) ha

@[simp] theorem request_feedWf (code : Byte) : (request code s).feed.Wf := by
  unfold request
  dsimp only
  split
  · simp [h]
  · rename_i ha
    simp [ownerActs_feedWf h ha]

@[simp] theorem programmeCycle_feedWf (off : Nat) (data : Byte) : (programmeCycle off data s).feed.Wf := by
  simp [programmeCycle, h]

@[simp] theorem presetCycle_feedWf (off : Nat) (data : Byte) : (presetCycle off data s).feed.Wf := by
  simp [presetCycle, h]

@[simp] theorem profileCycle_feedWf (off : Nat) (data : Byte) : (profileCycle off data s).feed.Wf := by
  simp [profileCycle, h]

@[simp] theorem settingsCycle_feedWf (off : Nat) (data : Byte) : (settingsCycle off data s).feed.Wf := by
  simp [settingsCycle, h]

@[simp] theorem regionWrite_feedWf (off : Nat) (data : Byte) : (regionWrite off data s).feed.Wf := by
  simp [regionWrite, h]

theorem hostWrite_feedWf (addr : Nat) (data : Byte) : (hostWrite addr data s).feed.Wf := by
  have hu : (if hostRuns s then holdOrServe s else s).feed.Wf := by simp [h]
  unfold hostWrite
  dsimp only
  generalize (if hostRuns s then holdOrServe s else s) = u at hu ⊢
  split
  · exact hu
  · split
    · exact hu
    · split <;> simp [hu]

theorem hostRead_feedWf (addr : Nat) : (hostRead addr s).feed.Wf := by
  have hu : (if hostRuns s then holdOrServe s else s).feed.Wf := by simp [h]
  unfold hostRead
  dsimp only
  generalize (if hostRuns s then holdOrServe s else s) = u at hu ⊢
  split
  · exact hu
  · split
    · exact hu
    · split
      · exact hu
      · split
        · exact hu
        · split <;> exact hu

end

end Sys2Proof.Machine
end

section
/-! LEMMA. R90, R100, R103: the standby start, every instruction and the idle tick keep the slicer with the tuner's LOCKED and
the FIFO's packets few and apart; so does every step. -/

namespace Sys2Proof.Machine

/-! ### The standby start, and the loss of the supply -/

/-- A machine whose LDS and tuner stand at their start values. -/
theorem feedWf_of_start {s : State} (hl : s.lds = .start) (ht : s.tun = .start) : s.feed.Wf := by
  simp only [Feed.Wf, State.feed, hl, ht]
  exact ⟨Lds.start_wf, iff_of_true rfl (by decide)⟩

section
variable {s : State} (h : s.feed.Wf)
include h

/-- R181, R92: the line windows are loaded. -/
@[simp] theorem loadSettings_feedWf (m : Memory) : (loadSettings m s).feed.Wf :=
  Feed.Wf.same (s := s.setLds { s.lds with window := setWindow m, field := setWindow m })
    (h.setLds (fun hl => { hl with off := hl.off }) .rfl) rfl

omit h in
@[simp] theorem correctOffsets_feedWf (ns : List Nat) {s : State} (h : s.feed.Wf) : (correctOffsets ns s).feed.Wf := by
  induction ns generalizing s with
  | nil => exact h
  | cons n rest ih =>
    unfold correctOffsets
    split
    · refine ih (offerTun_feedWf ?_ _)
      exact h
    · exact ih h

@[simp] theorem loadPresets_feedWf : (loadPresets s).feed.Wf := by simp [loadPresets, h]

@[simp] theorem validate_feedWf : (validate s).feed.Wf := by
  have hl := loadSettings_feedWf (s := loadCells s) h (s.mem.slice (windowBase s + offSettings) 32)
  unfold validate
  simp only [State.setPwr_feed, loadSchedule_feed]
  exact loadPresets_feedWf hl

@[simp] theorem initialise_feedWf : (initialise s).feed.Wf := by simp [initialise, h]

@[simp] theorem validateAndRebuild_feedWf : (validateAndRebuild s).feed.Wf := by simp [validateAndRebuild, h]

theorem standbyStart_feedWf (l : PinLevels) : (standbyStart l s).feed.Wf := by
  have hs : (startValues l s).feed.Wf := feedWf_of_start rfl rfl
  simp [standbyStart, h, hs]

theorem supplyLoss_feedWf (byteInProgress : Bool) : (supplyLoss byteInProgress s).feed.Wf := by
  unfold supplyLoss
  dsimp only
  split
  · exact feedWf_of_start rfl rfl
  · exact h

theorem backupReset_feedWf : (backupReset s).feed.Wf := by simp [backupReset, h]

/-! ### Fields and seconds -/

/-- R91: LDS begins a field, whatever SRV and POS do at a frame start. -/
theorem fieldStart_feedWf (at_ : Nat) : (fieldStart at_ s).feed.Wf := by
  have hu : (fieldSeen at_ s).feed.Wf :=
    Feed.Wf.setLds (s := (reachTime at_ s).setPins { s.pins with fieldFirst := !s.pins.fieldFirst }) h
      (fun hl => hl.fieldStart) s.lds.fieldStart_off_iff
  rw [fieldStart_eq]
  simp [hu]

theorem secondAdvance_feedWf : (secondAdvance s).feed.Wf := by
  have he := event_feedWf h (f := fun s => secondsEvent (s.setClk s.clk.second)) fun u hu => by simp [hu]
  simp [secondAdvance, h, he]

omit h in
theorem keySamples_feedWf (samples : List (BitVec 4)) {s : State} (h : s.feed.Wf) : (keySamples samples s).feed.Wf := by
  induction samples generalizing s with
  | nil => exact h
  | cons k rest ih => exact ih (event_feedWf h fun u hu => keySample_feedWf hu k)

end

/-! ### The commands -/

/-- An outcome's next state keeps the rules. -/
def OutcomeFeed (o : Host.Outcome State Fault Refusal) : Prop := ∀ t, o = .next t → t.feed.Wf

theorem OutcomeFeed.next {t : State} (h : t.feed.Wf) : OutcomeFeed (.next t) := by
  intro u e; cases e; exact h

section
variable {s : State} (h : s.feed.Wf)
include h

theorem command_feedWf {f : State → State} (hf : ∀ u : State, u.feed.Wf → (f u).feed.Wf) : OutcomeFeed (command f s) :=
  .next (event_feedWf h hf)

/-- A command whose own work leaves LDS and the tuner's state alone. -/
theorem command_sameFeed {f : State → State} (hf : ∀ u : State, (f u).feed = u.feed) : OutcomeFeed (command f s) :=
  command_feedWf h fun u hu => hu.same (hf u)

theorem hostCycle_feedWf {f : State → State} (hf : ∀ u : State, u.feed.Wf → (f u).feed.Wf) :
    OutcomeFeed (hostCycle f s) := by
  have he := event_feedWf h hf
  exact .next (by simp [h, he])

/-- A host write of the region, the form of every request and of the host's own writes. -/
theorem hostWriteAt_feedWf (off : Nat) (data : Byte) : OutcomeFeed (hostCycle (hostWriteAt off data) s) :=
  hostCycle_feedWf h fun _ hu => hostWrite_feedWf hu _ data

/-- R44, R88: the tuner loses the main rail after TRC and SRV. -/
theorem execMainGoodFall_feedWf : OutcomeFeed (execMainGoodFall s) := by
  refine command_feedWf h fun u hu => ?_
  have hr (b : Bool) : (tunerRailLost (stopDrumAllowance (if b then
      transportRailLost ((u.setPins { u.pins with mainGood := false }).setSrv u.srv.powerDown)
      else (u.setPins { u.pins with mainGood := false }).setSrv u.srv.powerDown))).feed.Wf :=
    tunerRailLost_feedWf (hu.same (by simp))
  refine ite_feedWf (ite_feedWf ?_ (hr _)) hu
  rw [railLost_feed]
  exact hr _

/-- R44, R88: the tuner takes the main rail after TRC and SRV. -/
theorem execMainGoodRise_feedWf : OutcomeFeed (execMainGoodRise s) := by
  refine command_feedWf h fun u hu => ?_
  have hr : (tunerRailGood (transportRailGood
      ((u.setPins { u.pins with mainGood := true }).setSrv (u.srv.powerUp u.now)))).feed.Wf :=
    tunerRailGood_feedWf (hu.same (by simp))
  exact ite_feedWf hu (ite_feedWf hr hr)

/-- Every command keeps the slicer with the tuner's LOCKED and the FIFO's packets few and apart. -/
theorem exec_feedWf (i : Instr) : OutcomeFeed (exec i s) := by
  cases i with
  | standbyStart levels => exact .next (standbyStart_feedWf h levels)
  | standbySupplyLoss b => exact .next (supplyLoss_feedWf h b)
  | backupReset => exact .next (backupReset_feedWf h)
  | cassetteInsertion tab => exact command_sameFeed h fun u => by simp
  | cassetteRemoval => exact command_sameFeed h fun u => by simp
  | play | record | stop | pause | resume | ff | rew | cue | review | eject | indexSearch | goto | counterReset
  | recover => exact hostWriteAt_feedWf h _ _
  | threadingComplete closed => exact command_sameFeed h fun u => by simp
  | unthreadingComplete closed => exact command_sameFeed h fun u => by simp
  | threadTimeout => exact command_sameFeed h fun u => by split <;> simp
  | unthreadTimeout => exact command_sameFeed h fun u => by split <;> simp
  | ejectTimeout => exact command_sameFeed h fun u => by split <;> simp
  | idleTimeout => exact command_sameFeed h fun u => by split <;> simp
  | pauseTimeout => exact command_sameFeed h fun u => by split <;> simp
  | lockAllowanceExpiry motor => exact command_sameFeed h fun u => by cases motor <;> dsimp only <;> split <;> simp
  | tapeLimit which active => exact command_sameFeed h fun u => by cases which <;> simp
  | motorOc motor active => exact command_sameFeed h fun u => by dsimp only; split_ifs <;> simp
  | thermal active => exact command_sameFeed h fun u => by simp
  | searchCounterTimeout => exact command_sameFeed h fun u => by simp
  | mainGoodFall => exact execMainGoodFall_feedWf h
  | mainGoodRise => exact execMainGoodRise_feedWf h
  | railTimeout => exact command_sameFeed h fun u => by split <;> simp
  | hostResetRelease => exact command_sameFeed h fun u => by split <;> simp
  | drumFgPulse at_ => exact command_sameFeed h fun u => by simp
  | drumFgGap => exact command_sameFeed h fun u => by simp
  | capstanFgPulse at_ => exact command_sameFeed h fun u => by simp
  | capstanFgGap => exact command_sameFeed h fun u => by simp
  | drumPgPulse at_ => exact command_sameFeed h fun u => by simp
  | frameReferencePulse => exact command_sameFeed h fun u => by simp
  | frameReferenceTimeout => exact command_sameFeed h fun u => by split <;> simp
  | reelMark reel at_ => exact command_sameFeed h fun u => by simp
  | reelStall reel => exact command_sameFeed h fun u => by split <;> simp
  | ctlReadPulse rise high => exact command_sameFeed h fun u => by dsimp only; split <;> simp
  | runDownEnd => exact command_sameFeed h fun u => by split <;> simp
  | extrapolationStart => exact command_sameFeed h fun u => by split <;> simp
  | extrapolatedFrame => exact command_sameFeed h fun u => by split <;> simp
  | unsureSet => exact command_sameFeed h fun u => by split <;> simp
  | profileWrite off data => exact hostWriteAt_feedWf h _ _
  | tune | scan | scanStop | store | fine => exact hostWriteAt_feedWf h _ _
  | synthWordEnd => exact command_sameFeed h fun u => by simp
  | settleEnd r => exact command_feedWf h fun _ hu => settleEnd_feedWf hu r
  | afcSample r => exact command_feedWf h fun _ hu => afcEvent_feedWf hu r
  | trackingSample r => exact command_feedWf h fun _ hu => trackEvent_feedWf hu r
  | noSignalWatch r => exact command_feedWf h fun _ hu => watchEvent_feedWf hu r
  | scanStepTest r => exact command_feedWf h fun _ hu => stepTest_feedWf hu r
  | dwellTimeout => exact command_feedWf h fun _ hu => dwellEnd_feedWf hu
  | presetWrite off data => exact hostWriteAt_feedWf h _ _
  | fieldStart at_ => exact command_feedWf h fun _ hu => fieldStart_feedWf hu at_
  | lineStart => exact command_feedWf h fun u hu => hu.setLds (fun hl => hl.lineStart) (by rw [u.lds.lineStart_st])
  | linePacketComplete bytes =>
    exact command_feedWf h fun u hu => hu.setLds (fun hl => hl.collect (inDwell u) bytes) (by rw [Lds.collect_st])
  | framingCodeFound bits =>
    exact command_feedWf h fun u hu => hu.setLds (fun hl => hl.frame bits) (by rw [Lds.frame_st])
  | timeTake => exact command_feedWf h fun _ hu => timeTake_feedWf hu
  | labelTake => exact command_feedWf h fun _ hu => labelTake_feedWf hu
  | nameTake => exact command_feedWf h fun _ hu => nameTake_feedWf hu
  | secondAdvance => exact .next (secondAdvance_feedWf h)
  | setTime | claim | commit | discard | delete | abort => exact hostWriteAt_feedWf h _ _
  | programmeWrite off data => exact hostWriteAt_feedWf h _ _
  | claimExpiry => exact command_sameFeed h fun u => by split <;> simp
  | occurrenceStart => exact command_sameFeed h fun u => by simp
  | occurrenceStartDue => exact command_sameFeed h fun u => by split <;> simp
  | occurrenceStopReached => exact command_sameFeed h fun u => by split <;> simp
  | absenceTimeout => exact command_sameFeed h fun u => by split <;> simp
  | labelLossTimeout => exact command_sameFeed h fun u => by split <;> simp
  | labelOverrunLimit => exact command_sameFeed h fun u => by split <;> simp
  | liveRead addr => exact hostCycle_feedWf h fun _ hu => hostRead_feedWf hu _
  | partOwnedWrite off data => exact hostWriteAt_feedWf h _ _
  | hostWrite addr data => exact hostCycle_feedWf h fun _ hu => hostWrite_feedWf hu _ _
  | settingsWrite off data => exact hostWriteAt_feedWf h _ _
  | unknownCommand code => exact hostWriteAt_feedWf h _ _
  | eventAck seq => exact hostWriteAt_feedWf h _ _
  | postedWriteDrain => exact command_feedWf h fun _ hu => drain_feedWf hu
  | slotGrant => exact command_feedWf h fun _ hu => grantSlots_feedWf hu
  | powerOff => exact hostWriteAt_feedWf h _ _
  | powerOffComplete => exact command_sameFeed h fun u => by simp
  | keyPress samples => exact .next (keySamples_feedWf samples h)

theorem tick_feedWf : (tick s).feed.Wf := by
  have hp : (pwmPeriod (s.setNow (s.now + (crystalMicros (s.clk.sub + 1) - crystalMicros s.clk.sub)))).feed.Wf := h.same
  exact ite_feedWf hp (secondAdvance_feedWf hp)

end

end Sys2Proof.Machine

open Sys2Proof Sys2Proof.Machine

/-- Settles O8: the tuner's state changes in `tunEnter` alone, where the slicer follows it into LOCKED and out of it; packets
join by replacing the one alike to them or while there is room, and leave by takes and by the emptying. -/
theorem everyStepKeepsSlicerAndFifo : Obligations.EveryStepKeepsSlicerAndFifo := by
  intro s t hfifo hslicer ht
  have hs : s.feed.Wf := (feedWf_iff s).2 ⟨hfifo, hslicer⟩
  rw [← feedWf_iff]
  unfold step at ht
  split at ht
  · cases ht
    exact tick_feedWf hs
  · rename_i c rest _
    exact exec_feedWf (s := s.setPending rest) hs c t ht

end

section
/-! LEMMA. Fields, lines and the framing code (R91, R92, R93). -/

namespace Sys2Proof.Machine

/-! ### Fields and lines (R91, R92) -/

theorem Lds.fieldStart_running {l : Lds} (h : l.st ≠ .off) : l.fieldStart =
    { l with st := .run, line := 0, field := l.window, asm := .idle, bytes := [], searched := false } := by
  unfold Lds.fieldStart
  split
  · contradiction
  · rfl

/-- R91: a second field is no frame start. -/
theorem fieldStart_second {s : State} (h : s.pins.fieldFirst = true) (at_ : Nat) : fieldStart at_ s = fieldSeen at_ s := by
  rw [fieldStart_eq, h]
  rfl

theorem fieldSeen_frame (at_ : Nat) (s : State) : SameBut [.now, .pins, .lds] s (fieldSeen at_ s) :=
  (((reachTime_frame at_ s).trans (setPins_frame _ _)).trans (setLds_frame _ _)).mono (by simp)

theorem Lds.lineStart_run {l : Lds} (h : l.st = .run) : l.lineStart =
    { l.endLine with
      line := min 255 (l.line + 1), asm := if l.field.examines (min 255 (l.line + 1)) then .runIn else .idle } := by
  simp only [Lds.lineStart, h]

theorem examines_iff (w : LineWindow) (line : Nat) : w.examines line = true ↔
    w.first ≤ line ∧ line < w.first + w.size ∧ w.mask.getLsbD (line - w.first) = true := by
  simp [LineWindow.examines, and_assoc]

/-! ### Framing (R93) -/

/-- R93: the 16 alternating bits of a run-in. -/
def runInBits : List Bool :=
  [true, false, true, false, true, false, true, false, true, false, true, false, true, false, true, false]

/-- R93: the framing code 0x9B, the least significant bit first. -/
def framingBits : List Bool := [true, true, false, true, true, false, false, true]

theorem framingBits_value : bitsValue framingBits = 0x9B := by decide

/-- R93: a run-in at the start of the bits is the first one. -/
theorem afterRunIn_runIn (more : List Bool) : afterRunIn (runInBits ++ more) = some more := rfl

/-- R93: a run-in and the framing code frame the line. -/
theorem Lds.frame_framed {l : Lds} (ha : l.asm = .runIn) (hs : l.searched = false) (more : List Bool) :
    l.frame (runInBits ++ framingBits ++ more) = { l with asm := .framed, bytes := [] } := by
  have hlen : ¬ (framingBits ++ more).length < 8 := by simp [framingBits]
  have hcode : bitsValue ((framingBits ++ more).take 8) = 0x9B := framingBits_value
  simp only [Lds.frame, ha, hs, List.append_assoc, afterRunIn_runIn, if_neg hlen, if_pos hcode, Bool.false_eq_true, if_false]

end Sys2Proof.Machine

open Sys2Proof Sys2Proof.Machine

/-- Settles O44: a second field is no frame start, so that LDS alone takes it; a line start and the line's bits are work of LDS
alone. -/
theorem fieldsLinesAndFraming : Obligations.FieldsLinesAndFraming := by
  refine ⟨?_, ?_, ?_⟩
  · intro s at_ hi hp hl hsecond hst hat
    refine ⟨_, command_leaves (fieldStart_second hsecond at_) (fieldSeen_frame at_ s) hi hp hl, max_eq_right hat, ?_,
      Lds.fieldStart_running hst, fieldSeen_frame at_ s⟩
    simp [fieldSeen, hsecond]
  · intro s hi hp hl hst
    have hframe := setLds_frame s { s.lds.endLine with
      line := min 255 (s.lds.line + 1), asm := if s.lds.field.examines (min 255 (s.lds.line + 1)) then .runIn else .idle }
    refine ⟨_, command_leaves (congrArg s.setLds (Lds.lineStart_run hst)) hframe hi hp hl, rfl, rfl, rfl, ?_, hframe⟩
    simp only [State.setLds_lds, examines_iff]
  · intro s more hi hp hl hasm hsearched
    have hframed := Lds.frame_framed hasm hsearched more
    have hframe := setLds_frame s (s.lds.frame (runInBits ++ framingBits ++ more))
    exact ⟨_, command_leaves rfl hframe hi hp hl, hframed, hframe⟩

end

section
/-! LEMMA. Packets join the FIFO (R94, R95, R98, R100) and are taken from it (R101, R102, R103, R111). -/

namespace Sys2Proof.Machine

/-! ### The checks of a packet (R94, R95, R98) -/

/-- R95: one byte of even parity spoils the sixteen. -/
theorem packetOf_even {bytes : List (BitVec 9)} (h : ∃ b ∈ bytes, ones9 b % 2 = 0) : packetOf bytes = none := by
  obtain ⟨b, hb, heven⟩ := h
  have hall : bytes.all parityGood = false := List.all_eq_false.2 ⟨b, hb, by simp [parityGood, heven]⟩
  simp [packetOf, hall]

/-- R95, R98: the checks of a LABEL packet. -/
theorem packetOf_label {bytes : List (BitVec 9)} {lo hi month day hour minute status : Byte} {rest : List Byte}
    (hd : bytes.map data9 = 0x27 :: lo :: hi :: month :: day :: hour :: minute :: status :: rest)
    (hlen : bytes.length = 16) (hodd : ∀ b ∈ bytes, ones9 b % 2 = 1)
    (hsum : (bytes.map data9).getLastD 0 = checkSum ((bytes.map data9).take 15)) (hstatus : status.toNat ≤ 3) :
    packetOf bytes = some (.label (lo.toNat + 256 * hi.toNat) month day hour minute status.toNat) := by
  have hall : bytes.all parityGood = true := List.all_eq_true.2 fun b hb => by simp [parityGood, hodd b hb]
  have hgood : (bytes.length != 16 || !bytes.all parityGood) = false := by simp [hlen, hall]
  have hcheck : ((bytes.map data9).getLastD 0 != checkSum ((bytes.map data9).take 15)) = false :=
    bne_eq_false_iff_eq.2 hsum
  simp only [packetOf, hgood, hcheck, Bool.false_eq_true, if_false]
  rw [hd]
  simp [hstatus]

/-- The sixteen data values of a packet, the first eight one by one. -/
theorem toList_eq_cons (d : Vector Byte 16) :
    d.toList = d[0] :: d[1] :: d[2] :: d[3] :: d[4] :: d[5] :: d[6] :: d[7] :: d.toList.drop 8 := by
  apply List.ext_getElem
  · simp
  · intro i h _
    have hi : i < 16 := by simpa using h
    interval_cases i <;> simp

theorem toList_getLastD (d : Vector Byte 16) : d.toList.getLastD 0 = d[15] := by
  rw [List.getLastD_eq_getLast?, List.getLast?_eq_getElem?]
  simp

/-! ### A packet joins (R94, R100) -/

section
variable {l : Lds} {bytes : List (BitVec 9)} (dwell : Bool)

/-- R94: the sixteenth byte ends the packet. -/
theorem Lds.collect_packet {p : Packet} (ha : l.asm = .framed) (hb : l.bytes = []) (hlen : bytes.length = 16)
    (hp : packetOf bytes = some p) : l.collect dwell bytes = { l with asm := .done, bytes := bytes }.join dwell p := by
  have htake : bytes.take 16 = bytes := List.take_of_length_le hlen.le
  simp [Lds.collect, ha, hb, htake, hlen, hp]

/-- R95: bytes that fail a check yield nothing. -/
theorem Lds.collect_nothing (ha : l.asm = .framed) (hb : l.bytes = []) (hlen : bytes.length = 16)
    (hp : packetOf bytes = none) : l.collect dwell bytes = { l with asm := .done, bytes := bytes } := by
  have htake : bytes.take 16 = bytes := List.take_of_length_le hlen.le
  simp [Lds.collect, ha, hb, htake, hlen, hp]

/-- R100: a LABEL packet joins a FIFO without one while there is room, and SCH's take falls due. -/
theorem Lds.join_label (net : Nat) (month day hour minute : Byte) (status : Nat)
    (hnone : ∀ p ∈ l.fifo, p.isLabel = false) (hroom : l.fifo.length < 8) :
    l.join dwell (.label net month day hour minute status) =
      { l with fifo := l.fifo ++ [.label net month day hour minute status], schTakes := l.schTakes + 1 } := by
  have hany : (l.fifo.any fun q => q.alike (.label net month day hour minute status)) = false :=
    List.any_eq_false.2 fun q hq ha => by
      have hlabel : q.isLabel = true := Packet.alike_label_isLabel ha
      rw [hnone q hq] at hlabel
      cases hlabel
  simp [Lds.join, hany, hroom, Lds.due]

end

/-! ### Takes (R101, R102, R103) -/

section
variable {s : State}

/-- R101, R111: CLK takes the one TIME packet of the FIFO. -/
theorem timeTake_one {y mo d h mi sec code : Byte} (hdue : 0 < s.lds.clkTakes) (hvoid : s.lds.clkVoid = 0)
    (hf : s.lds.fifo = [.time y mo d h mi sec code]) : timeTake s =
      timePacket y mo d h mi sec code (s.setLds { s.lds with fifo := [], clkTakes := s.lds.clkTakes - 1 }) := by
  have htake : s.lds.takeTime (inDwell s) =
      ({ s.lds with fifo := [], clkTakes := s.lds.clkTakes - 1 }, some (.time y mo d h mi sec code)) := by
    simp [Lds.takeTime, Lds.takeEntry, hvoid, hf, takeOldest, Packet.isTime, Lds.dropNames]
  simp only [timeTake, hdue.ne', if_false, htake]

/-- R101: SCH takes the one LABEL packet of the FIFO. -/
theorem labelTake_one {net status : Nat} {mo d h mi : Byte} (hdue : 0 < s.lds.schTakes) (hvoid : s.lds.schVoid = 0)
    (hf : s.lds.fifo = [.label net mo d h mi status]) : labelTake s =
      labelPacket net [mo, d, h, mi] status (s.setLds { s.lds with fifo := [], schTakes := s.lds.schTakes - 1 }) := by
  have htake : s.lds.takeLabel (inDwell s) =
      ({ s.lds with fifo := [], schTakes := s.lds.schTakes - 1 }, some (.label net mo d h mi status)) := by
    simp [Lds.takeLabel, Lds.takeEntry, hvoid, hf, takeOldest, Packet.isLabel, Lds.dropNames]
  simp only [labelTake, hdue.ne', if_false, htake]

/-- R102: outside a scan TUN takes the one NAME packet of the FIFO for nothing. -/
theorem nameTake_one {net : Nat} {chars : List Byte} (hdue : 0 < s.lds.tunTakes) (hvoid : s.lds.tunVoid = 0)
    (hf : s.lds.fifo = [.name net chars]) (hscan : s.tun.scan = none) :
    nameTake s = s.setLds { s.lds with fifo := [], tunTakes := s.lds.tunTakes - 1 } := by
  have htake : s.lds.takeName = ({ s.lds with fifo := [], tunTakes := s.lds.tunTakes - 1 }, some (.name net chars)) := by
    simp [Lds.takeName, Lds.takeEntry, hvoid, hf, takeOldest, Packet.isName, Lds.dropNames]
  simp [nameTake, hdue.ne', htake, inDwell, hscan]

/-- R103: a take that an emptying has left finds nothing. -/
theorem timeTake_void (hdue : 0 < s.lds.clkTakes) (hvoid : 0 < s.lds.clkVoid) : timeTake s =
    s.setLds { s.lds with clkTakes := s.lds.clkTakes - 1, clkVoid := s.lds.clkVoid - 1 } := by
  simp [timeTake, hdue.ne', Lds.takeTime, Lds.takeEntry, hvoid.ne']

theorem labelTake_void (hdue : 0 < s.lds.schTakes) (hvoid : 0 < s.lds.schVoid) : labelTake s =
    s.setLds { s.lds with schTakes := s.lds.schTakes - 1, schVoid := s.lds.schVoid - 1 } := by
  simp [labelTake, hdue.ne', Lds.takeLabel, Lds.takeEntry, hvoid.ne']

theorem nameTake_void (hdue : 0 < s.lds.tunTakes) (hvoid : 0 < s.lds.tunVoid) : nameTake s =
    s.setLds { s.lds with tunTakes := s.lds.tunTakes - 1, tunVoid := s.lds.tunVoid - 1 } := by
  simp [nameTake, hdue.ne', Lds.takeName, Lds.takeEntry, hvoid.ne']

/-- R111, R112: a good TIME packet becomes the held sample when none is held. -/
theorem timePacket_held {y mo d h mi sec code : Byte} (hb : setBroadcast s.mpath.settings = true) (hs : s.clk.sample = none)
    (hdate : validDate y.toNat mo.toNat d.toNat = true) (hh : h.toNat ≤ 23) (hmi : mi.toNat ≤ 59) (hsec : sec.toNat ≤ 59)
    (hlo : -26 ≤ code.toInt) (hhi : code.toInt ≤ 28) : timePacket y mo d h mi sec code s = s.setClk { s.clk with
      sample := some
        ⟨((⟨y.toNat, mo.toNat, d.toNat, h.toNat, mi.toNat, sec.toNat⟩ : DateTime).secs : Int) - s.clk.time.secs,
          code.toInt, 0⟩ } := by
  simp [timePacket, meetSample, DateTime.wf, hb, hs, hdate, hh, hmi, hsec, hlo, hhi]

/-- With no occurrence SCH makes nothing of a LABEL packet (R136). -/
theorem labelPacket_idle (h : s.sch.run = none) (net : Nat) (label : List Byte) (status : Nat) :
    labelPacket net label status s = s := by
  simp [labelPacket, h]

/-- A command that is work of LDS alone. -/
theorem command_setLds {f : State → State} {l : Lds} (hf : f s = s.setLds l) (hi : ScheduleIdle s) (hp : PowerSteady s)
    (hl : LinesStand s) : ∃ t, command f s = .next t ∧ t.lds = l ∧ SameBut [.lds] s t :=
  ⟨_, command_leaves hf (setLds_frame s l) hi hp hl, rfl, setLds_frame s l⟩

theorem linePacketComplete_collects {bytes : List (BitVec 9)} {l : Lds} (hc : s.lds.collect (inDwell s) bytes = l)
    (hi : ScheduleIdle s) (hp : PowerSteady s) (hl : LinesStand s) :
    ∃ t, exec (.linePacketComplete bytes) s = .next t ∧ t.lds = l ∧ SameBut [.lds] s t :=
  command_setLds (f := fun s => s.setLds (s.lds.collect (inDwell s) bytes)) (congrArg s.setLds hc) hi hp hl

end

end Sys2Proof.Machine

open Sys2Proof Sys2Proof.Machine

/-- Settles O45: what the checks make of sixteen bytes joins the FIFO; a take finds its packet, or nothing where an emptying came
first. -/
theorem packetsJoinAndLeaveTheFifo : Obligations.PacketsJoinAndLeaveTheFifo := by
  refine ⟨?_, ⟨?_, ?_, ?_⟩, ?_⟩
  · intro s bytes hi hp hl hasm hbytes hlen
    constructor
    · intro d hd hodd hsum htype hstatus hnone hroom
      have hcons : bytes.map data9 = (0x27 : Byte) :: d[1] :: d[2] :: d[3] :: d[4] :: d[5] :: d[6] :: d[7] :: d.toList.drop 8 := by
        rw [hd, ← htype]
        exact toList_eq_cons d
      have hpacket := packetOf_label hcons hlen hodd (by rw [hd, toList_getLastD]; exact hsum) hstatus
      obtain ⟨t, hx, hlds, hframe⟩ := linePacketComplete_collects
        ((Lds.collect_packet (inDwell s) hasm hbytes hlen hpacket).trans (Lds.join_label (inDwell s) _ _ _ _ _ _ hnone hroom))
        hi hp hl
      refine ⟨t, hx, ?_⟩
      rw [hlds]
      exact ⟨rfl, rfl, rfl, rfl, hframe⟩
    · intro heven
      obtain ⟨t, hx, hlds, hframe⟩ := linePacketComplete_collects
        (Lds.collect_nothing (inDwell s) hasm hbytes hlen (packetOf_even heven)) hi hp hl
      refine ⟨t, hx, ?_⟩
      rw [hlds]
      exact ⟨rfl, rfl, rfl, rfl, hframe⟩
  · intro s y mo d h mi sec code hi hp hl hdue hvoid hfifo hb hsample hdate hh hmi hsec hlo hhi
    have hframe (l : Lds) (c : Clk) : SameBut [.lds, .clk] s ((s.setLds l).setClk c) := by
      intro p hp; cases p <;> simp_all [Part.same]
    have hf := (timeTake_one hdue hvoid hfifo).trans (timePacket_held (s := s.setLds _) hb hsample hdate hh hmi hsec hlo hhi)
    exact ⟨_, command_leaves hf (hframe _ _) hi hp hl, rfl, rfl, hframe _ _⟩
  · intro s net status mo d h mi hi hp hl hdue hvoid hfifo
    exact command_setLds ((labelTake_one hdue hvoid hfifo).trans (labelPacket_idle (by exact hi.run) _ _ _)) hi hp hl
  · intro s net chars hi hp hl hdue hvoid hfifo hscan
    exact command_setLds (nameTake_one hdue hvoid hfifo hscan) hi hp hl
  · intro s hi hp hl
    exact ⟨fun hdue hvoid => command_setLds (timeTake_void hdue hvoid) hi hp hl,
      fun hdue hvoid => command_setLds (labelTake_void hdue hvoid) hi hp hl,
      fun hdue hvoid => command_setLds (nameTake_void hdue hvoid) hi hp hl⟩

end

section
/-! SUPPORT. The calendar (R105, R106, R107): the second's carry, and the date-time of a count of seconds. -/

namespace Sys2Proof.Machine

/-! ### Valid dates and date-times (R107) -/

theorem validDate_iff (y m d : Nat) :
    validDate y m d = true ↔ y ≤ 99 ∧ 1 ≤ m ∧ m ≤ 12 ∧ 1 ≤ d ∧ d ≤ lastDay y m := by
  simp [validDate, and_assoc]

theorem DateTime.wf_iff (t : DateTime) :
    t.wf = true ↔ validDate t.year t.month t.day = true ∧ t.hour ≤ 23 ∧ t.minute ≤ 59 ∧ t.second ≤ 59 := by
  simp [DateTime.wf, and_assoc]

theorem limitTime_wf : limitTime.wf = true := by decide

/-! ### Months and years (R105) -/

theorem lastDay_pos (y m : Nat) : 1 ≤ lastDay y m := by
  unfold lastDay
  split_ifs <;> decide

theorem lastDay_december (y : Nat) : lastDay y 12 = 31 := rfl

theorem isLeap_iff (y : Nat) : isLeap y = true ↔ (1990 + y) % 4 = 0 := by simp [isLeap]

theorem monthStart_january (y : Nat) : monthStart y 1 = 0 := rfl

/-- R105: each month starts where the one before it ends. -/
theorem monthStart_succ (y : Nat) {m : Nat} (h1 : 1 ≤ m) (h2 : m < 12) :
    monthStart y (m + 1) = monthStart y m + lastDay y m := by
  interval_cases m <;> cases h : isLeap y <;> simp [monthStart, lastDay, h]

/-- R105: a year starts where December of the one before it ends. -/
theorem yearStart_succ (y : Nat) : yearStart (y + 1) = yearStart y + monthStart y 12 + 31 := by
  have hleap := isLeap_iff y
  cases h : isLeap y <;> simp [h, monthStart, yearStart] at hleap ⊢ <;> omega

/-! ### The second's carry (R105, R107) -/

/-- R105: one second on, below the limit, is a valid date-time. -/
theorem DateTime.tick_wf {t : DateTime} (h : t.wf = true) (hl : t ≠ limitTime) : t.tick.wf = true := by
  simp only [DateTime.wf_iff, validDate_iff] at h ⊢
  obtain ⟨⟨hy, hm1, hm2, hd1, hd2⟩, hh, hmi, hs⟩ := h
  unfold DateTime.tick
  split_ifs with h1 h2 h3 h4 h5 <;> dsimp only
  · exact ⟨⟨hy, hm1, hm2, hd1, hd2⟩, hh, hmi, h1⟩
  · exact ⟨⟨hy, hm1, hm2, hd1, hd2⟩, hh, h2, Nat.zero_le _⟩
  · exact ⟨⟨hy, hm1, hm2, hd1, hd2⟩, h3, by decide⟩
  · exact ⟨⟨hy, hm1, hm2, by omega, h4⟩, by decide⟩
  · exact ⟨⟨hy, by omega, h5, le_rfl, lastDay_pos _ _⟩, by decide⟩
  · have hm : t.month = 12 := by omega
    have hd : t.day = 31 := by rw [hm, lastDay_december] at h4 hd2; omega
    have hy' : t.year ≠ 99 := fun hy' => hl (by
      cases t
      simp only [limitTime, DateTime.mk.injEq] at *
      omega)
    exact ⟨⟨by omega, le_rfl, by decide, le_rfl, lastDay_pos _ _⟩, by decide⟩

/-- R105: the carry makes the count of seconds one more. -/
theorem DateTime.tick_secs {t : DateTime} (h : t.wf = true) : t.tick.secs = t.secs + 1 := by
  simp only [DateTime.wf_iff, validDate_iff] at h
  obtain ⟨⟨-, hm1, hm2, hd1, hd2⟩, hh, hmi, hs⟩ := h
  have hmonth := monthStart_succ t.year hm1
  have hyear := yearStart_succ t.year
  unfold DateTime.tick
  split_ifs with h1 h2 h3 h4 h5 <;> simp only [DateTime.secs, daysOf]
  · omega
  · omega
  · omega
  · omega
  · have := hmonth h5
    omega
  · have hm : t.month = 12 := by omega
    rw [hm, lastDay_december] at h4 hd2
    rw [hm, monthStart_january]
    omega

/-! ### The date-time of a count of seconds (R110) -/

/-- Up to the limit, the year of a day count holds the day. -/
theorem yearOfDays_spec {n : Nat} (h : n < 36525) :
    yearStart (yearOfDays n) ≤ n ∧ n < yearStart (yearOfDays n + 1) ∧ yearOfDays n ≤ 99 := by
  unfold yearOfDays
  split <;> simp only [yearStart] at * <;> omega

/-- The month of a day of the year is the latest that has started. -/
theorem monthOfDay_spec (y n : Nat) {k : Nat} (hk : 1 ≤ k) :
    1 ≤ monthOfDay y n k ∧ monthOfDay y n k ≤ k ∧ monthStart y (monthOfDay y n k) ≤ n
      ∧ (monthOfDay y n k < k → n < monthStart y (monthOfDay y n k + 1)) := by
  induction k, hk using Nat.le_induction with
  | base => simp [monthOfDay, monthStart_january]
  | succ k hk ih =>
    rw [monthOfDay]
    split_ifs with hm
    · exact ⟨by omega, le_rfl, hm, fun hlt => absurd hlt (lt_irrefl _)⟩
    · obtain ⟨h1, h2, h3, h4⟩ := ih
      refine ⟨h1, by omega, h3, fun _ => ?_⟩
      rcases h2.lt_or_eq with hlt | heq
      · exact h4 hlt
      · rw [heq]
        omega

/-- Up to the limit, the date of a day count is valid. -/
theorem validDate_dateOfDays {n : Nat} (h : n < 36525) (hour minute second : Nat) :
    validDate (dateOfDays n hour minute second).year (dateOfDays n hour minute second).month
      (dateOfDays n hour minute second).day = true := by
  obtain ⟨hlo, hhi, hy⟩ := yearOfDays_spec h
  obtain ⟨hm1, hm2, hstart, hnext⟩ := monthOfDay_spec (yearOfDays n) (n - yearStart (yearOfDays n)) (k := 12) (by decide)
  rw [yearStart_succ] at hhi
  refine (validDate_iff _ _ _).2 ⟨hy, hm1, hm2, Nat.le_add_left 1 _, ?_⟩
  rcases hm2.lt_or_eq with hlt | heq
  · have hlast := hnext hlt
    rw [monthStart_succ _ hm1 hlt] at hlast
    simp only [dateOfDays]
    omega
  · simp only [dateOfDays, heq, lastDay_december]
    omega

/-- R107, R110: up to the limit, the date-time of a count of seconds is valid. -/
theorem dateTimeOf_wf {n : Nat} (h : n ≤ limitTime.secs) : (dateTimeOf n).wf = true := by
  have hlimit : limitTime.secs = 36524 * 86400 + 86399 := by decide
  refine (DateTime.wf_iff _).2 ⟨validDate_dateOfDays (by omega) _ _ _, ?_, ?_, ?_⟩ <;>
    simp only [dateTimeOf, dateOfDays] <;> omega

end Sys2Proof.Machine
end

section
/-! SUPPORT. R104, R105, R107: what leaves the clock's count alone: every operation but the second's advance, the clock's steps
and what may apply one of them keeps `State.dial`. One lemma per operation, in the order of the model's definitions. -/

namespace Sys2Proof.Machine

/-- What `ClockWf` speaks of: the date and time that the clock holds, and its sub-second count. -/
structure Dial where
  time : DateTime
  sub : Nat

/-- The clock's date, time and sub-second count. -/
def State.dial (s : State) : Dial := ⟨s.clk.time, s.clk.sub⟩

/-! ### One field of another block -/

section
variable (s : State)

@[simp] theorem State.setNow_dial (x : Nat) : (s.setNow x).dial = s.dial := by rfl
@[simp] theorem State.setFree_dial (x : Nat) : (s.setFree x).dial = s.dial := by rfl
@[simp] theorem State.setNotices_dial (x : List Notice) : (s.setNotices x).dial = s.dial := by rfl
@[simp] theorem State.setTaken_dial (x : List (Fin 16)) : (s.setTaken x).dial = s.dial := by rfl
@[simp] theorem State.setMem_dial (x : Memory) : (s.setMem x).dial = s.dial := by rfl
@[simp] theorem State.setCtlOut_dial (x : Option Nat) : (s.setCtlOut x).dial = s.dial := by rfl
@[simp] theorem State.setPins_dial (x : Pins) : (s.setPins x).dial = s.dial := by rfl
@[simp] theorem State.setTrc_dial (x : Trc) : (s.setTrc x).dial = s.dial := by rfl
@[simp] theorem State.setSrv_dial (x : Srv) : (s.setSrv x).dial = s.dial := by rfl
@[simp] theorem State.setPos_dial (x : Pos) : (s.setPos x).dial = s.dial := by rfl
@[simp] theorem State.setTun_dial (x : Tun) : (s.setTun x).dial = s.dial := by rfl
@[simp] theorem State.setLds_dial (x : Lds) : (s.setLds x).dial = s.dial := by rfl
@[simp] theorem State.setSch_dial (x : Sch) : (s.setSch x).dial = s.dial := by rfl
@[simp] theorem State.setMpath_dial (x : Mpath) : (s.setMpath x).dial = s.dial := by rfl
@[simp] theorem State.setRqu_dial (x : Rqu) : (s.setRqu x).dial = s.dial := by rfl
@[simp] theorem State.setPwr_dial (x : Pwr) : (s.setPwr x).dial = s.dial := by rfl

@[simp] theorem State.setClk_dial (x : Clk) : (s.setClk x).dial = ⟨x.time, x.sub⟩ := by rfl
@[simp] theorem Dial.mk_clk : (⟨s.clk.time, s.clk.sub⟩ : Dial) = s.dial := by rfl

end

/-- An operation of two branches. -/
@[simp] theorem ite_dial (c : Prop) [Decidable c] (s t : State) :
    (if c then s else t).dial = if c then s.dial else t.dial := apply_ite State.dial c s t

/-- The same, for an operation that answers. -/
@[simp] theorem ite_fst_dial (c : Prop) [Decidable c] (r q : State × Answer) :
    (if c then r else q).1.dial = if c then r.1.dial else q.1.dial := apply_ite (fun r : State × Answer => r.1.dial) c r q

/-- An operation whose frame holds CLK. -/
theorem SameBut.dial {ps : List Part} {s t : State} (h : SameBut ps s t) (hp : .clk ∉ ps := by decide) : t.dial = s.dial := by
  have hclk : t.clk = s.clk := h .clk hp
  simp only [State.dial, hclk]

/-! ### Time, memory, groups and events -/

section
variable (s : State)

@[simp] theorem reachTime_dial (t : Nat) : (reachTime t s).dial = s.dial := by rfl
@[simp] theorem reachLimit_dial (since limit : Nat) : (reachLimit since limit s).dial = s.dial := by rfl
@[simp] theorem writeRegion_dial (off : Nat) (v : Byte) : (writeRegion off v s).dial = s.dial := by rfl
@[simp] theorem enqueue_dial (g : WriteGroup) : (enqueue g s).dial = s.dial := by rfl
@[simp] theorem askSlot_dial (b : Block) : (askSlot b s).dial = s.dial := by rfl
@[simp] theorem dropAsk_dial (b : Block) : (dropAsk b s).dial = s.dial := by rfl
@[simp] theorem notify_dial (n : Notice) : (notify n s).dial = s.dial := by rfl
@[simp] theorem setLines_dial (ran : Bool) : (setLines ran s).dial = s.dial := by rfl
@[simp] theorem groupLeft_dial (g : WriteGroup) : (groupLeft g s).dial = s.dial := by simp [groupLeft]

@[simp] theorem groupsLeft_dial (gs : List WriteGroup) : (groupsLeft gs s).dial = s.dial := by
  induction gs generalizing s with
  | nil => rfl
  | cons k rest ih => simp [groupsLeft, ih]

@[simp] theorem clearPending_dial (off : Nat) : (clearPending off s).dial = s.dial := by simp [clearPending]

@[simp] theorem drainByte_dial : (drainByte s).dial = s.dial := by
  unfold drainByte
  split
  · rfl
  · split <;> simp

@[simp] theorem post_dial (e : Event) : (post e s).dial = s.dial := (post_frame e s).dial
@[simp] theorem offerRqu_dial (g : WriteGroup) : (offerRqu g s).dial = s.dial := by simp [offerRqu]
@[simp] theorem acknowledge_dial (seq : Byte) : (acknowledge seq s).dial = s.dial := by simp [acknowledge]
@[simp] theorem makeResult_dial (a : Answer) (tag : Byte) : (makeResult a tag s).dial = s.dial := by simp [makeResult]

end

/-! ### The clock -/

section
variable (s : State)

@[simp] theorem deferStep_dial (d : Int) : (deferStep d s).dial = s.dial := by simp [deferStep]

@[simp] theorem reportRunning_dial : (reportRunning s).dial = s.dial := by rfl

@[simp] theorem retain_dial (r : Retained) : (retain r s).dial = s.dial := by rfl
@[simp] theorem clearRetained_dial : (clearRetained s).dial = s.dial := by rfl
@[simp] theorem postInvalid_dial : (postInvalid s).dial = s.dial := by simp [postInvalid]

end

/-! ### The transport -/

section
variable (s : State)

@[simp] theorem applyRow_dial (on : Bool) : (applyRow on s).dial = s.dial := (applyRow_frame on s).dial
@[simp] theorem useSpeed_dial (m : Speed) (o : SpeedOrigin) : (useSpeed m o s).dial = s.dial := (useSpeed_frame m o s).dial
@[simp] theorem restartDrum_dial : (restartDrum s).dial = s.dial := by rfl
@[simp] theorem restartCap_dial : (restartCap s).dial = s.dial := by rfl

@[simp] theorem enterCore_dial (st : TransportState) (on : Bool) : (enterCore st on s).dial = s.dial :=
  (enterCore_frame st on s).dial

@[simp] theorem reportState_dial : (reportState s).dial = s.dial := by unfold reportState; split <;> simp

@[simp] theorem enterPosting_dial (st : TransportState) (o : Origin) (on : Bool) : (enterPosting st o on s).dial = s.dial := by
  simp [enterPosting]

@[simp] theorem enter_dial (st : TransportState) (o : Origin) (quiet on : Bool) : (enter st o quiet on s).dial = s.dial := by
  simp [enter]

@[simp] theorem stopWriting_dial : (stopWriting s).dial = s.dial := by simp [stopWriting]
@[simp] theorem beginWriting_dial : (beginWriting s).dial = s.dial := by rfl
@[simp] theorem tryWriting_dial : (tryWriting s).dial = s.dial := by simp [tryWriting]

@[simp] theorem latchFault_dial (code : FaultCode) (detail : Nat) : (latchFault code detail s).dial = s.dial := by
  unfold latchFault
  dsimp only
  split
  · simp
  · split <;> simp

@[simp] theorem limitCore_dial (e : TapeEnd) (stall : Bool) : (limitCore e stall s).dial = s.dial := by
  unfold limitCore
  dsimp only
  split <;> split <;> simp

@[simp] theorem takeRewind_dial : (takeRewind s).dial = s.dial := by simp [takeRewind]
@[simp] theorem tapeLimit_dial (e : TapeEnd) (stall : Bool) : (tapeLimit e stall s).dial = s.dial := by simp [tapeLimit]
@[simp] theorem meetLimit_dial : (meetLimit s).dial = s.dial := by unfold meetLimit; split <;> simp

@[simp] theorem enterMotion_dial (st : TransportState) (o : Origin) (quiet : Bool) :
    (enterMotion st o quiet s).dial = s.dial := by simp [enterMotion]

@[simp] theorem startRun_dial (goal : Nat) : (startRun goal s).dial = s.dial := by rfl
@[simp] theorem enterPhase_dial (p : RecPhase) : (enterPhase p s).dial = s.dial := by rfl
@[simp] theorem beginPause_dial (o : Origin) (quiet : Bool) : (beginPause o quiet s).dial = s.dial := by simp [beginPause]
@[simp] theorem startCatchUp_dial (o : Origin) : (startCatchUp o s).dial = s.dial := by simp [startCatchUp]
@[simp] theorem backSpaceDone_dial : (backSpaceDone s).dial = s.dial := by unfold backSpaceDone; split <;> simp
@[simp] theorem reverseCatchUp_dial : (reverseCatchUp s).dial = s.dial := by simp [reverseCatchUp]
@[simp] theorem catchUpDone_dial : (catchUpDone s).dial = s.dial := by simp [catchUpDone]

@[simp] theorem runDone_dial : (runDone s).dial = s.dial := by
  unfold runDone
  split
  · split <;> simp
  · simp

@[simp] theorem enterRecord_dial (m : Speed) (mark paused : Bool) (o : Origin) (quiet : Bool) :
    (enterRecord m mark paused o quiet s).dial = s.dial := by simp [enterRecord]

@[simp] theorem stopSearch_dial : (stopSearch s).dial = s.dial := by unfold stopSearch; split <;> simp

@[simp] theorem startGoto_dial (target : Int) (o : Origin) (quiet : Bool) : (startGoto target o quiet s).dial = s.dial := by
  simp [startGoto]

@[simp] theorem startIndex_dial (dir : Dir) (count : Nat) (o : Origin) (quiet : Bool) :
    (startIndex dir count o quiet s).dial = s.dial := by simp [startIndex]

@[simp] theorem searchFound_dial (k : Search) : (searchFound k s).dial = s.dial := by simp [searchFound]
@[simp] theorem counterChanged_dial : (counterChanged s).dial = s.dial := by unfold counterChanged; split <;> simp
@[simp] theorem markReported_dial (m : Int) : (markReported m s).dial = s.dial := by unfold markReported; split <;> simp
@[simp] theorem searchTimeout_dial : (searchTimeout s).dial = s.dial := by unfold searchTimeout; split <;> simp
@[simp] theorem beginThread_dial (p : Target) : (beginThread p s).dial = s.dial := by simp [beginThread]

@[simp] theorem beginUnthread_dial (pending : Option Target) (o : Origin) : (beginUnthread pending o s).dial = s.dial := by
  simp [beginUnthread]

@[simp] theorem beginEject_dial (o : Origin) : (beginEject o s).dial = s.dial := by simp [beginEject]
@[simp] theorem holdInStop_dial (p : Target) : (holdInStop p s).dial = s.dial := by rfl
@[simp] theorem serveTarget_dial (p : Target) : (serveTarget p s).dial = s.dial := by unfold serveTarget; split <;> simp

@[simp] theorem threadingDone_dial : (threadingDone s).dial = s.dial := by
  unfold threadingDone
  dsimp only
  split <;> simp

@[simp] theorem threadFailure_dial : (threadFailure s).dial = s.dial := by simp [threadFailure]

@[simp] theorem unthreadedSwitch_dial : (unthreadedSwitch s).dial = s.dial := by
  unfold unthreadedSwitch
  split
  · split <;> simp
  · split
    · split <;> simp
    · rfl
  · rfl

end

/-! ### The transport's requests -/

section
variable (s : State)

@[simp] theorem clearRewind_dial : (clearRewind s).dial = s.dial := by rfl
@[simp] theorem replaceTarget_dial (p : Target) : (replaceTarget p s).dial = s.dial := by rfl

@[simp] theorem requestMotion_dial (st : TransportState) (req : TargetRequest) :
    (requestMotion st req s).1.dial = s.dial := by
  unfold requestMotion
  split
  · rfl
  · split <;> simp

/-- The search that a request starts keeps it. -/
@[simp] theorem requestSearch_dial (req : TargetRequest) {start : State → State}
    (hs : ∀ u : State, (start u).dial = u.dial) : (requestSearch req start s).1.dial = s.dial := by
  unfold requestSearch
  split
  · rfl
  · split <;> simp [hs]

@[simp] theorem requestGoto_dial : (requestGoto s).1.dial = s.dial := by simp [requestGoto]
@[simp] theorem requestIndex_dial : (requestIndex s).1.dial = s.dial := by unfold requestIndex; split <;> simp

@[simp] theorem takeRecord_dial (m : Speed) (mark paused : Bool) (o : Origin) (quiet : Bool) :
    (takeRecord m mark paused o quiet s).1.dial = s.dial := by
  unfold takeRecord
  split <;> simp

@[simp] theorem dropHeld_dial : (dropHeld s).dial = s.dial := by simp [dropHeld]
@[simp] theorem stopTape_dial (o : Origin) (quiet : Bool) : (stopTape o quiet s).dial = s.dial := by simp [stopTape]
@[simp] theorem stopByTable_dial : (stopByTable s).1.dial = s.dial := by unfold stopByTable; split <;> simp
@[simp] theorem ownerToPanel_dial : (ownerToPanel s).dial = s.dial := by simp [ownerToPanel]
@[simp] theorem stopOverride_dial : (stopOverride s).1.dial = s.dial := by unfold stopOverride; split <;> simp
@[simp] theorem requestStop_dial : (requestStop s).1.dial = s.dial := by simp [requestStop]
@[simp] theorem pauseInPause_dial : (pauseInPause s).1.dial = s.dial := by unfold pauseInPause; split <;> simp

@[simp] theorem requestPause_dial : (requestPause s).1.dial = s.dial := by
  unfold requestPause
  split
  · rfl
  · split <;> simp

@[simp] theorem resumeInPause_dial (o : Origin) : (resumeInPause o s).1.dial = s.dial := by
  unfold resumeInPause
  split <;> simp

@[simp] theorem requestResume_dial : (requestResume s).1.dial = s.dial := by
  unfold requestResume
  split
  · rfl
  · split <;> simp

@[simp] theorem ejectByTable_dial (o : Origin) : (ejectByTable o s).1.dial = s.dial := by
  unfold ejectByTable
  split <;> simp

@[simp] theorem requestEject_dial : (requestEject s).1.dial = s.dial := by simp [requestEject]

@[simp] theorem requestReset_dial : (requestReset s).1.dial = s.dial := by
  unfold requestReset
  split
  · rfl
  · split <;> simp

@[simp] theorem requestRecover_dial : (requestRecover s).1.dial = s.dial := by
  unfold requestRecover
  split
  · rfl
  · split
    · rfl
    · rfl
    · dsimp only
      split_ifs <;> simp
    · rfl

end

/-! ### The cassette, the scheduler's operations on TRC, and the main rail -/

section
variable (s : State)

@[simp] theorem defaultSpeed_dial : (defaultSpeed s).dial = s.dial := by simp [defaultSpeed]
@[simp] theorem cassetteIn_dial (tab : Bool) : (cassetteIn tab s).dial = s.dial := by simp [cassetteIn]
@[simp] theorem cassetteGone_dial : (cassetteGone s).dial = s.dial := by simp [cassetteGone]

@[simp] theorem insertCassette_dial (tab : Bool) : (insertCassette tab s).1.dial = s.dial := by
  unfold insertCassette
  split <;> simp

@[simp] theorem removeCassette_dial : (removeCassette s).dial = s.dial := by unfold removeCassette; split <;> simp
@[simp] theorem takeTransport_dial : (takeTransport s).dial = s.dial := by rfl
@[simp] theorem returnTransport_dial : (returnTransport s).dial = s.dial := by simp [returnTransport]
@[simp] theorem schRecord_dial (m : Speed) : (schRecord m s).dial = s.dial := by unfold schRecord; split <;> simp
@[simp] theorem schResume_dial (mark : Bool) : (schResume mark s).dial = s.dial := by simp [schResume]
@[simp] theorem schPause_dial : (schPause s).dial = s.dial := by unfold schPause; split <;> simp

@[simp] theorem schStop_dial : (schStop s).dial = s.dial := by
  unfold schStop
  split
  · split <;> simp
  · simp

@[simp] theorem unthreadForPowerOff_dial (o : Origin) : (unthreadForPowerOff o s).dial = s.dial := by
  simp [unthreadForPowerOff]

@[simp] theorem stopDrumAllowance_dial : (stopDrumAllowance s).dial = s.dial := by simp [stopDrumAllowance]
@[simp] theorem transportRailLost_dial : (transportRailLost s).dial = s.dial := by simp [transportRailLost]

@[simp] theorem transportRailGood_dial : (transportRailGood s).dial = s.dial := by
  unfold transportRailGood
  dsimp only
  split <;> simp

@[simp] theorem startRecordCapstan_dial : (startRecordCapstan s).dial = s.dial := by simp [startRecordCapstan]
@[simp] theorem drumReported_dial (r : LockReport) : (drumReported r s).dial = s.dial := by cases r <;> simp [drumReported]
@[simp] theorem capReported_dial (r : LockReport) : (capReported r s).dial = s.dial := by cases r <;> simp [capReported]

end

/-! ### The tuner -/

section
variable (s : State)

@[simp] theorem sendWord_dial : (sendWord s).dial = s.dial := by
  unfold sendWord
  split
  · rfl
  · dsimp only; split <;> rfl

@[simp] theorem tunEnter_dial (st : TunerState) : (tunEnter st s).dial = s.dial := by simp [tunEnter]

@[simp] theorem settleOrHold_dial : (settleOrHold s).dial = s.dial := by simp [settleOrHold]

@[simp] theorem tuneDirect_dial (n : Nat) (tag : Byte) : (tuneDirect n tag s).dial = s.dial := by
  simp [tuneDirect]

@[simp] theorem tunePreset_dial (n : Nat) (tag : Byte) : (tunePreset n tag s).dial = s.dial := by
  simp [tunePreset]

@[simp] theorem tuneLine_dial : (tuneLine s).dial = s.dial := by simp [tuneLine]

@[simp] theorem dropStation_dial : (dropStation s).dial = s.dial := by simp [dropStation]

@[simp] theorem closeScan_dial (code : Byte) : (closeScan code s).dial = s.dial := by
  unfold closeScan; split <;> simp

@[simp] theorem endScan_dial (code : Byte) : (endScan code s).dial = s.dial := by simp [endScan]

@[simp] theorem railScan_dial : (railScan s).dial = s.dial := by simp [railScan]

@[simp] theorem scanTo_dial (n : Int) : (scanTo n s).dial = s.dial := by
  unfold scanTo
  split <;> simp

@[simp] theorem scanNext_dial : (scanNext s).dial = s.dial := by unfold scanNext; split <;> simp

@[simp] theorem scanResume_dial (l : Int) : (scanResume l s).dial = s.dial := by
  unfold scanResume; split <;> simp

@[simp] theorem handTun_dial (h : TunHeld) : (handTun h s).dial = s.dial := by
  unfold handTun
  split
  · rfl
  · rfl
  · split <;> simp

@[simp] theorem offerTun_dial (h : TunHeld) : (offerTun h s).dial = s.dial := by simp [offerTun]

@[simp] theorem offerOffset_dial (n : Nat) (v : Byte) : (offerOffset n v s).dial = s.dial := by simp [offerOffset]

@[simp] theorem writeOffset_dial : (writeOffset s).dial = s.dial := by
  unfold writeOffset
  split <;> simp

@[simp] theorem dropHeldOffset_dial (n : Nat) : (dropHeldOffset n s).dial = s.dial := by simp [dropHeldOffset]

@[simp] theorem makeStation_dial (net : Nat) (name : List Byte) : (makeStation net name s).dial = s.dial := by
  unfold makeStation; split <;> simp

@[simp] theorem acquireFail_dial (sync : Bool) : (acquireFail sync s).dial = s.dial := by
  unfold acquireFail
  split <;> simp

@[simp] theorem acquireLock_dial : (acquireLock s).dial = s.dial := by
  unfold acquireLock
  split <;> simp

@[simp] theorem lastSample_dial (r : Reading) : (lastSample r s).dial = s.dial := by simp [lastSample]

@[simp] theorem afcSample_dial (r : Reading) : (afcSample r s).dial = s.dial := by
  unfold afcSample
  split <;> simp

@[simp] theorem startAcquire_dial (r : Reading) : (startAcquire r s).dial = s.dial := by simp [startAcquire]

@[simp] theorem signalLost_dial (r : Reading) : (signalLost r s).dial = s.dial := by
  unfold signalLost
  split <;> simp

@[simp] theorem trackStep_dial (r : Reading) : (trackStep r s).dial = s.dial := by
  unfold trackStep
  split <;> simp

@[simp] theorem trackSample_dial (r : Reading) : (trackSample r s).dial = s.dial := by simp [trackSample]

@[simp] theorem takeTune_dial (k : TuneKind) (value : Nat) (tag : Byte) :
    (takeTune k value tag s).dial = s.dial := by cases k <;> simp [takeTune]

@[simp] theorem requestTune_dial : (requestTune s).1.dial = s.dial := by
  unfold requestTune
  split
  · rfl
  · split <;> simp

@[simp] theorem takeScan_dial (dir : ScanDir) (base : Nat) : (takeScan dir base s).dial = s.dial := by
  unfold takeScan; dsimp only; split <;> simp

@[simp] theorem requestScan_dial : (requestScan s).1.dial = s.dial := by
  unfold requestScan
  split <;> simp

@[simp] theorem requestScanStop_dial : (requestScanStop s).1.dial = s.dial := by simp [requestScanStop]

@[simp] theorem requestStore_dial : (requestStore s).1.dial = s.dial := by simp [requestStore]

@[simp] theorem takeFine_dial (d : Int) : (takeFine d s).dial = s.dial := by
  unfold takeFine; dsimp only; split <;> simp

@[simp] theorem requestFine_dial : (requestFine s).1.dial = s.dial := by
  unfold requestFine
  split <;> simp

@[simp] theorem takeTuner_dial : (takeTuner s).dial = s.dial := by simp [takeTuner]
@[simp] theorem returnTuner_dial : (returnTuner s).dial = s.dial := by rfl

@[simp] theorem tunerRailLost_dial : (tunerRailLost s).dial = s.dial := by
  unfold tunerRailLost
  dsimp only
  split
  · simp
  · split <;> simp

@[simp] theorem tunerRailGood_dial : (tunerRailGood s).dial = s.dial := by simp [tunerRailGood]

@[simp] theorem wordEnd_dial : (wordEnd s).dial = s.dial := by unfold wordEnd; split <;> rfl
@[simp] theorem sawReading_dial (r : Reading) : (sawReading r s).dial = s.dial := by rfl

@[simp] theorem settleEnd_dial (r : Reading) : (settleEnd r s).dial = s.dial := by simp [settleEnd]

@[simp] theorem afcEvent_dial (r : Reading) : (afcEvent r s).dial = s.dial := by simp [afcEvent]

@[simp] theorem trackEvent_dial (r : Reading) : (trackEvent r s).dial = s.dial := by simp [trackEvent]

@[simp] theorem watchEvent_dial (r : Reading) : (watchEvent r s).dial = s.dial := by simp [watchEvent]

@[simp] theorem stepTest_dial (r : Reading) : (stepTest r s).dial = s.dial := by
  unfold stepTest
  split <;> simp

@[simp] theorem dwellEnd_dial : (dwellEnd s).dial = s.dial := by simp [dwellEnd]

@[simp] theorem nameTake_dial : (nameTake s).dial = s.dial := by
  unfold nameTake
  split
  · rfl
  · dsimp only
    split
    · split <;> simp
    · simp

end

/-! ### Power -/

section
variable (s : State)

@[simp] theorem wake_dial (c : WakeCause) : (wake c s).dial = s.dial := by simp [wake]
@[simp] theorem cancelOff_dial : (cancelOff s).dial = s.dial := by simp [cancelOff]
@[simp] theorem beginOff_dial (off : PowerOff) (o : Origin) : (beginOff off o s).dial = s.dial := by simp [beginOff]
@[simp] theorem autoOff_dial : (autoOff s).dial = s.dial := by simp [autoOff]
@[simp] theorem completeOff_dial : (completeOff s).dial = s.dial := by simp [completeOff]

@[simp] theorem releaseHost_dial : (releaseHost s).dial = s.dial := by
  unfold releaseHost
  dsimp only
  split
  · split <;> simp
  · simp

@[simp] theorem railLost_dial : (railLost s).dial = s.dial := by simp [railLost]
@[simp] theorem dropToggle_dial : (dropToggle s).dial = s.dial := by simp [dropToggle]
@[simp] theorem requestPowerOff_dial : (requestPowerOff s).1.dial = s.dial := by simp [requestPowerOff]

end

/-! ### The scheduler -/

section
variable (s : State)

@[simp] theorem setEntry_dial (k : Fin 16) (e : Entry) : (setEntry k e s).dial = s.dial := by rfl
@[simp] theorem handSch_dial (h : SchHeld) : (handSch h s).dial = s.dial := by cases h <;> simp [handSch]
@[simp] theorem writeStatus_dial (k : Fin 16) : (writeStatus k s).dial = s.dial := by simp [writeStatus]

@[simp] theorem postProgramme_dial (k : Fin 16) (o : EndOutcome) (r : Reason) : (postProgramme k o r s).dial = s.dial := by
  simp [postProgramme]

@[simp] theorem recompute_dial (k : Fin 16) : (recompute k s).dial = s.dial := by
  unfold recompute
  dsimp only
  split
  · split <;> simp
  · simp

@[simp] theorem recomputeAll_dial (ks : List (Fin 16)) : (recomputeAll ks s).dial = s.dial := by
  induction ks generalizing s with
  | nil => rfl
  | cons k rest ih => simp [recomputeAll, ih]

@[simp] theorem makeLog_dial (k : Fin 16) (f : LogFacts) : (makeLog k f s).dial = s.dial := by simp [makeLog]

@[simp] theorem conclude_dial (k : Fin 16) (e : Entry) (f : LogFacts) : (conclude k e f s).dial = s.dial := by
  simp [conclude]

@[simp] theorem missDay_dial (k : Fin 16) (day : Nat) (reason : Reason) : (missDay k day reason s).dial = s.dial := by
  simp [missDay]

@[simp] theorem missNext_dial (k : Fin 16) (reason : Reason) : (missNext k reason s).dial = s.dial := by simp [missNext]

@[simp] theorem concludeRun_dial (c : Run) (o : EndOutcome) (r : Reason) (detail : Nat) :
    (concludeRun c o r detail s).dial = s.dial := by simp [concludeRun]

@[simp] theorem setRun_dial (c : Run) : (setRun c s).dial = s.dial := by rfl

@[simp] theorem startEffects_dial (c : Run) (counter : Int) : (startEffects c counter s).dial = s.dial := by
  simp [startEffects]

@[simp] theorem startOccurrence_dial : (startRun_ s).dial = s.dial := by unfold startRun_; split <;> simp
@[simp] theorem continueRun_dial (c : Run) (b : Fin 16) : (continueRun c b s).dial = s.dial := by simp [continueRun]
@[simp] theorem fallBack_dial (c : Run) : (fallBack c s).dial = s.dial := by simp [fallBack]

@[simp] theorem passOver_dial (k : Fin 16) : (passOver k s).dial = s.dial := by simp [passOver]

@[simp] theorem endPassed_dial (k : Fin 16) : (endPassed k s).dial = s.dial := by
  unfold endPassed
  dsimp only
  split <;> simp

@[simp] theorem endPassedAll_dial (ks : List (Fin 16)) : (endPassedAll ks s).dial = s.dial := by
  induction ks generalizing s with
  | nil => rfl
  | cons k rest ih => simp [endPassedAll, ih]

@[simp] theorem setWait_dial (w : WaitReason) (ks : List (Fin 16)) : (setWait w ks s).dial = s.dial := by
  induction ks generalizing s with
  | nil => rfl
  | cons k rest ih => simp [setWait, ih]

@[simp] theorem handRecord_dial (c : Run) : (handRecord c s).dial = s.dial := by simp [handRecord]
@[simp] theorem takeUp_dial (k : Fin 16) : (takeUp k s).dial = s.dial := by rfl

@[simp] theorem makeEmpty_dial (k : Fin 16) : (makeEmpty k s).dial = s.dial := by unfold makeEmpty; split <;> simp
@[simp] theorem expireClaim_dial (k : Fin 16) : (expireClaim k s).dial = s.dial := by simp [expireClaim]
@[simp] theorem claimTick_dial : (claimTick s).dial = s.dial := by unfold claimTick; split <;> simp

@[simp] theorem requestClaim_dial : (requestClaim s).1.dial = s.dial := by
  unfold requestClaim
  split
  · rfl
  · split
    · split <;> rfl
    · split <;> simp

@[simp] theorem takeCommit_dial (k : Fin 16) : (takeCommit k s).dial = s.dial := by simp [takeCommit]

@[simp] theorem requestCommit_dial : (requestCommit s).1.dial = s.dial := by
  unfold requestCommit
  split
  · rfl
  · split
    · rfl
    · split <;> simp

@[simp] theorem requestDiscard_dial : (requestDiscard s).1.dial = s.dial := by unfold requestDiscard; split <;> simp

@[simp] theorem requestDelete_dial : (requestDelete s).1.dial = s.dial := by
  unfold requestDelete
  split
  · rfl
  · split <;> simp

@[simp] theorem stepOver_dial (new : Nat) (k : Fin 16) : (stepOver new k s).dial = s.dial := by
  unfold stepOver
  dsimp only
  split <;> simp

@[simp] theorem stepOverAll_dial (new : Nat) (ks : List (Fin 16)) : (stepOverAll new ks s).dial = s.dial := by
  induction ks generalizing s with
  | nil => rfl
  | cons k rest ih => simp [stepOverAll, ih]

@[simp] theorem clockMiss_dial (new : Nat) (k : Fin 16) : (clockMiss new k s).dial = s.dial := by
  unfold clockMiss
  dsimp only
  split
  · split <;> simp
  · simp

@[simp] theorem clockMissAll_dial (new : Nat) (ks : List (Fin 16)) : (clockMissAll new ks s).dial = s.dial := by
  induction ks generalizing s with
  | nil => rfl
  | cons k rest ih => simp [clockMissAll, ih]

@[simp] theorem stepBack_dial (new : Nat) : (stepBack new s).dial = s.dial := by unfold stepBack; split <;> simp
@[simp] theorem stepNotice_dial (n : StepNotice) : (stepNotice n s).dial = s.dial := by simp [stepNotice]

@[simp] theorem transportReport_dial (st : TransportState) : (transportReport st s).dial = s.dial := by
  unfold transportReport
  split
  · rfl
  · split <;> simp

@[simp] theorem testAutoOff_dial : (testAutoOff s).dial = s.dial := by simp [testAutoOff]

@[simp] theorem markDone_dial (m : MarkWrite) : (markDone m s).dial = s.dial := by unfold markDone; split <;> simp

end

/-! ### The memory path -/

section
variable (s : State)

@[simp] theorem finish_dial (ran : Bool) : (finish ran s).dial = s.dial := by simp [finish]
@[simp] theorem closeCycle_dial : (closeCycle s).dial = s.dial := by rfl

@[simp] theorem protect_dial (r : ProtectReason) (off : Nat) (data : Byte) : (protect r off data s).dial = s.dial := by
  simp [protect]

@[simp] theorem releaseLatch_dial : (releaseLatch s).dial = s.dial := by rfl
@[simp] theorem takeCell_dial (n : Nat) (v : Byte) : (takeCell n v s).dial = s.dial := by rfl

end

/-! ### The standby start -/

section
variable (s : State)

@[simp] theorem loadCells_dial : (loadCells s).dial = s.dial := by rfl
@[simp] theorem loadOne_dial (k : Fin 16) : (loadOne k s).dial = s.dial := by simp [loadOne]

@[simp] theorem loadEntries_dial (ks : List (Fin 16)) : (loadEntries ks s).dial = s.dial := by
  induction ks generalizing s with
  | nil => rfl
  | cons k rest ih => simp [loadEntries, ih]

@[simp] theorem loadSchedule_dial : (loadSchedule s).dial = s.dial := by simp [loadSchedule]

@[simp] theorem offerInit_dial (gs : List WriteGroup) : (offerInit gs s).dial = s.dial := by
  induction gs generalizing s with
  | nil => rfl
  | cons k rest ih => simp [offerInit, ih]

@[simp] theorem dropDrafts_dial (ks : List (Fin 16)) : (dropDrafts ks s).dial = s.dial := by
  induction ks generalizing s with
  | nil => rfl
  | cons k rest ih => simp [dropDrafts, ih]

@[simp] theorem resolveRetained_dial : (resolveRetained s).dial = s.dial := by simp [resolveRetained]

@[simp] theorem resolveOne_dial (k : Fin 16) : (resolveOne k s).dial = s.dial := by
  unfold resolveOne
  dsimp only
  split <;> simp

@[simp] theorem resolveAll_dial (ks : List (Fin 16)) : (resolveAll ks s).dial = s.dial := by
  induction ks generalizing s with
  | nil => rfl
  | cons k rest ih => simp [resolveAll, ih]

@[simp] theorem supplyOff_dial (k : Fin 16) : (supplyOff k s).dial = s.dial := by
  unfold supplyOff
  dsimp only
  split <;> simp

@[simp] theorem supplyOffAll_dial (ks : List (Fin 16)) : (supplyOffAll ks s).dial = s.dial := by
  induction ks generalizing s with
  | nil => rfl
  | cons k rest ih => simp [supplyOffAll, ih]

@[simp] theorem rebuild_dial : (rebuild s).dial = s.dial := by simp [rebuild]

end

/-! ### The servo's and the position unit's own events -/

section
variable (s : State)

@[simp] theorem useFree_dial : (useFree s).dial = s.dial := by rfl

@[simp] theorem frameWritten_dial : (frameWritten s).dial = s.dial := by
  unfold frameWritten
  dsimp only
  split <;> simp

@[simp] theorem writeFrame_dial : (writeFrame s).dial = s.dial := by rw [writeFrame_eq]; simp
@[simp] theorem frameStarted_dial : (frameStarted s).dial = s.dial := by rfl

@[simp] theorem stallReported_dial (reel : ReelName) : (stallReported reel s).dial = s.dial := by
  unfold stallReported
  split <;> simp

@[simp] theorem watchInterval_dial (interval : Option Nat) : (watchInterval interval s).dial = s.dial := by
  unfold watchInterval
  split
  · rfl
  · split
    · dsimp only
      split <;> simp
    · rfl

@[simp] theorem takePulse_dial (dir : Dir) (rise high : Nat) : (takePulse dir rise high s).dial = s.dial := by
  unfold takePulse
  dsimp only
  split <;> simp

@[simp] theorem pwmPeriod_dial : (pwmPeriod s).dial = s.dial := by simp [pwmPeriod]

end

/-! ### RECORD's source, the settings, the held writes and the keys -/

section
variable (s : State)

@[simp] theorem recordTune_dial (src : RecordSource) : (recordTune src s).1.dial = s.dial := by
  unfold recordTune
  split
  · rfl
  · split <;> simp

@[simp] theorem requestRecord_dial : (requestRecord s).1.dial = s.dial := by
  have htune := recordTune_dial s ((recordSource s.rqu.arg0).getD .current)
  unfold requestRecord
  split
  · rfl
  · split
    · rfl
    · split
      · rfl
      · dsimp only
        split
        · rfl
        · rename_i hr
          rw [hr] at htune
          simpa using htune

@[simp] theorem takeSetting_dial (pos : Nat) (v : Byte) : (takeSetting pos v s).dial = s.dial := by simp [takeSetting]
@[simp] theorem handPwr_dial (w : PwrHeld) : (handPwr w s).dial = s.dial := by cases w <;> simp [handPwr]
@[simp] theorem toggleTimer_dial : (toggleTimer s).dial = s.dial := by simp [toggleTimer]

@[simp] theorem keyPressed_dial (n : Nat) : (keyPressed n s).dial = s.dial := by
  unfold keyPressed
  split
  · simp
  · split <;> simp
  · rfl

@[simp] theorem pressIf_dial (b : Bool) (n : Nat) : (pressIf b n s).dial = s.dial := by simp [pressIf]
@[simp] theorem keySample_dial (k : BitVec 4) : (keySample k s).dial = s.dial := by simp [keySample]

end

/-! ### Grants, and the host's writes but requests -/

section
variable (s : State)

@[simp] theorem handOldest_dial (b : Block) : (handOldest b s).dial = s.dial := by
  cases b <;> simp only [handOldest] <;> split <;> simp

@[simp] theorem grants_dial (n : Nat) : (grants n s).dial = s.dial := by
  induction n generalizing s with
  | zero => rfl
  | succ n ih => unfold grants; split <;> simp [ih]

@[simp] theorem grantSlots_dial : (grantSlots s).dial = s.dial := grants_dial s 16
@[simp] theorem drain_dial : (drain s).dial = s.dial := by simp [drain]
@[simp] theorem passWrite_dial (off : Nat) (data : Byte) : (passWrite off data s).dial = s.dial := by simp [passWrite]

@[simp] theorem programmeCycle_dial (off : Nat) (data : Byte) : (programmeCycle off data s).dial = s.dial := by
  simp [programmeCycle]

@[simp] theorem presetCycle_dial (off : Nat) (data : Byte) : (presetCycle off data s).dial = s.dial := by
  simp [presetCycle]

@[simp] theorem profileCycle_dial (off : Nat) (data : Byte) : (profileCycle off data s).dial = s.dial := by
  simp [profileCycle]

@[simp] theorem settingsCycle_dial (off : Nat) (data : Byte) : (settingsCycle off data s).dial = s.dial := by
  simp [settingsCycle]

end

/-! ### The rest of the standby start, the supply, and fields -/

section
variable (s : State)

@[simp] theorem loadSettings_dial (m : Memory) : (loadSettings m s).dial = s.dial := by rfl

@[simp] theorem correctOffsets_dial (ns : List Nat) : (correctOffsets ns s).dial = s.dial := by
  induction ns generalizing s with
  | nil => rfl
  | cons n rest ih => simp [correctOffsets, ih]

@[simp] theorem loadPresets_dial : (loadPresets s).dial = s.dial := by simp [loadPresets]
@[simp] theorem validate_dial : (validate s).dial = s.dial := by simp [validate]
@[simp] theorem initialise_dial : (initialise s).dial = s.dial := by simp [initialise]
@[simp] theorem validateAndRebuild_dial : (validateAndRebuild s).dial = s.dial := by simp [validateAndRebuild]
@[simp] theorem startValues_dial (l : PinLevels) : (startValues l s).dial = s.dial := by rfl

@[simp] theorem supplyLoss_dial (byteInProgress : Bool) : (supplyLoss byteInProgress s).dial = s.dial := by
  have hd : (if byteInProgress then drainByte s else s).dial = s.dial := by simp
  unfold supplyLoss
  split
  · exact hd
  · rfl

@[simp] theorem fieldStart_dial (at_ : Nat) : (fieldStart at_ s).dial = s.dial := by
  have hseen : (fieldSeen at_ s).dial = s.dial := by rfl
  rw [fieldStart_eq]
  simp [hseen]

end

end Sys2Proof.Machine
end

section
/-! SUPPORT. R107: every operation that steps the clock, or that ends a run and may so apply the deferred step, leaves it at a
valid date and time. -/

namespace Sys2Proof.Machine

/-! ### The rules of the clock's count -/

/-- R104, R107: the time is a date-time of the clock's range, and the sub-second count lies in 0..32767. -/
def Dial.Wf (d : Dial) : Prop := d.time.wf = true ∧ d.sub < 32768

theorem dialWf_iff (s : State) : s.dial.Wf ↔ ClockWf s := ⟨fun ⟨ht, hs⟩ => ⟨ht, hs⟩, fun ⟨ht, hs⟩ => ⟨ht, hs⟩⟩

@[simp] theorem Dial.ite_wf_iff (c : Prop) [Decidable c] (d e : Dial) :
    (if c then d else e).Wf ↔ (c → d.Wf) ∧ (¬ c → e.Wf) := by
  split <;> simp_all

theorem DateTime.start_wf : DateTime.start.wf = true := by decide

@[simp] theorem Clk.ageSample_time (c : Clk) : c.ageSample.time = c.time := rfl
@[simp] theorem Clk.ageSample_sub (c : Clk) : c.ageSample.sub = c.sub := rfl

@[simp] theorem Clk.second_sub (c : Clk) : c.second.sub = 0 := by
  unfold Clk.second
  split <;> rfl

/-- R105, R107: below the limit the second carries upward, and at the limit the time holds. -/
theorem Clk.second_time (c : Clk) : c.second.time = if c.time = limitTime then c.time else c.time.tick := by
  unfold Clk.second
  split <;> rfl

theorem Clk.second_wf {c : Clk} (h : c.time.wf = true) : Dial.Wf ⟨c.second.time, c.second.sub⟩ := by
  refine ⟨?_, by simp⟩
  rw [c.second_time]
  split_ifs with hl
  · exact h
  · exact DateTime.tick_wf h hl

theorem Clk.reset_wf : Dial.Wf ⟨Clk.reset.time, Clk.reset.sub⟩ := ⟨DateTime.start_wf, Nat.zero_lt_succ _⟩

/-- R109: the date and time in the ARG cells. -/
def Rqu.dateTime (q : Rqu) : DateTime :=
  ⟨q.arg0.toNat, q.arg1.toNat, q.arg2.toNat, q.arg3.toNat, q.arg4.toNat, q.arg5.toNat⟩

/-- R109: arguments that pass every test make a valid date and time. -/
theorem setTimeBadArg_eq_none_iff (q : Rqu) : setTimeBadArg q = none ↔ q.dateTime.wf = true := by
  simp only [Rqu.dateTime, DateTime.wf_iff, validDate_iff, setTimeBadArg, Bool.not_eq_true', Bool.and_eq_false_iff,
    decide_eq_false_iff_not]
  split_ifs <;> simp only [false_iff, true_iff] <;> omega

section
variable {s : State} (h : s.dial.Wf)
include h

/-- An operation that keeps the time and the count. -/
theorem Dial.Wf.same {t : State} (ht : t.dial = s.dial := by simp) : t.dial.Wf := ht ▸ h

/-! ### Steps of the clock (R109 to R114) -/

/-- R110: a step to a valid date-time. -/
theorem applyStep_dialWf (subject source : Byte) {new : DateTime} (hn : new.wf = true) (limit : Bool) :
    (applyStep subject source new limit s).dial.Wf := by
  have hset : (s.setClk { s.clk with time := new, limit, valid := true, sample := none }).dial.Wf := ⟨hn, h.2⟩
  simpa [applyStep] using hset

/-- R110: beyond the upper limit the time is set there, and a count up to it is a valid date-time. -/
@[simp] theorem broadcastStep_dialWf (subject : Byte) (d : Int) : (broadcastStep subject d s).dial.Wf := by
  unfold broadcastStep
  dsimp only
  split_ifs with hsum
  · exact applyStep_dialWf h _ _ limitTime_wf _
  · exact applyStep_dialWf h _ _ (dateTimeOf_wf (not_lt.1 hsum)) _

@[simp] theorem requestSetTime_dialWf : (requestSetTime s).1.dial.Wf := by
  unfold requestSetTime
  split
  · exact h
  · rename_i harg
    split
    · exact h
    · exact applyStep_dialWf (s := s.setClk { s.clk with sub := 0 }) ⟨h.1, Nat.zero_lt_succ _⟩ _ _
        ((setTimeBadArg_eq_none_iff _).1 harg) _

@[simp] theorem confirm_dialWf (d code : Int) : (confirm d code s).dial.Wf := by
  unfold confirm
  dsimp only
  split_ifs <;> simp [h]

@[simp] theorem meetSample_dialWf (d code : Int) : (meetSample d code s).dial.Wf := by
  unfold meetSample
  split <;> simp [h]

@[simp] theorem timePacket_dialWf (year month day hour minute second code : Byte) :
    (timePacket year month day hour minute second code s).dial.Wf := by simp [timePacket, h]

@[simp] theorem timeTake_dialWf : (timeTake s).dial.Wf := by
  unfold timeTake
  split
  · exact h
  · dsimp only
    split <;> simp [h]

/-- R114: the report that no run stands applies the deferred step. -/
@[simp] theorem reportNotRunning_dialWf : (reportNotRunning s).dial.Wf := by
  unfold reportNotRunning
  dsimp only
  split
  · split <;> simp [h]
  · exact h

/-! ### The ends of a run (R146), and its tests -/

@[simp] theorem releaseRun_dialWf (wasStarted : Bool) : (releaseRun wasStarted s).dial.Wf := by simp [releaseRun, h]

@[simp] theorem endRun_dialWf (o : EndOutcome) (r : Reason) (detail : Nat) : (endRun o r detail s).dial.Wf := by
  unfold endRun
  split <;> simp [h]

@[simp] theorem endWell_dialWf : (endWell s).dial.Wf := by
  unfold endWell
  split <;> simp [h]

@[simp] theorem clockTests_dialWf (c : Run) : (clockTests c s).dial.Wf := by
  unfold clockTests
  dsimp only
  split
  · simp [h]
  · split
    · split <;> simp [h]
    · exact h
  · exact h

@[simp] theorem labelTests_dialWf (c : Run) : (labelTests c s).dial.Wf := by
  unfold labelTests
  dsimp only
  split <;> simp [h]

@[simp] theorem runTests_dialWf : (runTests s).dial.Wf := by
  unfold runTests
  split <;> simp [h]

@[simp] theorem requestAbort_dialWf : (requestAbort s).1.dial.Wf := by
  unfold requestAbort
  split <;> simp [h]

@[simp] theorem limitReport_dialWf : (limitReport s).dial.Wf := by
  unfold limitReport
  split <;> simp [h]

/-! ### Pre-roll (R128 to R132) -/

@[simp] theorem beginPreroll_dialWf (k : Fin 16) (start : Nat) : (beginPreroll k start s).dial.Wf := by
  unfold beginPreroll
  dsimp only
  split <;> simp [h]

@[simp] theorem tryEntry_dialWf (k : Fin 16) (busy : Bool) : (tryEntry k busy s).1.dial.Wf := by
  unfold tryEntry
  dsimp only
  split_ifs <;> simp [h]

omit h in
@[simp] theorem checkDue_dialWf (n : Nat) {s : State} (h : s.dial.Wf) : (checkDue n s).dial.Wf := by
  induction n generalizing s with
  | zero => exact h
  | succ n ih =>
    have hwait : (if transportBusy s then setWait .transport (dueEntries s) s else s).dial.Wf := by simp [h]
    unfold checkDue
    dsimp only
    iterate 4 refine iteInduction (motive := fun t : State => t.dial.Wf) (fun _ => by simp [h]) fun _ => ?_
    split
    · exact hwait
    · have ht := tryEntry_dialWf hwait ‹Fin 16› (transportBusy s)
      simp [ih, ht]

@[simp] theorem prerollCheck_dialWf : (prerollCheck s).dial.Wf := by simp [prerollCheck, h]

/-! ### Label following (R136 to R138), and seconds -/

@[simp] theorem labelAction_dialWf (c : Run) (status : Nat) : (labelAction c status s).dial.Wf := by
  unfold labelAction
  dsimp only
  split <;> simp [h]

@[simp] theorem labelPacket_dialWf (net : Nat) (label : List Byte) (status : Nat) :
    (labelPacket net label status s).dial.Wf := by
  unfold labelPacket
  split <;> simp [h]

@[simp] theorem labelTake_dialWf : (labelTake s).dial.Wf := by
  unfold labelTake
  split
  · exact h
  · dsimp only
    split <;> simp [h]

@[simp] theorem absenceEnd_dialWf (c : Run) : (absenceEnd c s).dial.Wf := by
  unfold absenceEnd
  dsimp only
  split
  · split <;> simp [h]
  · simp [h]

@[simp] theorem lossEnd_dialWf (c : Run) : (lossEnd c s).dial.Wf := by
  unfold lossEnd
  dsimp only
  split
  · split <;> simp [h]
  · simp [h]

@[simp] theorem labelTick_dialWf : (labelTick s).dial.Wf := by
  unfold labelTick
  split <;> simp [h]

@[simp] theorem secondsEvent_dialWf : (secondsEvent s).dial.Wf := by simp [secondsEvent, h]

/-! ### Notices, events and host cycles -/

@[simp] theorem takeNotice_dialWf (n : Notice) : (takeNotice n s).dial.Wf := by cases n <;> simp [takeNotice, h]

omit h in
@[simp] theorem settle_dialWf (n : Nat) {s : State} (h : s.dial.Wf) : (settle n s).dial.Wf := by
  induction n generalizing s with
  | zero => exact h
  | succ n ih =>
    unfold settle
    split <;> simp [ih, h]

theorem event_dialWf {f : State → State} (hf : ∀ u : State, u.dial.Wf → (f u).dial.Wf) : (event f s).dial.Wf := by
  simp [event, h, hf s h]

omit h in
@[simp] theorem holdCycle_dialWf (n : Nat) {s : State} (h : s.dial.Wf) : (holdCycle n s).dial.Wf := by
  induction n generalizing s with
  | zero => exact h
  | succ n ih =>
    have hd := event_dialWf h (f := drain) fun u hu => hu.same
    simp [holdCycle, ih, h, hd]

@[simp] theorem holdOrServe_dialWf : (holdOrServe s).dial.Wf := by simp [holdOrServe, h]

/-- Each command's owner keeps the rules. -/
theorem ownerActs_dialWf {code : Byte} {t : State} {a : Answer} (ha : ownerActs code s = some (t, a)) : t.dial.Wf := by
  have of {r : State × Answer} (hr : r.1.dial.Wf) (e : some r = some (t, a)) : t.dial.Wf := by cases e; exact hr
  unfold ownerActs at ha
  split at ha
  case h_27 => cases ha
  all_goals exact of (by simp [h]) ha

@[simp] theorem request_dialWf (code : Byte) : (request code s).dial.Wf := by
  unfold request
  dsimp only
  split
  · simp [h]
  · rename_i ha
    simp [ownerActs_dialWf h ha]

@[simp] theorem regionWrite_dialWf (off : Nat) (data : Byte) : (regionWrite off data s).dial.Wf := by
  simp [regionWrite, h]

theorem hostWrite_dialWf (addr : Nat) (data : Byte) : (hostWrite addr data s).dial.Wf := by
  have hu : (if hostRuns s then holdOrServe s else s).dial.Wf := by simp [h]
  unfold hostWrite
  dsimp only
  generalize (if hostRuns s then holdOrServe s else s) = u at hu ⊢
  split
  · exact hu
  · split
    · exact hu
    · split <;> simp [hu]

theorem hostRead_dialWf (addr : Nat) : (hostRead addr s).dial.Wf := by
  have hu : (if hostRuns s then holdOrServe s else s).dial.Wf := by simp [h]
  unfold hostRead
  dsimp only
  generalize (if hostRuns s then holdOrServe s else s) = u at hu ⊢
  split
  · exact hu
  · split
    · exact hu
    · split
      · exact hu
      · split
        · exact hu
        · split <;> exact hu

/-! ### The clock's own events, keys and the standby start -/

/-- R105: the sub-second count wraps, in BACKUP too. -/
theorem secondAdvance_dialWf : (secondAdvance s).dial.Wf := by
  have he := event_dialWf h (f := fun s => secondsEvent (s.setClk s.clk.second)) fun u hu =>
    secondsEvent_dialWf (s := u.setClk u.clk.second) (Clk.second_wf hu.1)
  simpa [secondAdvance, he] using fun _ => Clk.second_wf h.1

omit h in
theorem keySamples_dialWf (samples : List (BitVec 4)) {s : State} (h : s.dial.Wf) : (keySamples samples s).dial.Wf := by
  induction samples generalizing s with
  | nil => exact h
  | cons k rest ih => exact ih (event_dialWf h fun u hu => hu.same)

theorem standbyStart_dialWf (l : PinLevels) : (standbyStart l s).dial.Wf := by simp [standbyStart, h]

theorem backupReset_dialWf : (backupReset s).dial.Wf := by simp [backupReset, h, Clk.reset_wf]

/-- R104: a crystal period that wraps no count leaves it below 32768. -/
theorem tick_dialWf : (tick s).dial.Wf := by
  have hp : (pwmPeriod (s.setNow (s.now + (crystalMicros (s.clk.sub + 1) - crystalMicros s.clk.sub)))).dial.Wf := h.same
  unfold tick
  dsimp only
  split_ifs with hk
  · exact ⟨hp.1, hk⟩
  · exact secondAdvance_dialWf hp

/-! ### The commands -/

theorem command_dialWf {f : State → State} (hf : ∀ u : State, u.dial.Wf → (f u).dial.Wf) {t : State}
    (ht : command f s = .next t) : t.dial.Wf := by
  cases ht
  exact event_dialWf h hf

/-- A command whose own work leaves the time and the count alone. -/
theorem command_sameDial {f : State → State} {t : State} (ht : command f s = .next t)
    (hf : ∀ u : State, (f u).dial = u.dial) : t.dial.Wf := command_dialWf h (fun u hu => hu.same (hf u)) ht

theorem hostCycle_dialWf {f : State → State} (hf : ∀ u : State, u.dial.Wf → (f u).dial.Wf) {t : State}
    (ht : hostCycle f s = .next t) : t.dial.Wf := by
  have he := event_dialWf h hf
  cases ht
  simp [h, he]

/-- A host write of the region, the form of every request and of the host's own writes. -/
theorem hostWriteAt_dialWf {off : Nat} {data : Byte} {t : State} (ht : hostCycle (hostWriteAt off data) s = .next t) :
    t.dial.Wf := hostCycle_dialWf h (fun _ hu => hostWrite_dialWf hu _ data) ht

/-- Every command keeps the clock at a valid date and time. -/
theorem exec_dialWf (i : Instr) {t : State} (ht : exec i s = .next t) : t.dial.Wf := by
  cases i with
  | standbyStart levels => cases ht; exact standbyStart_dialWf h levels
  | standbySupplyLoss b => cases ht; exact h.same
  | backupReset => cases ht; exact backupReset_dialWf h
  | secondAdvance => cases ht; exact secondAdvance_dialWf h
  | keyPress samples => cases ht; exact keySamples_dialWf samples h
  | play | record | stop | pause | resume | ff | rew | cue | review | eject | indexSearch | goto | counterReset
  | recover | tune | scan | scanStop | store | fine | setTime | claim | commit | discard | delete | abort | powerOff
  | profileWrite off data | presetWrite off data | programmeWrite off data | settingsWrite off data
  | partOwnedWrite off data | unknownCommand code | eventAck seq => exact hostWriteAt_dialWf h ht
  | liveRead addr => exact hostCycle_dialWf h (fun _ hu => hostRead_dialWf hu _) ht
  | hostWrite addr data => exact hostCycle_dialWf h (fun _ hu => hostWrite_dialWf hu _ _) ht
  | timeTake => exact command_dialWf h (fun _ hu => timeTake_dialWf hu) ht
  | labelTake => exact command_dialWf h (fun _ hu => labelTake_dialWf hu) ht
  | occurrenceStartDue | occurrenceStopReached | absenceTimeout | labelLossTimeout | labelOverrunLimit =>
    exact command_dialWf h (fun u hu => by split <;> simp [hu]) ht
  | lockAllowanceExpiry motor => exact command_sameDial h ht fun u => by cases motor <;> dsimp only <;> split <;> simp
  | tapeLimit which active => exact command_sameDial h ht fun u => by cases which <;> simp
  | motorOc motor active => exact command_sameDial h ht fun u => by dsimp only; split_ifs <;> simp
  | ctlReadPulse rise high => exact command_sameDial h ht fun u => by dsimp only; split <;> simp
  | lineStart | linePacketComplete | framingCodeFound => exact command_sameDial h ht fun u => by rfl
  | threadTimeout | unthreadTimeout | ejectTimeout | idleTimeout | pauseTimeout | railTimeout | hostResetRelease
  | frameReferenceTimeout | reelStall | runDownEnd | extrapolationStart | extrapolatedFrame | unsureSet
  | claimExpiry => exact command_sameDial h ht fun u => by split <;> simp
  | cassetteInsertion | cassetteRemoval | threadingComplete | unthreadingComplete | thermal | searchCounterTimeout
  | mainGoodFall | mainGoodRise | drumFgPulse | drumFgGap | capstanFgPulse | capstanFgGap | drumPgPulse
  | frameReferencePulse | reelMark | synthWordEnd | settleEnd | afcSample | trackingSample | noSignalWatch
  | scanStepTest | dwellTimeout | fieldStart | nameTake | occurrenceStart | postedWriteDrain | slotGrant
  | powerOffComplete => exact command_sameDial h ht fun u => by simp

end

end Sys2Proof.Machine

open Sys2Proof Sys2Proof.Machine

/-- Settles O7: the time is set by the second's carry, which stays below the limit, by SET_TIME, whose arguments are checked, and
by a broadcast step, whose count of seconds is cut at the limit. -/
theorem everyStepKeepsClockValid : Obligations.EveryStepKeepsClockValid := by
  intro s t hclock ht
  have hs : s.dial.Wf := (dialWf_iff s).2 hclock
  rw [← dialWf_iff]
  unfold step at ht
  split at ht
  · cases ht
    exact tick_dialWf hs
  · rename_i c rest _
    exact exec_dialWf (s := s.setPending rest) hs c ht

end

section
/-! LEMMA. The crystal period (R104, R105), the second's advance (R105, R107), and reset. -/

namespace Sys2Proof.Machine

/-! ### Frames -/

theorem setClk_frame (s : State) (x : Clk) : SameBut [.clk] s (s.setClk x) := by
  intro p hp; cases p <;> simp_all [Part.same]
theorem setNow_frame (s : State) (x : Nat) : SameBut [.now] s (s.setNow x) := by
  intro p hp; cases p <;> simp_all [Part.same]

/-! ### The crystal period -/

theorem crystalMicros_last : crystalMicros 32768 - crystalMicros 32767 = 31 := by decide

/-- R30: a PWM period starts while the part is powered. -/
theorem pwmPeriod_eq (s : State) :
    pwmPeriod s = s.setSrv (if s.pwr.power = .backup then s.srv else s.srv.loadPwm) := by
  by_cases hp : s.pwr.power = .backup
  · simp [pwmPeriod, powered, hp, State.setSrv]
  · simp [pwmPeriod, powered, hp]

theorem step_of_idle {s : State} (h : s.pending = []) : step s = .next (tick s) := by simp [step, h]

/-- R105: below its wrap the sub-second count rises by one. -/
theorem tick_of_lt {s : State} (h : s.clk.sub < 32767) : tick s =
    (pwmPeriod (s.setNow (s.now + (crystalMicros (s.clk.sub + 1) - crystalMicros s.clk.sub)))).setClk
      { s.clk with sub := s.clk.sub + 1 } := by
  have hk : s.clk.sub + 1 < crystalHz := Nat.succ_lt_succ h
  rw [tick, if_pos hk, pwmPeriod_eq]
  rfl

/-- R105: at its wrap the second advances. -/
theorem tick_of_eq {s : State} (h : s.clk.sub = 32767) :
    tick s = secondAdvance (pwmPeriod (s.setNow (s.now + 31))) := by
  have hk : ¬ s.clk.sub + 1 < crystalHz := by rw [h]; decide
  rw [tick, if_neg hk, h, crystalMicros_last]

/-! ### The second's advance -/

@[simp] theorem Clk.ageSample_limit (c : Clk) : c.ageSample.limit = c.limit := rfl
@[simp] theorem Clk.ageSample_valid (c : Clk) : c.ageSample.valid = c.valid := rfl

@[simp] theorem Clk.second_valid (c : Clk) : c.second.valid = c.valid := by
  unfold Clk.second
  split <;> rfl

/-- R107: the advance sets LIMIT at the limit alone. -/
theorem Clk.second_limit (c : Clk) : c.second.limit = if c.time = limitTime then true else c.limit := by
  unfold Clk.second
  split <;> rfl

/-- R105: in BACKUP only the count advances. -/
theorem secondAdvance_backup {s : State} (h : s.pwr.power = .backup) : secondAdvance s = s.setClk s.clk.second := by
  simp [secondAdvance, powered, h]

theorem claimTick_of_none {s : State} (h : s.sch.claim = none) : claimTick s = s := by simp [claimTick, h]
theorem labelTick_of_none {s : State} (h : s.sch.run = none) : labelTick s = s := by simp [labelTick, h]

/-- R105, R112: while nothing is claimed and nothing runs, a second of the powered part is work of CLK alone: the held sample
ages with it. -/
theorem secondAdvance_idle {s : State} (hi : ScheduleIdle s) (hp : PowerSteady s) (hl : LinesStand s)
    (hc : s.sch.claim = none) : secondAdvance s = s.setClk s.clk.second.ageSample := by
  have hwork : secondsEvent (s.setClk s.clk.second) = notify .check (s.setClk s.clk.second.ageSample) := by
    rw [secondsEvent, claimTick_of_none (by exact hc), labelTick_of_none (by exact hi.run)]
    rfl
  have hends := command_ends (f := fun s => secondsEvent (s.setClk s.clk.second)) hwork hp.powered
    (.inr (by simp [notify, hi.notices])) hi.run hi.queue hp.notStopping hp.notResetHold
  have hquiet : ((notify .check (s.setClk s.clk.second.ageSample)).setNotices []).setTaken []
      = s.setClk s.clk.second.ageSample := by
    have hn := hi.notices
    have ht := hi.taken
    cases s
    simp_all [notify, State.setNotices, State.setTaken, State.setClk]
  have hlines : LinesStand (s.setClk s.clk.second.ageSample) := hl.of_same rfl rfl rfl
  rw [hquiet, setLines_stand hlines] at hends
  simpa [secondAdvance, powered, hp.powered, command] using hends

/-- R105, R107: powered or not, the advance changes CLK alone: the time, the count and LIMIT as the second's carry has them. -/
theorem secondAdvance_changes {s : State} (hi : ScheduleIdle s)
    (hp : s.pwr.power = .backup ∨ (PowerSteady s ∧ LinesStand s)) (hc : s.sch.claim = none) :
    ∃ t, exec .secondAdvance s = .next t ∧ t.clk.time = s.clk.second.time ∧ t.clk.sub = 0
      ∧ t.clk.limit = s.clk.second.limit ∧ t.clk.valid = s.clk.valid ∧ SameBut [.clk] s t := by
  rcases hp with hb | ⟨hp, hl⟩
  · refine ⟨_, congrArg Host.Outcome.next (secondAdvance_backup hb), ?_⟩
    simp [setClk_frame]
  · refine ⟨_, congrArg Host.Outcome.next (secondAdvance_idle hi hp hl hc), ?_⟩
    simp [setClk_frame]

end Sys2Proof.Machine

open Sys2Proof Sys2Proof.Machine

/-- Settles O2: below the wrap a crystal period is the PWM period and the count; the period that wraps takes the last 31 µs of
its second. -/
theorem idleStepIsOneCrystalPeriod : Obligations.IdleStepIsOneCrystalPeriod := by
  intro s hs
  refine ⟨fun hlt => ⟨_, (step_of_idle hs).trans (congrArg _ (tick_of_lt hlt)), rfl, ?_, ?_, ?_⟩, fun heq => ?_⟩
  · rw [pwmPeriod_eq]
    rfl
  · rw [pwmPeriod_eq]
    rfl
  · rw [pwmPeriod_eq]
    exact (((setNow_frame s _).trans (setSrv_frame _ _)).trans (setClk_frame _ _)).mono (by simp)
  · rw [step_of_idle hs, tick_of_eq heq]
    rfl

/-- Settles O3: each value stands in `State.reset`, and each rule that every step keeps is met by those values. -/
theorem resetLeavesBackupValues : Obligations.ResetLeavesBackupValues := by
  refine ⟨⟨rfl, rfl, rfl, rfl, rfl, rfl, rfl, rfl, rfl, rfl, rfl, rfl⟩, ⟨?_, ?_, ?_, ?_, ?_, ?_, ?_, ?_⟩⟩
  · exact ⟨rfl, by decide, rfl, rfl, rfl⟩
  · exact ⟨by decide, by decide, by decide, by decide, by decide, by decide⟩
  · exact ⟨by decide, by decide, by decide, by decide, by decide, by decide, by decide, by decide, by decide⟩
  · exact (dialWf_iff State.reset).1 Clk.reset_wf
  · exact ((feedWf_iff State.reset).1 (feedWf_of_start rfl rfl)).1
  · exact ((feedWf_iff State.reset).1 (feedWf_of_start rfl rfl)).2
  · exact ⟨by decide, by decide, by decide⟩
  · exact ⟨rfl, rfl⟩

/-- Settles O46: powered or in BACKUP, the second's carry is all that changes the time. -/
theorem secondAdvanceFollowsCalendar : Obligations.SecondAdvanceFollowsCalendar := by
  intro s hi hp hc hwf
  obtain ⟨t, hx, htime, hsub, hlimit, hvalid, hframe⟩ := secondAdvance_changes hi hp hc
  rw [Clk.second_time] at htime
  rw [Clk.second_limit] at hlimit
  constructor
  · intro hbelow
    rw [if_neg hbelow] at htime hlimit
    refine ⟨t, hx, ?_, ?_, hsub, hlimit, hvalid, hframe⟩ <;> rw [htime]
    · exact DateTime.tick_secs hwf
    · exact DateTime.tick_wf hwf hbelow
  · intro hat
    rw [if_pos hat] at htime hlimit
    exact ⟨t, hx, htime.trans hat, hlimit, hsub, hvalid, hframe⟩

end

section
/-! LEMMA. The loss of the standby supply, and the unpowered part (R104, R179, 10.2). -/

namespace Sys2Proof.Machine

/-! ### The drain of one byte (R163) -/

theorem setMpath_frame (s : State) (x : Mpath) : SameBut [.mpath] s (s.setMpath x) := by
  intro p hp; cases p <;> simp_all [Part.same]

theorem writeRegion_frame (off : Nat) (v : Byte) (s : State) : SameBut [.mem] s (writeRegion off v s) := by
  intro p hp; cases p <;> simp_all [Part.same, writeRegion]

theorem groupLeft_frame (g : WriteGroup) (s : State) : SameBut [.pwr] s (groupLeft g s) := by
  unfold groupLeft
  split
  · exact setPwr_frame s _
  · exact .refl _ s

@[simp] theorem groupLeft_mem (g : WriteGroup) (s : State) : (groupLeft g s).mem = s.mem :=
  groupLeft_frame g s .mem (by decide)

/-- R163: a drain touches the RAM, the queue, and what a group that leaves makes ready. -/
theorem drainByte_frame (s : State) : SameBut [.mem, .mpath, .pwr] s (drainByte s) := by
  have hqueue (u : State) (x : Mpath) : SameBut [.mem, .mpath, .pwr] u (u.setMpath x) := (setMpath_frame u x).mono (by simp)
  have hleft (g : WriteGroup) (u : State) : SameBut [.mem, .mpath, .pwr] u (groupLeft g u) :=
    (groupLeft_frame g u).mono (by simp)
  have hbyte (off : Nat) (v : Byte) : SameBut [.mem, .mpath, .pwr] s (writeRegion off v s) :=
    (writeRegion_frame off v s).mono (by simp)
  unfold drainByte
  split
  · exact .refl _ s
  · split
    · exact (hqueue _ _).with (hleft _ _)
    · dsimp only
      split
      · exact (hbyte _ _).with (hqueue _ _)
      · exact ((hbyte _ _).with (hqueue _ _)).with (hleft _ _)

theorem nextDrain_of_nil {s : State} (h : s.mpath.queue = []) : nextDrain s = none := by
  rw [nextDrain, h]

theorem nextDrain_of_cons {s : State} {g : WriteGroup} {rest : List WriteGroup} (h : s.mpath.queue = g :: rest) :
    nextDrain s = (firstPending g.bytes).map fun b => (windowBase s + (g.start + b.1), b.2) := by
  rw [nextDrain, h]

/-- R163: the byte that a drain writes is the one that drains next. -/
theorem drainByte_mem (s : State) :
    (drainByte s).mem = (nextDrain s).elim s.mem fun b => s.mem.write b.1 b.2 := by
  unfold drainByte
  split
  · rename_i hqueue
    rw [nextDrain_of_nil hqueue, Option.elim_none]
  · rename_i g rest hqueue
    rw [nextDrain_of_cons hqueue]
    split
    · rename_i hfirst
      rw [hfirst, groupLeft_mem, State.setMpath_mem, Option.map_none, Option.elim_none]
    · rename_i i v hfirst
      rw [hfirst, Option.map_some, Option.elim_some]
      dsimp only
      split
      · rw [State.setMpath_mem, writeRegion, State.setMem_mem]
      · rw [groupLeft_mem, State.setMpath_mem, writeRegion, State.setMem_mem]

/-! ### The unpowered part -/

/-- R189: samples of the keys find the unpowered part as they leave it. -/
theorem keySamples_backup {s : State} (h : s.pwr.power = .backup) (samples : List (BitVec 4)) : keySamples samples s = s := by
  induction samples with
  | nil => rfl
  | cons k rest ih =>
    have he : event (keySample k) s = s := by simp [event, powered, h]
    rw [keySamples, he, ih]

/-- 10.2: in BACKUP the logic is unpowered. -/
theorem exec_backup {s : State} (h : s.pwr.power = .backup) {c : Instr} (hstart : ∀ l, c ≠ .standbyStart l)
    (hreset : c ≠ .backupReset) (hsecond : c ≠ .secondAdvance) : exec c s = .next s := by
  cases c with
  | standbyStart l => exact absurd rfl (hstart l)
  | backupReset => exact absurd rfl hreset
  | secondAdvance => exact absurd rfl hsecond
  | standbySupplyLoss b =>
    have hloss : supplyLoss b s = s := by simp [supplyLoss, powered, h]
    exact congrArg _ hloss
  | keyPress samples => exact congrArg _ (keySamples_backup h samples)
  | play | record | stop | pause | resume | ff | rew | cue | review | eject | indexSearch | goto | counterReset
  | recover | tune | scan | scanStop | store | fine | setTime | claim | commit | discard | delete | abort | powerOff
  | profileWrite | presetWrite | programmeWrite | settingsWrite | partOwnedWrite | unknownCommand | eventAck
  | liveRead | hostWrite => exact hostCycle_backup h
  | _ => exact command_backup h

theorem supplyLoss_powered {s : State} (h : s.pwr.power ≠ .backup) (byteInProgress : Bool) :
    supplyLoss byteInProgress s =
      let u := if byteInProgress then drainByte s else s
      { State.reset with
        pending := s.pending, now := s.now, free := s.free, mem := u.mem, clk := s.clk.logicStart, srv := .start s.now,
        pins := { s.pins with stbyGood := false, mainGood := false }, straps := s.straps } := by
  have hd := drainByte_frame s
  have hpending : (drainByte s).pending = s.pending := hd .pending (by decide)
  have hnow : (drainByte s).now = s.now := hd .now (by decide)
  have hfree : (drainByte s).free = s.free := hd .free (by decide)
  have hclk : (drainByte s).clk = s.clk := hd .clk (by decide)
  have hpins : (drainByte s).pins = s.pins := hd .pins (by decide)
  have hstraps : (drainByte s).straps = s.straps := hd .straps (by decide)
  cases byteInProgress <;> simp [supplyLoss, powered, h, hpending, hnow, hfree, hclk, hpins, hstraps]

theorem backupReset_backup {s : State} (h : s.pwr.power = .backup) : backupReset s = s.setClk .reset := by
  simp [backupReset, h]

end Sys2Proof.Machine

open Sys2Proof Sys2Proof.Machine

/-- Settles O10: the reset sets CLK alone; every other event is one of the powered part; and what a supply loss keeps is the
backup domain and the RAM, with the byte that its drain completes. -/
theorem backupDomainOutlivesTheSupply : Obligations.BackupDomainOutlivesTheSupply := by
  refine ⟨fun s hb => ?_, fun c s hb hstart hreset hsecond => exec_backup hb hstart hreset hsecond, fun b s hp hwf => ?_⟩
  · exact ⟨_, congrArg Host.Outcome.next (backupReset_backup hb), rfl, rfl, rfl, rfl, rfl, rfl, rfl, rfl, rfl,
      setClk_frame s _⟩
  · refine ⟨_, congrArg Host.Outcome.next (supplyLoss_powered hp b), rfl, rfl, rfl, rfl, rfl, rfl, rfl, rfl, rfl, rfl, rfl,
      rfl, rfl, rfl, ?_, ?_, ?_⟩
    · rintro rfl
      rfl
    · rintro rfl hnone
      show (drainByte s).mem = s.mem
      rw [drainByte_mem, hnone, Option.elim_none]
    · rintro rfl a v hnext
      have hmem : (drainByte s).mem = s.mem.write a v := by rw [drainByte_mem, hnext, Option.elim_some]
      show (drainByte s).mem.read a = v ∧ ∀ x, x ≠ a → (drainByte s).mem.read x = s.mem.read x
      rw [hmem]
      exact ⟨Memory.read_write_same hwf a v, fun x hx => Memory.read_write_other _ v hx⟩

end

section
/-! LEMMA. SET_TIME, and what SCH makes of its step (R109, R110, R143). -/

namespace Sys2Proof.Machine

/-- R109: the clock set to a new time. -/
def Clk.setTo (new : DateTime) (c : Clk) : Clk :=
  { c with time := new, sub := 0, limit := false, valid := true, sample := none }

/-- R110: what the step of SET_TIME says. -/
def setTimeEvent (s : State) : Event := evClock clockStepped sourceHost ((s.rqu.dateTime.secs : Int) - s.clk.time.secs)

/-- R109: a SET_TIME that nothing refuses. -/
theorem requestSetTime_taken {s : State} (hd : s.rqu.dateTime.wf = true) (hr : s.clk.running = false) :
    requestSetTime s =
      (notify (.step ⟨s.clk.time, s.rqu.dateTime, weekdayOf s.rqu.dateTime.days, s.clk.valid⟩)
        (post (setTimeEvent s) (s.setClk (s.clk.setTo s.rqu.dateTime))), answer .done) := by
  have hargs : setTimeBadArg s.rqu = none := (setTimeBadArg_eq_none_iff _).2 hd
  rw [requestSetTime, hargs, hr]
  rfl

/-- R143, R144: with no run and nothing in the timer queue, a step is followed by a check alone. -/
theorem stepNotice_idle {s : State} (hr : s.sch.run = none) (hq : s.sch.queue = []) (n : StepNotice) :
    stepNotice n s = notify .check s := by
  simp [stepNotice, hr, hq, stepOverAll, clockMissAll, recomputeAll, stepBack]

/-- With no run and nothing in the timer queue, a step of the clock that SCH is told of changes nothing further. -/
theorem settle_step (n : Nat) {s : State} (hn : s.notices = []) (hr : s.sch.run = none) (hq : s.sch.queue = [])
    (x : StepNotice) : settle (n + 2) (notify (.step x) s) = s := by
  have htold : (notify (.step x) s).notices = [.step x] := by simp [notify, hn]
  have hnext : nextNotice [.step x] = some (.step x, []) := by simp [nextNotice, Notice.isReport]
  rw [settle, htold, hnext]
  dsimp only [takeNotice]
  rw [stepNotice_idle (by exact hr) (by exact hq), settle_check n (by rfl) (by exact hr) (by exact hq), ← hn]
  rfl

/-- R168, R169: a request of the host whose owner's work leaves `u`, from which SCH comes to rest in `v`: the result is handed
last. -/
theorem hostCycle_answered {code : Byte} {a : Answer} {s u v : State} (hh : HostRuns s)
    (ha : ownerActs code (atRequest code s) = some (u, a)) (hu : u.pwr.phase = .running)
    (hset : settle Config.chainFuel u = v) (hn : v.notices = []) (hr : v.sch.run = none) (hv : v.pwr.phase = .running)
    (hq : v.mpath.queue.length < 4) :
    hostCycle (hostWriteAt offCommand code) s
      = .next (closeCycle (ended true (enqueue (resultGroup a s.rqu.tag) v))) := by
  have hreq : request code (atRequest code s) = enqueue (resultGroup a s.rqu.tag) v := by
    have hcancel : cancelOff u = u := by simp [cancelOff, hu]
    simp only [request, ha, hcancel, ite_self]
    rw [hset, makeResult_room hq, atRequest_rqu]
  rw [hostCycle_request hh, hreq, settle_idle (s := enqueue _ v) _ hn hr,
    finish_steady (by simp [enqueue, hv]) (by simp [enqueue, hv])]
  rfl

/-- R109: the state that SET_TIME leaves for its result: the clock set, and its event posted. -/
def timeSet (s : State) : State :=
  (((atRequest 0x31 s).setClk (s.clk.setTo s.rqu.dateTime)).setRqu
    { s.rqu with count := s.rqu.count + 1, newest := setTimeEvent s }).setMpath
    { (atRequest 0x31 s).mpath with
      queue := [eventGroupAt (s.setClk (s.clk.setTo s.rqu.dateTime)) 0 (setTimeEvent s)] }

theorem timeSet_frame (s : State) : SameBut [.clk, .mem, .mpath, .rqu] s (timeSet s) := by
  intro p hp
  cases p <;> simp_all [Part.same, timeSet, atRequest, writeRegion, releaseLatch]

/-- R110: with room for its event, and nothing waiting to drain, the step is posted at once. -/
theorem post_setTime {s : State} (hd : Drained s) (hr : EventRoom 1 s) :
    post (setTimeEvent s) ((atRequest 0x31 s).setClk (s.clk.setTo s.rqu.dateTime)) = timeSet s := by
  have hcount := hr.count
  have hqueue : (atRequest 0x31 s).mpath.queue = [] := hd.queue
  rw [post_room (s := (atRequest 0x31 s).setClk _) (by exact hr.overflow) (by exact Nat.le_of_succ_le_succ hcount)
    (by rw [State.setClk_mpath, hqueue]; decide)]
  simp only [State.setClk_mpath, hqueue, List.nil_append]
  rfl

theorem setTime_answered {s : State} (hh : HostRuns s) (hi : ScheduleIdle s) (hroom : EventRoom 1 s)
    (hrun : s.clk.running = false) (hd : s.rqu.dateTime.wf = true) :
    exec .setTime s = .next (closeCycle (ended true (enqueue (resultGroup (answer .done) s.rqu.tag) (timeSet s)))) := by
  have hacts : ownerActs 0x31 (atRequest 0x31 s) = some (notify (.step ⟨s.clk.time, s.rqu.dateTime,
      weekdayOf s.rqu.dateTime.days, s.clk.valid⟩) (timeSet s), answer .done) := by
    rw [← post_setTime hh.drained hroom]
    exact congrArg some (requestSetTime_taken (s := atRequest 0x31 s) hd hrun)
  have hnotices : (timeSet s).notices = [] := hi.notices
  have hsch : (timeSet s).sch.run = none := hi.run
  exact hostCycle_answered hh hacts hh.phase (settle_step 126 hnotices hsch hi.queue _) hnotices hsch hh.phase
    (by simp [timeSet])

end Sys2Proof.Machine

open Sys2Proof Sys2Proof.Machine

/-- Settles O47: with nothing else at work the step that SET_TIME tells of changes nothing further, so that the clock, the event
and the result are all it leaves. -/
theorem setTimeSetsTheClock : Obligations.SetTimeSetsTheClock := by
  intro s hh hi hroom hrun hdate hhour hmin hsec
  have hd : s.rqu.dateTime.wf = true := (DateTime.wf_iff _).2 ⟨hdate, hhour, hmin, hsec⟩
  refine ⟨_, setTime_answered hh hi hroom hrun hd, rfl, ?_, ?_, rfl, rfl, ?_⟩
  · exact Memory.read_write_same hh.ram _ _
  · exact fun x hx => Memory.read_write_other _ _ hx
  · have hhanded := (timeSet_frame s).with ((enqueue_frame (resultGroup (answer .done) s.rqu.tag) _).mono (by simp))
    have hended := ended_frame (ran := true) ⟨hi.notices, hi.taken⟩ hhanded (by simp) (by simp)
    exact hended.with ((closeCycle_frame _).mono (by simp))

end

section
/-! SUPPORT. What leaves SCH alone: every operation of the other blocks keeps `State.sch`. One lemma per operation, in the order
of the model's definitions. -/

namespace Sys2Proof.Machine

/-- An operation of two branches. -/
@[simp] theorem ite_sch (c : Prop) [Decidable c] (s t : State) :
    (if c then s else t).sch = if c then s.sch else t.sch := apply_ite State.sch c s t

/-- The same, for an operation that answers. -/
@[simp] theorem ite_fst_sch (c : Prop) [Decidable c] (r q : State × Answer) :
    (if c then r else q).1.sch = if c then r.1.sch else q.1.sch := apply_ite (fun r : State × Answer => r.1.sch) c r q

/-- An operation whose frame holds SCH. -/
theorem SameBut.sch {ps : List Part} {s t : State} (h : SameBut ps s t) (hp : .sch ∉ ps := by decide) : t.sch = s.sch :=
  h .sch hp

/-! ### Time, memory, groups and events -/

section
variable (s : State)

@[simp] theorem reachTime_sch (t : Nat) : (reachTime t s).sch = s.sch := by rfl
@[simp] theorem reachLimit_sch (since limit : Nat) : (reachLimit since limit s).sch = s.sch := by rfl
@[simp] theorem writeRegion_sch (off : Nat) (v : Byte) : (writeRegion off v s).sch = s.sch := by rfl
@[simp] theorem enqueue_sch (g : WriteGroup) : (enqueue g s).sch = s.sch := by rfl
@[simp] theorem askSlot_sch (b : Block) : (askSlot b s).sch = s.sch := by rfl
@[simp] theorem dropAsk_sch (b : Block) : (dropAsk b s).sch = s.sch := by rfl
@[simp] theorem notify_sch (n : Notice) : (notify n s).sch = s.sch := by rfl
@[simp] theorem setLines_sch (ran : Bool) : (setLines ran s).sch = s.sch := by rfl
@[simp] theorem groupLeft_sch (g : WriteGroup) : (groupLeft g s).sch = s.sch := by simp [groupLeft]

@[simp] theorem groupsLeft_sch (gs : List WriteGroup) : (groupsLeft gs s).sch = s.sch := by
  induction gs generalizing s with
  | nil => rfl
  | cons k rest ih => simp [groupsLeft, ih]

@[simp] theorem clearPending_sch (off : Nat) : (clearPending off s).sch = s.sch := by simp [clearPending]

@[simp] theorem drainByte_sch : (drainByte s).sch = s.sch := by
  unfold drainByte
  split
  · rfl
  · split <;> simp

@[simp] theorem post_sch (e : Event) : (post e s).sch = s.sch := (post_frame e s).sch
@[simp] theorem offerRqu_sch (g : WriteGroup) : (offerRqu g s).sch = s.sch := by simp [offerRqu]
@[simp] theorem acknowledge_sch (seq : Byte) : (acknowledge seq s).sch = s.sch := by simp [acknowledge]
@[simp] theorem makeResult_sch (a : Answer) (tag : Byte) : (makeResult a tag s).sch = s.sch := by simp [makeResult]

end

/-! ### The clock -/

section
variable (s : State)

@[simp] theorem applyStep_sch (subject source : Byte) (new : DateTime) (limit : Bool) :
    (applyStep subject source new limit s).sch = s.sch := by simp [applyStep]

@[simp] theorem broadcastStep_sch (subject : Byte) (d : Int) : (broadcastStep subject d s).sch = s.sch := by
  simp [broadcastStep]

@[simp] theorem requestSetTime_sch : (requestSetTime s).1.sch = s.sch := by
  unfold requestSetTime
  split
  · rfl
  · split <;> simp

@[simp] theorem deferStep_sch (d : Int) : (deferStep d s).sch = s.sch := by simp [deferStep]

@[simp] theorem confirm_sch (d code : Int) : (confirm d code s).sch = s.sch := by
  unfold confirm
  dsimp only
  split_ifs <;> simp

@[simp] theorem meetSample_sch (d code : Int) : (meetSample d code s).sch = s.sch := by
  unfold meetSample
  split <;> simp

@[simp] theorem timePacket_sch (year month day hour minute second code : Byte) :
    (timePacket year month day hour minute second code s).sch = s.sch := by simp [timePacket]

@[simp] theorem timeTake_sch : (timeTake s).sch = s.sch := by
  unfold timeTake
  split
  · rfl
  · dsimp only
    split <;> simp

@[simp] theorem reportNotRunning_sch : (reportNotRunning s).sch = s.sch := by
  unfold reportNotRunning
  dsimp only
  split
  · split <;> simp
  · rfl

@[simp] theorem reportRunning_sch : (reportRunning s).sch = s.sch := by rfl

@[simp] theorem retain_sch (r : Retained) : (retain r s).sch = s.sch := by rfl
@[simp] theorem clearRetained_sch : (clearRetained s).sch = s.sch := by rfl
@[simp] theorem postInvalid_sch : (postInvalid s).sch = s.sch := by simp [postInvalid]

end

/-! ### The transport -/

section
variable (s : State)

@[simp] theorem applyRow_sch (on : Bool) : (applyRow on s).sch = s.sch := (applyRow_frame on s).sch
@[simp] theorem useSpeed_sch (m : Speed) (o : SpeedOrigin) : (useSpeed m o s).sch = s.sch := (useSpeed_frame m o s).sch
@[simp] theorem restartDrum_sch : (restartDrum s).sch = s.sch := by rfl
@[simp] theorem restartCap_sch : (restartCap s).sch = s.sch := by rfl

@[simp] theorem enterCore_sch (st : TransportState) (on : Bool) : (enterCore st on s).sch = s.sch :=
  (enterCore_frame st on s).sch

@[simp] theorem reportState_sch : (reportState s).sch = s.sch := by unfold reportState; split <;> simp

@[simp] theorem enterPosting_sch (st : TransportState) (o : Origin) (on : Bool) : (enterPosting st o on s).sch = s.sch := by
  simp [enterPosting]

@[simp] theorem enter_sch (st : TransportState) (o : Origin) (quiet on : Bool) : (enter st o quiet on s).sch = s.sch := by
  simp [enter]

@[simp] theorem stopWriting_sch : (stopWriting s).sch = s.sch := by simp [stopWriting]
@[simp] theorem beginWriting_sch : (beginWriting s).sch = s.sch := by rfl
@[simp] theorem tryWriting_sch : (tryWriting s).sch = s.sch := by simp [tryWriting]

@[simp] theorem latchFault_sch (code : FaultCode) (detail : Nat) : (latchFault code detail s).sch = s.sch := by
  unfold latchFault
  dsimp only
  split
  · simp
  · split <;> simp

@[simp] theorem limitCore_sch (e : TapeEnd) (stall : Bool) : (limitCore e stall s).sch = s.sch := by
  unfold limitCore
  dsimp only
  split <;> split <;> simp

@[simp] theorem takeRewind_sch : (takeRewind s).sch = s.sch := by simp [takeRewind]
@[simp] theorem tapeLimit_sch (e : TapeEnd) (stall : Bool) : (tapeLimit e stall s).sch = s.sch := by simp [tapeLimit]
@[simp] theorem meetLimit_sch : (meetLimit s).sch = s.sch := by unfold meetLimit; split <;> simp

@[simp] theorem enterMotion_sch (st : TransportState) (o : Origin) (quiet : Bool) :
    (enterMotion st o quiet s).sch = s.sch := by simp [enterMotion]

@[simp] theorem startRun_sch (goal : Nat) : (startRun goal s).sch = s.sch := by rfl
@[simp] theorem enterPhase_sch (p : RecPhase) : (enterPhase p s).sch = s.sch := by rfl
@[simp] theorem beginPause_sch (o : Origin) (quiet : Bool) : (beginPause o quiet s).sch = s.sch := by simp [beginPause]
@[simp] theorem startCatchUp_sch (o : Origin) : (startCatchUp o s).sch = s.sch := by simp [startCatchUp]
@[simp] theorem backSpaceDone_sch : (backSpaceDone s).sch = s.sch := by unfold backSpaceDone; split <;> simp
@[simp] theorem reverseCatchUp_sch : (reverseCatchUp s).sch = s.sch := by simp [reverseCatchUp]
@[simp] theorem catchUpDone_sch : (catchUpDone s).sch = s.sch := by simp [catchUpDone]

@[simp] theorem runDone_sch : (runDone s).sch = s.sch := by
  unfold runDone
  split
  · split <;> simp
  · simp

@[simp] theorem enterRecord_sch (m : Speed) (mark paused : Bool) (o : Origin) (quiet : Bool) :
    (enterRecord m mark paused o quiet s).sch = s.sch := by simp [enterRecord]

@[simp] theorem stopSearch_sch : (stopSearch s).sch = s.sch := by unfold stopSearch; split <;> simp

@[simp] theorem startGoto_sch (target : Int) (o : Origin) (quiet : Bool) : (startGoto target o quiet s).sch = s.sch := by
  simp [startGoto]

@[simp] theorem startIndex_sch (dir : Dir) (count : Nat) (o : Origin) (quiet : Bool) :
    (startIndex dir count o quiet s).sch = s.sch := by simp [startIndex]

@[simp] theorem searchFound_sch (k : Search) : (searchFound k s).sch = s.sch := by simp [searchFound]
@[simp] theorem counterChanged_sch : (counterChanged s).sch = s.sch := by unfold counterChanged; split <;> simp
@[simp] theorem markReported_sch (m : Int) : (markReported m s).sch = s.sch := by unfold markReported; split <;> simp
@[simp] theorem searchTimeout_sch : (searchTimeout s).sch = s.sch := by unfold searchTimeout; split <;> simp
@[simp] theorem beginThread_sch (p : Target) : (beginThread p s).sch = s.sch := by simp [beginThread]

@[simp] theorem beginUnthread_sch (pending : Option Target) (o : Origin) : (beginUnthread pending o s).sch = s.sch := by
  simp [beginUnthread]

@[simp] theorem beginEject_sch (o : Origin) : (beginEject o s).sch = s.sch := by simp [beginEject]
@[simp] theorem holdInStop_sch (p : Target) : (holdInStop p s).sch = s.sch := by rfl
@[simp] theorem serveTarget_sch (p : Target) : (serveTarget p s).sch = s.sch := by unfold serveTarget; split <;> simp

@[simp] theorem threadingDone_sch : (threadingDone s).sch = s.sch := by
  unfold threadingDone
  dsimp only
  split <;> simp

@[simp] theorem threadFailure_sch : (threadFailure s).sch = s.sch := by simp [threadFailure]

@[simp] theorem unthreadedSwitch_sch : (unthreadedSwitch s).sch = s.sch := by
  unfold unthreadedSwitch
  split
  · split <;> simp
  · split
    · split <;> simp
    · rfl
  · rfl

end

/-! ### The transport's requests -/

section
variable (s : State)

@[simp] theorem clearRewind_sch : (clearRewind s).sch = s.sch := by rfl
@[simp] theorem replaceTarget_sch (p : Target) : (replaceTarget p s).sch = s.sch := by rfl

@[simp] theorem requestMotion_sch (st : TransportState) (req : TargetRequest) :
    (requestMotion st req s).1.sch = s.sch := by
  unfold requestMotion
  split
  · rfl
  · split <;> simp

/-- The search that a request starts keeps it. -/
@[simp] theorem requestSearch_sch (req : TargetRequest) {start : State → State}
    (hs : ∀ u : State, (start u).sch = u.sch) : (requestSearch req start s).1.sch = s.sch := by
  unfold requestSearch
  split
  · rfl
  · split <;> simp [hs]

@[simp] theorem requestGoto_sch : (requestGoto s).1.sch = s.sch := by simp [requestGoto]
@[simp] theorem requestIndex_sch : (requestIndex s).1.sch = s.sch := by unfold requestIndex; split <;> simp

@[simp] theorem takeRecord_sch (m : Speed) (mark paused : Bool) (o : Origin) (quiet : Bool) :
    (takeRecord m mark paused o quiet s).1.sch = s.sch := by
  unfold takeRecord
  split <;> simp

@[simp] theorem dropHeld_sch : (dropHeld s).sch = s.sch := by simp [dropHeld]
@[simp] theorem stopTape_sch (o : Origin) (quiet : Bool) : (stopTape o quiet s).sch = s.sch := by simp [stopTape]
@[simp] theorem stopByTable_sch : (stopByTable s).1.sch = s.sch := by unfold stopByTable; split <;> simp
@[simp] theorem ownerToPanel_sch : (ownerToPanel s).sch = s.sch := by simp [ownerToPanel]
@[simp] theorem stopOverride_sch : (stopOverride s).1.sch = s.sch := by unfold stopOverride; split <;> simp
@[simp] theorem requestStop_sch : (requestStop s).1.sch = s.sch := by simp [requestStop]
@[simp] theorem pauseInPause_sch : (pauseInPause s).1.sch = s.sch := by unfold pauseInPause; split <;> simp

@[simp] theorem requestPause_sch : (requestPause s).1.sch = s.sch := by
  unfold requestPause
  split
  · rfl
  · split <;> simp

@[simp] theorem resumeInPause_sch (o : Origin) : (resumeInPause o s).1.sch = s.sch := by
  unfold resumeInPause
  split <;> simp

@[simp] theorem requestResume_sch : (requestResume s).1.sch = s.sch := by
  unfold requestResume
  split
  · rfl
  · split <;> simp

@[simp] theorem ejectByTable_sch (o : Origin) : (ejectByTable o s).1.sch = s.sch := by
  unfold ejectByTable
  split <;> simp

@[simp] theorem requestEject_sch : (requestEject s).1.sch = s.sch := by simp [requestEject]

@[simp] theorem requestReset_sch : (requestReset s).1.sch = s.sch := by
  unfold requestReset
  split
  · rfl
  · split <;> simp

@[simp] theorem requestRecover_sch : (requestRecover s).1.sch = s.sch := by
  unfold requestRecover
  split
  · rfl
  · split
    · rfl
    · rfl
    · dsimp only
      split_ifs <;> simp
    · rfl

end

/-! ### The cassette, the scheduler's operations on TRC, and the main rail -/

section
variable (s : State)

@[simp] theorem defaultSpeed_sch : (defaultSpeed s).sch = s.sch := by simp [defaultSpeed]
@[simp] theorem cassetteIn_sch (tab : Bool) : (cassetteIn tab s).sch = s.sch := by simp [cassetteIn]
@[simp] theorem cassetteGone_sch : (cassetteGone s).sch = s.sch := by simp [cassetteGone]

@[simp] theorem insertCassette_sch (tab : Bool) : (insertCassette tab s).1.sch = s.sch := by
  unfold insertCassette
  split <;> simp

@[simp] theorem removeCassette_sch : (removeCassette s).sch = s.sch := by unfold removeCassette; split <;> simp
@[simp] theorem takeTransport_sch : (takeTransport s).sch = s.sch := by rfl
@[simp] theorem returnTransport_sch : (returnTransport s).sch = s.sch := by simp [returnTransport]
@[simp] theorem schRecord_sch (m : Speed) : (schRecord m s).sch = s.sch := by unfold schRecord; split <;> simp
@[simp] theorem schResume_sch (mark : Bool) : (schResume mark s).sch = s.sch := by simp [schResume]
@[simp] theorem schPause_sch : (schPause s).sch = s.sch := by unfold schPause; split <;> simp

@[simp] theorem schStop_sch : (schStop s).sch = s.sch := by
  unfold schStop
  split
  · split <;> simp
  · simp

@[simp] theorem unthreadForPowerOff_sch (o : Origin) : (unthreadForPowerOff o s).sch = s.sch := by
  simp [unthreadForPowerOff]

@[simp] theorem stopDrumAllowance_sch : (stopDrumAllowance s).sch = s.sch := by simp [stopDrumAllowance]
@[simp] theorem transportRailLost_sch : (transportRailLost s).sch = s.sch := by simp [transportRailLost]

@[simp] theorem transportRailGood_sch : (transportRailGood s).sch = s.sch := by
  unfold transportRailGood
  dsimp only
  split <;> simp

@[simp] theorem startRecordCapstan_sch : (startRecordCapstan s).sch = s.sch := by simp [startRecordCapstan]
@[simp] theorem drumReported_sch (r : LockReport) : (drumReported r s).sch = s.sch := by cases r <;> simp [drumReported]
@[simp] theorem capReported_sch (r : LockReport) : (capReported r s).sch = s.sch := by cases r <;> simp [capReported]

end

/-! ### The tuner -/

section
variable (s : State)

@[simp] theorem sendWord_sch : (sendWord s).sch = s.sch := by
  unfold sendWord
  split
  · rfl
  · dsimp only; split <;> rfl

@[simp] theorem tunEnter_sch (st : TunerState) : (tunEnter st s).sch = s.sch := by simp [tunEnter]

@[simp] theorem settleOrHold_sch : (settleOrHold s).sch = s.sch := by simp [settleOrHold]

@[simp] theorem tuneDirect_sch (n : Nat) (tag : Byte) : (tuneDirect n tag s).sch = s.sch := by
  simp [tuneDirect]

@[simp] theorem tunePreset_sch (n : Nat) (tag : Byte) : (tunePreset n tag s).sch = s.sch := by
  simp [tunePreset]

@[simp] theorem tuneLine_sch : (tuneLine s).sch = s.sch := by simp [tuneLine]

@[simp] theorem dropStation_sch : (dropStation s).sch = s.sch := by simp [dropStation]

@[simp] theorem closeScan_sch (code : Byte) : (closeScan code s).sch = s.sch := by
  unfold closeScan; split <;> simp

@[simp] theorem endScan_sch (code : Byte) : (endScan code s).sch = s.sch := by simp [endScan]

@[simp] theorem railScan_sch : (railScan s).sch = s.sch := by simp [railScan]

@[simp] theorem scanTo_sch (n : Int) : (scanTo n s).sch = s.sch := by
  unfold scanTo
  split <;> simp

@[simp] theorem scanNext_sch : (scanNext s).sch = s.sch := by unfold scanNext; split <;> simp

@[simp] theorem scanResume_sch (l : Int) : (scanResume l s).sch = s.sch := by
  unfold scanResume; split <;> simp

@[simp] theorem handTun_sch (h : TunHeld) : (handTun h s).sch = s.sch := by
  unfold handTun
  split
  · rfl
  · rfl
  · split <;> simp

@[simp] theorem offerTun_sch (h : TunHeld) : (offerTun h s).sch = s.sch := by simp [offerTun]

@[simp] theorem offerOffset_sch (n : Nat) (v : Byte) : (offerOffset n v s).sch = s.sch := by simp [offerOffset]

@[simp] theorem writeOffset_sch : (writeOffset s).sch = s.sch := by
  unfold writeOffset
  split <;> simp

@[simp] theorem dropHeldOffset_sch (n : Nat) : (dropHeldOffset n s).sch = s.sch := by simp [dropHeldOffset]

@[simp] theorem makeStation_sch (net : Nat) (name : List Byte) : (makeStation net name s).sch = s.sch := by
  unfold makeStation; split <;> simp

@[simp] theorem acquireFail_sch (sync : Bool) : (acquireFail sync s).sch = s.sch := by
  unfold acquireFail
  split <;> simp

@[simp] theorem acquireLock_sch : (acquireLock s).sch = s.sch := by
  unfold acquireLock
  split <;> simp

@[simp] theorem lastSample_sch (r : Reading) : (lastSample r s).sch = s.sch := by simp [lastSample]

@[simp] theorem afcSample_sch (r : Reading) : (afcSample r s).sch = s.sch := by
  unfold afcSample
  split <;> simp

@[simp] theorem startAcquire_sch (r : Reading) : (startAcquire r s).sch = s.sch := by simp [startAcquire]

@[simp] theorem signalLost_sch (r : Reading) : (signalLost r s).sch = s.sch := by
  unfold signalLost
  split <;> simp

@[simp] theorem trackStep_sch (r : Reading) : (trackStep r s).sch = s.sch := by
  unfold trackStep
  split <;> simp

@[simp] theorem trackSample_sch (r : Reading) : (trackSample r s).sch = s.sch := by simp [trackSample]

@[simp] theorem takeTune_sch (k : TuneKind) (value : Nat) (tag : Byte) :
    (takeTune k value tag s).sch = s.sch := by cases k <;> simp [takeTune]

@[simp] theorem requestTune_sch : (requestTune s).1.sch = s.sch := by
  unfold requestTune
  split
  · rfl
  · split <;> simp

@[simp] theorem takeScan_sch (dir : ScanDir) (base : Nat) : (takeScan dir base s).sch = s.sch := by
  unfold takeScan; dsimp only; split <;> simp

@[simp] theorem requestScan_sch : (requestScan s).1.sch = s.sch := by
  unfold requestScan
  split <;> simp

@[simp] theorem requestScanStop_sch : (requestScanStop s).1.sch = s.sch := by simp [requestScanStop]

@[simp] theorem requestStore_sch : (requestStore s).1.sch = s.sch := by simp [requestStore]

@[simp] theorem takeFine_sch (d : Int) : (takeFine d s).sch = s.sch := by
  unfold takeFine; dsimp only; split <;> simp

@[simp] theorem requestFine_sch : (requestFine s).1.sch = s.sch := by
  unfold requestFine
  split <;> simp

@[simp] theorem takeTuner_sch : (takeTuner s).sch = s.sch := by simp [takeTuner]
@[simp] theorem returnTuner_sch : (returnTuner s).sch = s.sch := by rfl

@[simp] theorem tunerRailLost_sch : (tunerRailLost s).sch = s.sch := by
  unfold tunerRailLost
  dsimp only
  split
  · simp
  · split <;> simp

@[simp] theorem tunerRailGood_sch : (tunerRailGood s).sch = s.sch := by simp [tunerRailGood]

@[simp] theorem wordEnd_sch : (wordEnd s).sch = s.sch := by unfold wordEnd; split <;> rfl
@[simp] theorem sawReading_sch (r : Reading) : (sawReading r s).sch = s.sch := by rfl

@[simp] theorem settleEnd_sch (r : Reading) : (settleEnd r s).sch = s.sch := by simp [settleEnd]

@[simp] theorem afcEvent_sch (r : Reading) : (afcEvent r s).sch = s.sch := by simp [afcEvent]

@[simp] theorem trackEvent_sch (r : Reading) : (trackEvent r s).sch = s.sch := by simp [trackEvent]

@[simp] theorem watchEvent_sch (r : Reading) : (watchEvent r s).sch = s.sch := by simp [watchEvent]

@[simp] theorem stepTest_sch (r : Reading) : (stepTest r s).sch = s.sch := by
  unfold stepTest
  split <;> simp

@[simp] theorem dwellEnd_sch : (dwellEnd s).sch = s.sch := by simp [dwellEnd]

@[simp] theorem nameTake_sch : (nameTake s).sch = s.sch := by
  unfold nameTake
  split
  · rfl
  · dsimp only
    split
    · split <;> simp
    · simp

end

/-! ### Power -/

section
variable (s : State)

@[simp] theorem wake_sch (c : WakeCause) : (wake c s).sch = s.sch := by simp [wake]
@[simp] theorem cancelOff_sch : (cancelOff s).sch = s.sch := by simp [cancelOff]
@[simp] theorem beginOff_sch (off : PowerOff) (o : Origin) : (beginOff off o s).sch = s.sch := by simp [beginOff]
@[simp] theorem autoOff_sch : (autoOff s).sch = s.sch := by simp [autoOff]
@[simp] theorem completeOff_sch : (completeOff s).sch = s.sch := by simp [completeOff]

@[simp] theorem releaseHost_sch : (releaseHost s).sch = s.sch := by
  unfold releaseHost
  dsimp only
  split
  · split <;> simp
  · simp

@[simp] theorem railLost_sch : (railLost s).sch = s.sch := by simp [railLost]
@[simp] theorem dropToggle_sch : (dropToggle s).sch = s.sch := by simp [dropToggle]
@[simp] theorem requestPowerOff_sch : (requestPowerOff s).1.sch = s.sch := by simp [requestPowerOff]

end

/-! ### The memory path -/

section
variable (s : State)

@[simp] theorem finish_sch (ran : Bool) : (finish ran s).sch = s.sch := by simp [finish]
@[simp] theorem closeCycle_sch : (closeCycle s).sch = s.sch := by rfl

@[simp] theorem protect_sch (r : ProtectReason) (off : Nat) (data : Byte) : (protect r off data s).sch = s.sch := by
  simp [protect]

@[simp] theorem releaseLatch_sch : (releaseLatch s).sch = s.sch := by rfl
@[simp] theorem takeCell_sch (n : Nat) (v : Byte) : (takeCell n v s).sch = s.sch := by rfl

end

/-! ### The servo's and the position unit's own events -/

section
variable (s : State)

@[simp] theorem useFree_sch : (useFree s).sch = s.sch := by rfl

@[simp] theorem frameStarted_sch : (frameStarted s).sch = s.sch := by rfl

@[simp] theorem stallReported_sch (reel : ReelName) : (stallReported reel s).sch = s.sch := by
  unfold stallReported
  split <;> simp

@[simp] theorem watchInterval_sch (interval : Option Nat) : (watchInterval interval s).sch = s.sch := by
  unfold watchInterval
  split
  · rfl
  · split
    · dsimp only
      split <;> simp
    · rfl

@[simp] theorem takePulse_sch (dir : Dir) (rise high : Nat) : (takePulse dir rise high s).sch = s.sch := by
  unfold takePulse
  dsimp only
  split <;> simp

@[simp] theorem pwmPeriod_sch : (pwmPeriod s).sch = s.sch := by simp [pwmPeriod]

end

/-! ### RECORD's source, the settings, the held writes and the keys -/

section
variable (s : State)

@[simp] theorem recordTune_sch (src : RecordSource) : (recordTune src s).1.sch = s.sch := by
  unfold recordTune
  split
  · rfl
  · split <;> simp

@[simp] theorem requestRecord_sch : (requestRecord s).1.sch = s.sch := by
  have htune := recordTune_sch s ((recordSource s.rqu.arg0).getD .current)
  unfold requestRecord
  split
  · rfl
  · split
    · rfl
    · split
      · rfl
      · dsimp only
        split
        · rfl
        · rename_i hr
          rw [hr] at htune
          simpa using htune

@[simp] theorem takeSetting_sch (pos : Nat) (v : Byte) : (takeSetting pos v s).sch = s.sch := by simp [takeSetting]
@[simp] theorem handPwr_sch (w : PwrHeld) : (handPwr w s).sch = s.sch := by cases w <;> simp [handPwr]
@[simp] theorem toggleTimer_sch : (toggleTimer s).sch = s.sch := by simp [toggleTimer]

@[simp] theorem keyPressed_sch (n : Nat) : (keyPressed n s).sch = s.sch := by
  unfold keyPressed
  split
  · simp
  · split <;> simp
  · rfl

@[simp] theorem pressIf_sch (b : Bool) (n : Nat) : (pressIf b n s).sch = s.sch := by simp [pressIf]
@[simp] theorem keySample_sch (k : BitVec 4) : (keySample k s).sch = s.sch := by simp [keySample]

end

/-! ### The standby start -/

section
variable (s : State)

@[simp] theorem loadSettings_sch (m : Memory) : (loadSettings m s).sch = s.sch := by rfl

@[simp] theorem correctOffsets_sch (ns : List Nat) : (correctOffsets ns s).sch = s.sch := by
  induction ns generalizing s with
  | nil => rfl
  | cons n rest ih => simp [correctOffsets, ih]

@[simp] theorem offerInit_sch (gs : List WriteGroup) : (offerInit gs s).sch = s.sch := by
  induction gs generalizing s with
  | nil => rfl
  | cons k rest ih => simp [offerInit, ih]

@[simp] theorem loadCells_sch : (loadCells s).sch = s.sch := by rfl
@[simp] theorem loadPresets_sch : (loadPresets s).sch = s.sch := by simp [loadPresets]
@[simp] theorem initialise_sch : (initialise s).sch = s.sch := by simp [initialise]

end

end Sys2Proof.Machine
end

section
/-! SUPPORT. R127: every operation of SCH, and every operation that reaches it, keeps the timer queue that of the entries. The
status of an entry is replaced by `setEntry` alone, which sorts the queue anew. -/

namespace Sys2Proof.Machine

/-! ### The rule of the timer queue -/

/-- R127: the timer queue is that of the entries. -/
def Sch.Sorted (x : Sch) : Prop := x.queue = queueOf x.entries

@[simp] theorem Sch.ite_sorted_iff (c : Prop) [Decidable c] (x y : Sch) :
    (if c then x else y).Sorted ↔ (c → x.Sorted) ∧ (¬ c → y.Sorted) := by
  split <;> simp_all

/-- R127: whatever the queue was, the status of an entry that is replaced leaves it sorted. -/
@[simp] theorem setEntry_sorted (k : Fin 16) (e : Entry) (s : State) : (setEntry k e s).sch.Sorted := rfl

/-- R127: no entry of the start values waits. -/
theorem Sch.start_sorted : Sch.start.Sorted := by unfold Sorted; decide

section
variable {s : State} (h : s.sch.Sorted)
include h

/-- An operation that keeps SCH. -/
theorem Sch.Sorted.same {t : State} (ht : t.sch = s.sch := by simp) : t.sch.Sorted := ht ▸ h

/-! ### Status groups, ends and the log (R118, R146, R148) -/

omit h in
@[simp] theorem handSch_sch (w : SchHeld) (s : State) : (handSch w s).sch = s.sch := by cases w <;> simp [handSch]

omit h in
@[simp] theorem postProgramme_sch (k : Fin 16) (o : EndOutcome) (r : Reason) (s : State) :
    (postProgramme k o r s).sch = s.sch := by simp [postProgramme]

/-- The held groups alone change. -/
@[simp] theorem setHeld_sorted (held : List SchHeld) : (s.setSch { s.sch with held }).sch.Sorted := h

@[simp] theorem writeStatus_sorted (k : Fin 16) : (writeStatus k s).sch.Sorted := by
  unfold writeStatus
  dsimp only
  split_ifs
  · exact h.same
  · exact setHeld_sorted h _
  · exact setHeld_sorted h _

@[simp] theorem recompute_sorted (k : Fin 16) : (recompute k s).sch.Sorted := by
  unfold recompute
  dsimp only
  split
  · split <;> simp [h]
  · exact h

omit h in
@[simp] theorem recomputeAll_sorted (ks : List (Fin 16)) {s : State} (h : s.sch.Sorted) :
    (recomputeAll ks s).sch.Sorted := by
  induction ks generalizing s with
  | nil => exact h
  | cons k rest ih => exact ih (recompute_sorted h k)

/-- R148: the log writer moves on. -/
@[simp] theorem makeLog_sorted (k : Fin 16) (f : LogFacts) : (makeLog k f s).sch.Sorted := by
  have hmoved : (s.setSch { s.sch with
      logSlot := (s.sch.logSlot + 1) % 16, logSeq := (s.sch.logSeq + 1) % 65536 }).sch.Sorted := h
  unfold makeLog
  dsimp only
  split
  · rw [handSch_sch]
    exact hmoved
  · exact hmoved

omit h in
/-- R146: an end replaces the status of its entry. -/
@[simp] theorem conclude_sorted (k : Fin 16) (e : Entry) (f : LogFacts) (s : State) : (conclude k e f s).sch.Sorted := by
  simp [conclude]

omit h in
@[simp] theorem missDay_sorted (k : Fin 16) (day : Nat) (reason : Reason) (s : State) :
    (missDay k day reason s).sch.Sorted := conclude_sorted k _ _ s

omit h in
@[simp] theorem missNext_sorted (k : Fin 16) (reason : Reason) (s : State) : (missNext k reason s).sch.Sorted :=
  missDay_sorted k _ reason s

omit h in
@[simp] theorem concludeRun_sorted (c : Run) (o : EndOutcome) (r : Reason) (detail : Nat) (s : State) :
    (concludeRun c o r detail s).sch.Sorted := conclude_sorted c.entry _ _ s

@[simp] theorem setRun_sorted (c : Run) : (setRun c s).sch.Sorted := h

@[simp] theorem releaseRun_sorted (wasStarted : Bool) : (releaseRun wasStarted s).sch.Sorted := by
  have hreleased : ((clearRetained (returnTuner (returnTransport (schStop s)))).setSch
      { (clearRetained (returnTuner (returnTransport (schStop s)))).sch with run := none }).sch.Sorted :=
    h.same (t := clearRetained (returnTuner (returnTransport (schStop s))))
  unfold releaseRun
  dsimp only
  split
  · rw [reportNotRunning_sch]
    exact hreleased
  · exact hreleased

@[simp] theorem endRun_sorted (o : EndOutcome) (r : Reason) (detail : Nat) : (endRun o r detail s).sch.Sorted := by
  unfold endRun
  split <;> simp [h]

@[simp] theorem endWell_sorted : (endWell s).sch.Sorted := by
  unfold endWell
  split <;> simp [h]

/-! ### The start, the continuation and the tests of a run (R133 to R142) -/

omit h in
@[simp] theorem startEffects_sorted (c : Run) (counter : Int) (s : State) : (startEffects c counter s).sch.Sorted := by
  simp [startEffects]

@[simp] theorem startOccurrence_sorted : (startRun_ s).sch.Sorted := by
  unfold startRun_
  split <;> simp [h]

omit h in
@[simp] theorem continueRun_sorted (c : Run) (b : Fin 16) (s : State) : (continueRun c b s).sch.Sorted := by
  simp [continueRun]

@[simp] theorem fallBack_sorted (c : Run) : (fallBack c s).sch.Sorted := by simp [fallBack, h]

@[simp] theorem clockTests_sorted (c : Run) : (clockTests c s).sch.Sorted := by
  unfold clockTests
  dsimp only
  split
  · simp [h]
  · split
    · split <;> simp [h]
    · exact h
  · exact h

@[simp] theorem labelTests_sorted (c : Run) : (labelTests c s).sch.Sorted := by
  unfold labelTests
  dsimp only
  split <;> simp [h]

@[simp] theorem runTests_sorted : (runTests s).sch.Sorted := by
  unfold runTests
  split <;> simp [h]

/-! ### Pre-roll (R128 to R132) -/

@[simp] theorem endPassed_sorted (k : Fin 16) : (endPassed k s).sch.Sorted := by
  unfold endPassed passOver
  dsimp only
  split <;> simp [h]

omit h in
@[simp] theorem endPassedAll_sorted (ks : List (Fin 16)) {s : State} (h : s.sch.Sorted) :
    (endPassedAll ks s).sch.Sorted := by
  induction ks generalizing s with
  | nil => exact h
  | cons k rest ih => exact ih (endPassed_sorted h k)

omit h in
@[simp] theorem setWait_sorted (w : WaitReason) (ks : List (Fin 16)) {s : State} (h : s.sch.Sorted) :
    (setWait w ks s).sch.Sorted := by
  induction ks generalizing s with
  | nil => exact h
  | cons k rest ih => exact ih (setEntry_sorted k _ s)

omit h in
@[simp] theorem handRecord_sorted (c : Run) (s : State) : (handRecord c s).sch.Sorted := by simp [handRecord]

omit h in
@[simp] theorem takeUp_sch (k : Fin 16) (s : State) : (takeUp k s).sch = s.sch := rfl

omit h in
@[simp] theorem beginPreroll_sorted (k : Fin 16) (start : Nat) (s : State) : (beginPreroll k start s).sch.Sorted := by
  unfold beginPreroll
  dsimp only
  split <;> simp

@[simp] theorem tryEntry_sorted (k : Fin 16) (busy : Bool) : (tryEntry k busy s).1.sch.Sorted := by
  unfold tryEntry
  dsimp only
  split_ifs <;> simp [h]

omit h in
@[simp] theorem checkDue_sorted (n : Nat) {s : State} (h : s.sch.Sorted) : (checkDue n s).sch.Sorted := by
  induction n generalizing s with
  | zero => exact h
  | succ n ih =>
    have hwait : (if transportBusy s then setWait .transport (dueEntries s) s else s).sch.Sorted := by simp [h]
    unfold checkDue
    dsimp only
    iterate 4 refine iteInduction (motive := fun t : State => t.sch.Sorted) (fun _ => by simp [h]) fun _ => ?_
    split
    · exact hwait
    · have ht := tryEntry_sorted hwait ‹Fin 16› (transportBusy s)
      simp [ih, ht]

@[simp] theorem prerollCheck_sorted : (prerollCheck s).sch.Sorted := by
  have htests := runTests_sorted h
  have hpassed := endPassedAll_sorted (runTests s).sch.queue htests
  simp [prerollCheck, htests, hpassed]

/-! ### Label following (R135 to R138), claims and requests (7.3) -/

@[simp] theorem labelAction_sorted (c : Run) (status : Nat) : (labelAction c status s).sch.Sorted := by
  unfold labelAction
  dsimp only
  split <;> simp [h]

@[simp] theorem labelPacket_sorted (net : Nat) (label : List Byte) (status : Nat) :
    (labelPacket net label status s).sch.Sorted := by
  unfold labelPacket
  split <;> simp [h]

@[simp] theorem labelTake_sorted : (labelTake s).sch.Sorted := by
  unfold labelTake
  split
  · exact h
  · dsimp only
    split
    · exact labelPacket_sorted h.same _ _ _
    · exact h.same

@[simp] theorem absenceEnd_sorted (c : Run) : (absenceEnd c s).sch.Sorted := by
  unfold absenceEnd
  dsimp only
  split
  · split <;> simp [h]
  · simp [h]

@[simp] theorem lossEnd_sorted (c : Run) : (lossEnd c s).sch.Sorted := by
  unfold lossEnd
  dsimp only
  split
  · split <;> simp [h]
  · simp [h]

@[simp] theorem labelTick_sorted : (labelTick s).sch.Sorted := by
  unfold labelTick
  split <;> simp [h]

/-- The claim alone changes. -/
@[simp] theorem setClaim_sorted (claim : Option (Fin 16 × Nat)) : (s.setSch { s.sch with claim }).sch.Sorted := h

omit h in
@[simp] theorem makeEmpty_sorted (k : Fin 16) (s : State) : (makeEmpty k s).sch.Sorted := setEntry_sorted k _ _

omit h in
@[simp] theorem expireClaim_sorted (k : Fin 16) (s : State) : (expireClaim k s).sch.Sorted := by simp [expireClaim]

@[simp] theorem claimTick_sorted : (claimTick s).sch.Sorted := by
  unfold claimTick
  split
  · exact h
  · split
    · exact expireClaim_sorted _ s
    · exact h

@[simp] theorem requestClaim_sorted : (requestClaim s).1.sch.Sorted := by
  unfold requestClaim
  split
  · exact h
  · split
    · split <;> exact h
    · split
      case h_4 => exact writeStatus_sorted (setClaim_sorted (s := setEntry _ _ s) (setEntry_sorted _ _ s) _) _
      all_goals exact h

omit h in
@[simp] theorem takeCommit_sorted (k : Fin 16) (s : State) : (takeCommit k s).sch.Sorted := by simp [takeCommit]

@[simp] theorem requestCommit_sorted : (requestCommit s).1.sch.Sorted := by
  unfold requestCommit
  split
  · exact h
  · split
    · exact h
    · split
      · exact h
      · exact takeCommit_sorted _ s

@[simp] theorem requestDiscard_sorted : (requestDiscard s).1.sch.Sorted := by
  unfold requestDiscard
  split
  · exact h
  · split
    · exact writeStatus_sorted (makeEmpty_sorted _ s) _
    · exact h

@[simp] theorem requestDelete_sorted : (requestDelete s).1.sch.Sorted := by
  unfold requestDelete
  split
  · exact h
  · split
    · exact writeStatus_sorted (makeEmpty_sorted _ s) _
    · exact writeStatus_sorted (makeEmpty_sorted _ s) _
    · exact h
    · exact h

@[simp] theorem requestAbort_sorted : (requestAbort s).1.sch.Sorted := by
  unfold requestAbort
  split <;> simp [h]

/-! ### Clock steps, notices and seconds (R143, R144) -/

@[simp] theorem stepOver_sorted (new : Nat) (k : Fin 16) : (stepOver new k s).sch.Sorted := by
  unfold stepOver
  dsimp only
  split <;> simp [h]

omit h in
@[simp] theorem stepOverAll_sorted (new : Nat) (ks : List (Fin 16)) {s : State} (h : s.sch.Sorted) :
    (stepOverAll new ks s).sch.Sorted := by
  induction ks generalizing s with
  | nil => exact h
  | cons k rest ih => exact ih (stepOver_sorted h new k)

@[simp] theorem clockMiss_sorted (new : Nat) (k : Fin 16) : (clockMiss new k s).sch.Sorted := by
  unfold clockMiss
  dsimp only
  split
  · split <;> simp [h]
  · exact h

omit h in
@[simp] theorem clockMissAll_sorted (new : Nat) (ks : List (Fin 16)) {s : State} (h : s.sch.Sorted) :
    (clockMissAll new ks s).sch.Sorted := by
  induction ks generalizing s with
  | nil => exact h
  | cons k rest ih => exact ih (clockMiss_sorted h new k)

@[simp] theorem stepBack_sorted (new : Nat) : (stepBack new s).sch.Sorted := by
  unfold stepBack
  split <;> simp [h]

@[simp] theorem stepNotice_sorted (n : StepNotice) : (stepNotice n s).sch.Sorted := by
  have hpassed : (if n.validBefore then stepOverAll n.new.secs s.sch.queue s
      else clockMissAll n.new.secs s.sch.queue s).sch.Sorted := by simp [h]
  exact stepBack_sorted (recomputeAll_sorted _ hpassed) _

@[simp] theorem transportReport_sorted (st : TransportState) : (transportReport st s).sch.Sorted := by
  unfold transportReport
  split
  · exact h
  · split <;> simp [h]

@[simp] theorem limitReport_sorted : (limitReport s).sch.Sorted := by
  unfold limitReport
  split <;> simp [h]

omit h in
@[simp] theorem testAutoOff_sch (s : State) : (testAutoOff s).sch = s.sch := by simp [testAutoOff]

@[simp] theorem takeNotice_sorted (n : Notice) : (takeNotice n s).sch.Sorted := by cases n <;> simp [takeNotice, h]

omit h in
@[simp] theorem settle_sorted (n : Nat) {s : State} (h : s.sch.Sorted) : (settle n s).sch.Sorted := by
  induction n generalizing s with
  | zero => exact h
  | succ n ih =>
    unfold settle
    split
    · exact ih (takeNotice_sorted h.same _)
    · split
      · exact ih (startOccurrence_sorted h)
      · exact h

@[simp] theorem secondsEvent_sorted : (secondsEvent s).sch.Sorted :=
  labelTick_sorted (claimTick_sorted (s := s.setClk s.clk.ageSample) h)

/-! ### Frames that SCH is told of (R48, R54, R91) -/

@[simp] theorem markDone_sorted (m : MarkWrite) : (markDone m s).sch.Sorted := by
  unfold markDone
  split <;> simp [h]

@[simp] theorem frameWritten_sorted : (frameWritten s).sch.Sorted := by
  unfold frameWritten
  dsimp only
  split
  · exact markDone_sorted h.same _
  · exact h.same

@[simp] theorem writeFrame_sorted : (writeFrame s).sch.Sorted := by
  rw [writeFrame_eq]
  simp [h]

@[simp] theorem fieldStart_sorted (at_ : Nat) : (fieldStart at_ s).sch.Sorted := by
  have hseen : (fieldSeen at_ s).sch.Sorted := h
  rw [fieldStart_eq]
  simp [hseen]

/-! ### The memory path -/

@[simp] theorem handOldest_sorted (b : Block) : (handOldest b s).sch.Sorted := by
  cases b with
  | sch =>
    unfold handOldest
    dsimp only
    split
    · exact h
    · rw [handSch_sch]
      exact setHeld_sorted h _
  | rqu | tun | pwr =>
    unfold handOldest
    dsimp only
    split
    · exact h
    · exact h.same

omit h in
@[simp] theorem grants_sorted (n : Nat) {s : State} (h : s.sch.Sorted) : (grants n s).sch.Sorted := by
  induction n generalizing s with
  | zero => exact h
  | succ n ih =>
    unfold grants
    split
    · exact h
    · split
      · exact ih (handOldest_sorted h.same _)
      · exact h

@[simp] theorem grantSlots_sorted : (grantSlots s).sch.Sorted := grants_sorted 16 h
@[simp] theorem drain_sorted : (drain s).sch.Sorted := by simp [drain, h]
@[simp] theorem passWrite_sorted (off : Nat) (data : Byte) : (passWrite off data s).sch.Sorted := by simp [passWrite, h]

/-- R156: the programme shadow alone changes. -/
@[simp] theorem setProg_sorted (prog : Memory) : (s.setSch { s.sch with prog }).sch.Sorted := h

@[simp] theorem programmeCycle_sorted (off : Nat) (data : Byte) : (programmeCycle off data s).sch.Sorted := by
  unfold programmeCycle
  exact iteInduction (motive := fun t : State => t.sch.Sorted)
    (fun _ => passWrite_sorted (setProg_sorted h _) off data) fun _ => h.same

@[simp] theorem presetCycle_sorted (off : Nat) (data : Byte) : (presetCycle off data s).sch.Sorted := by
  simp [presetCycle, h]

@[simp] theorem profileCycle_sorted (off : Nat) (data : Byte) : (profileCycle off data s).sch.Sorted := by
  exact passWrite_sorted h.same off data

@[simp] theorem settingsCycle_sorted (off : Nat) (data : Byte) : (settingsCycle off data s).sch.Sorted := by
  simp [settingsCycle, h]

theorem event_sorted {f : State → State} (hf : ∀ u : State, u.sch.Sorted → (f u).sch.Sorted) : (event f s).sch.Sorted := by
  simp [event, h, hf s h]

omit h in
@[simp] theorem holdCycle_sorted (n : Nat) {s : State} (h : s.sch.Sorted) : (holdCycle n s).sch.Sorted := by
  induction n generalizing s with
  | zero => exact h
  | succ n ih =>
    have hd := event_sorted h fun u hu => drain_sorted hu
    simp [holdCycle, ih, h, hd]

@[simp] theorem holdOrServe_sorted : (holdOrServe s).sch.Sorted := by
  have hheld := holdCycle_sorted holdFuel (s := s.setFree (s.free + 1)) h
  simp [holdOrServe, h, hheld]

/-- Each command's owner keeps the queue that of the entries. -/
theorem ownerActs_sorted {code : Byte} {t : State} {a : Answer} (ha : ownerActs code s = some (t, a)) : t.sch.Sorted := by
  have of {r : State × Answer} (hr : r.1.sch.Sorted) (e : some r = some (t, a)) : t.sch.Sorted := by cases e; exact hr
  unfold ownerActs at ha
  split at ha
  case h_27 => cases ha
  all_goals exact of (by simp [h]) ha

@[simp] theorem request_sorted (code : Byte) : (request code s).sch.Sorted := by
  unfold request
  dsimp only
  split
  · simp [h]
  · rename_i ha
    simp [ownerActs_sorted h ha]

@[simp] theorem regionWrite_sorted (off : Nat) (data : Byte) : (regionWrite off data s).sch.Sorted := by
  simp [regionWrite, h]

theorem hostWrite_sorted (addr : Nat) (data : Byte) : (hostWrite addr data s).sch.Sorted := by
  have hu : (if hostRuns s then holdOrServe s else s).sch.Sorted := by simp [h]
  unfold hostWrite
  dsimp only
  generalize (if hostRuns s then holdOrServe s else s) = u at hu ⊢
  split
  · exact hu
  · split
    · exact hu
    · split <;> simp [hu]

theorem hostRead_sorted (addr : Nat) : (hostRead addr s).sch.Sorted := by
  have hu : (if hostRuns s then holdOrServe s else s).sch.Sorted := by simp [h]
  unfold hostRead
  dsimp only
  generalize (if hostRuns s then holdOrServe s else s) = u at hu ⊢
  split
  · exact hu
  · split
    · exact hu
    · split
      · exact hu
      · split
        · exact hu
        · split <;> exact hu

/-! ### The standby start, the supply and the backup domain -/

omit h in
@[simp] theorem loadOne_sorted (k : Fin 16) (s : State) : (loadOne k s).sch.Sorted := by simp [loadOne]

omit h in
@[simp] theorem loadEntries_sorted (ks : List (Fin 16)) {s : State} (h : s.sch.Sorted) : (loadEntries ks s).sch.Sorted := by
  induction ks generalizing s with
  | nil => exact h
  | cons k rest ih => exact ih (loadOne_sorted k s)

@[simp] theorem loadSchedule_sorted : (loadSchedule s).sch.Sorted := loadEntries_sorted allEntries (s := s.setSch _) h

@[simp] theorem validate_sorted : (validate s).sch.Sorted := by simp [validate, h]

omit h in
@[simp] theorem dropDrafts_sorted (ks : List (Fin 16)) {s : State} (h : s.sch.Sorted) : (dropDrafts ks s).sch.Sorted := by
  induction ks generalizing s with
  | nil => exact h
  | cons k rest ih => simp [dropDrafts, ih, h]

@[simp] theorem resolveRetained_sorted : (resolveRetained s).sch.Sorted := by simp [resolveRetained, h]

@[simp] theorem resolveOne_sorted (k : Fin 16) : (resolveOne k s).sch.Sorted := by
  unfold resolveOne
  dsimp only
  split <;> simp [h]

omit h in
@[simp] theorem resolveAll_sorted (ks : List (Fin 16)) {s : State} (h : s.sch.Sorted) : (resolveAll ks s).sch.Sorted := by
  induction ks generalizing s with
  | nil => exact h
  | cons k rest ih => exact ih (resolveOne_sorted h k)

@[simp] theorem supplyOff_sorted (k : Fin 16) : (supplyOff k s).sch.Sorted := by
  unfold supplyOff
  dsimp only
  split <;> simp [h]

omit h in
@[simp] theorem supplyOffAll_sorted (ks : List (Fin 16)) {s : State} (h : s.sch.Sorted) :
    (supplyOffAll ks s).sch.Sorted := by
  induction ks generalizing s with
  | nil => exact h
  | cons k rest ih => exact ih (supplyOff_sorted h k)

@[simp] theorem rebuild_sorted : (rebuild s).sch.Sorted := by simp [rebuild, h]
@[simp] theorem validateAndRebuild_sorted : (validateAndRebuild s).sch.Sorted := by
  unfold validateAndRebuild
  split
  · have hdropped := dropDrafts_sorted allEntries ((validate_sorted h).same (t := postInvalid (validate s)))
    exact rebuild_sorted (resolveAll_sorted _ (resolveRetained_sorted hdropped))
  · exact rebuild_sorted h.same

theorem standbyStart_sorted (l : PinLevels) : (standbyStart l s).sch.Sorted := by
  have hstart : (startValues l s).sch.Sorted := Sch.start_sorted
  simp [standbyStart, h, hstart]

theorem supplyLoss_sorted (byteInProgress : Bool) : (supplyLoss byteInProgress s).sch.Sorted := by
  unfold supplyLoss
  split
  · exact Sch.start_sorted
  · exact h

theorem backupReset_sorted : (backupReset s).sch.Sorted := by simp [backupReset, h]

end

end Sys2Proof.Machine
end

section
/-! LEMMA. R127: the timer queue of a table of entries holds those that wait, in order; and every instruction and the idle tick
keep the machine's queue that of its entries. -/

namespace Sys2Proof.Machine

/-! ### The order of the queue -/

/-- R127: entry `j` stands ahead of entry `k`. -/
def Ahead (es : Vector Entry 16) (j k : Fin 16) : Prop :=
  nextStart es j < nextStart es k ∨ (nextStart es j = nextStart es k ∧ j < k)

theorem Ahead.ne {es : Vector Entry 16} {j k : Fin 16} (h : Ahead es j k) : j ≠ k := by
  rintro rfl
  rcases h with h | ⟨-, h⟩ <;> exact lt_irrefl _ h

theorem Ahead.trans {es : Vector Entry 16} {i j k : Fin 16} (h : Ahead es i j) (h' : Ahead es j k) : Ahead es i k := by
  unfold Ahead at *
  omega

/-- R127: the WAITING entries of a list join a queue one after another. -/
def joinAll (es : Vector Entry 16) (q : List (Fin 16)) (ks : List (Fin 16)) : List (Fin 16) :=
  ks.foldl (fun q k => if (es.get k).state == .waiting then insertEntry es k q else q) q

theorem queueOf_eq_joinAll (es : Vector Entry 16) : queueOf es = joinAll es [] allEntries := rfl

@[simp] theorem joinAll_nil (es : Vector Entry 16) (q : List (Fin 16)) : joinAll es q [] = q := rfl

theorem joinAll_cons (es : Vector Entry 16) (q : List (Fin 16)) (k : Fin 16) (ks : List (Fin 16)) :
    joinAll es q (k :: ks) = joinAll es (if (es.get k).state = .waiting then insertEntry es k q else q) ks := by
  simp [joinAll]

@[simp] theorem mem_insertEntry (es : Vector Entry 16) (i k : Fin 16) (q : List (Fin 16)) :
    i ∈ insertEntry es k q ↔ i = k ∨ i ∈ q := by
  induction q with
  | nil => simp [insertEntry]
  | cons j rest ih =>
    rw [insertEntry]
    split_ifs
    · simp
    · simp [ih, or_left_comm]

/-- R127: an entry with an index above those of an ordered queue joins it in order. -/
theorem pairwise_insertEntry {es : Vector Entry 16} {k : Fin 16} {q : List (Fin 16)} (hq : q.Pairwise (Ahead es))
    (hk : ∀ j ∈ q, j < k) : (insertEntry es k q).Pairwise (Ahead es) := by
  induction q with
  | nil => simp [insertEntry]
  | cons j rest ih =>
    obtain ⟨hj, hrest⟩ := List.pairwise_cons.1 hq
    rw [insertEntry]
    split_ifs with hlt
    · have hkj : Ahead es k j := .inl hlt
      exact List.pairwise_cons.2 ⟨List.forall_mem_cons.2 ⟨hkj, fun i hi => hkj.trans (hj i hi)⟩, hq⟩
    · have hjk : Ahead es j k := by
        have := hk j List.mem_cons_self
        unfold Ahead
        omega
      refine List.pairwise_cons.2 ⟨fun i hi => ?_, ih hrest fun i hi => hk i (List.mem_cons_of_mem _ hi)⟩
      rcases (mem_insertEntry es i k rest).1 hi with rfl | hi
      exacts [hjk, hj i hi]

theorem mem_joinAll (es : Vector Entry 16) (i : Fin 16) (ks : List (Fin 16)) (q : List (Fin 16)) :
    i ∈ joinAll es q ks ↔ i ∈ q ∨ i ∈ ks ∧ (es.get i).state = .waiting := by
  induction ks generalizing q with
  | nil => simp
  | cons k ks ih =>
    rw [joinAll_cons, ih]
    split_ifs with hw
    · by_cases hik : i = k <;> simp [hik, hw]
    · by_cases hik : i = k <;> simp [hik, hw]

/-- R127: entries that join by rising index keep the queue in order. -/
theorem pairwise_joinAll {es : Vector Entry 16} {ks q : List (Fin 16)} (hq : q.Pairwise (Ahead es))
    (hks : ks.Pairwise (· < ·)) (hlow : ∀ j ∈ q, ∀ k ∈ ks, j < k) : (joinAll es q ks).Pairwise (Ahead es) := by
  induction ks generalizing q with
  | nil => exact hq
  | cons k ks ih =>
    obtain ⟨hk, hks⟩ := List.pairwise_cons.1 hks
    have hlow' : ∀ j ∈ q, ∀ i ∈ ks, j < i := fun j hj i hi => hlow j hj i (List.mem_cons_of_mem _ hi)
    rw [joinAll_cons]
    split_ifs
    · refine ih (pairwise_insertEntry hq fun j hj => hlow j hj k List.mem_cons_self) hks fun j hj i hi => ?_
      rcases (mem_insertEntry es j k q).1 hj with rfl | hj
      exacts [hk i hi, hlow' j hj i hi]
    · exact ih hq hks hlow'

theorem mem_queueOf (es : Vector Entry 16) (k : Fin 16) : k ∈ queueOf es ↔ (es.get k).state = .waiting := by
  have hall : ∀ k : Fin 16, k ∈ allEntries := by decide
  simp [queueOf_eq_joinAll, mem_joinAll, hall k]

theorem pairwise_queueOf (es : Vector Entry 16) : (queueOf es).Pairwise (Ahead es) :=
  pairwise_joinAll .nil (by decide) (by simp)

theorem nodup_queueOf (es : Vector Entry 16) : (queueOf es).Nodup := (pairwise_queueOf es).imp Ahead.ne

/-! ### The commands -/

section
variable {s : State} (h : s.sch.Sorted)
include h

theorem command_sorted {f : State → State} (hf : ∀ u : State, u.sch.Sorted → (f u).sch.Sorted) {t : State}
    (ht : command f s = .next t) : t.sch.Sorted := by
  cases ht
  exact event_sorted h hf

/-- A command whose own work leaves SCH alone. -/
theorem command_sameSch {f : State → State} {t : State} (ht : command f s = .next t)
    (hf : ∀ u : State, (f u).sch = u.sch) : t.sch.Sorted := command_sorted h (fun u hu => hu.same (hf u)) ht

theorem hostCycle_sorted {f : State → State} (hf : ∀ u : State, u.sch.Sorted → (f u).sch.Sorted) {t : State}
    (ht : hostCycle f s = .next t) : t.sch.Sorted := by
  have he := event_sorted h hf
  cases ht
  simp [h, he]

/-- A host write of the region, the form of every request and of the host's own writes. -/
theorem hostWriteAt_sorted {off : Nat} {data : Byte} {t : State} (ht : hostCycle (hostWriteAt off data) s = .next t) :
    t.sch.Sorted := hostCycle_sorted h (fun _ hu => hostWrite_sorted hu _ data) ht

theorem secondAdvance_sorted : (secondAdvance s).sch.Sorted := by
  have he := event_sorted h (f := fun s => secondsEvent (s.setClk s.clk.second)) fun u hu =>
    secondsEvent_sorted (s := u.setClk u.clk.second) hu
  simp [secondAdvance, he, h]

omit h in
theorem keySamples_sorted (samples : List (BitVec 4)) {s : State} (h : s.sch.Sorted) :
    (keySamples samples s).sch.Sorted := by
  induction samples generalizing s with
  | nil => exact h
  | cons k rest ih => exact ih (event_sorted h fun u hu => hu.same)

/-- R127: every command keeps the timer queue that of the entries. -/
theorem exec_sorted (i : Instr) {t : State} (ht : exec i s = .next t) : t.sch.Sorted := by
  cases i with
  | standbyStart levels => cases ht; exact standbyStart_sorted h levels
  | standbySupplyLoss b => cases ht; exact supplyLoss_sorted h b
  | backupReset => cases ht; exact backupReset_sorted h
  | secondAdvance => cases ht; exact secondAdvance_sorted h
  | keyPress samples => cases ht; exact keySamples_sorted samples h
  | play | record | stop | pause | resume | ff | rew | cue | review | eject | indexSearch | goto | counterReset
  | recover | tune | scan | scanStop | store | fine | setTime | claim | commit | discard | delete | abort | powerOff
  | profileWrite off data | presetWrite off data | programmeWrite off data | settingsWrite off data
  | partOwnedWrite off data | unknownCommand code | eventAck seq => exact hostWriteAt_sorted h ht
  | liveRead addr => exact hostCycle_sorted h (fun _ hu => hostRead_sorted hu _) ht
  | hostWrite addr data => exact hostCycle_sorted h (fun _ hu => hostWrite_sorted hu _ _) ht
  | labelTake => exact command_sorted h (fun _ hu => labelTake_sorted hu) ht
  | fieldStart at_ => exact command_sorted h (fun _ hu => fieldStart_sorted hu at_) ht
  | occurrenceStart => exact command_sorted h (fun _ hu => startOccurrence_sorted hu) ht
  | postedWriteDrain => exact command_sorted h (fun _ hu => drain_sorted hu) ht
  | slotGrant => exact command_sorted h (fun _ hu => grantSlots_sorted hu) ht
  | occurrenceStartDue | occurrenceStopReached | absenceTimeout | labelLossTimeout | labelOverrunLimit | claimExpiry =>
    exact command_sorted h (fun u hu => by split <;> simp [hu]) ht
  | frameReferencePulse => exact command_sorted h (fun u hu => by simp [hu]) ht
  | lockAllowanceExpiry motor => exact command_sameSch h ht fun u => by cases motor <;> dsimp only <;> split <;> simp
  | tapeLimit which active => exact command_sameSch h ht fun u => by cases which <;> simp
  | motorOc motor active => exact command_sameSch h ht fun u => by dsimp only; split_ifs <;> simp
  | ctlReadPulse rise high => exact command_sameSch h ht fun u => by dsimp only; split <;> simp
  | lineStart | linePacketComplete | framingCodeFound => exact command_sameSch h ht fun u => by rfl
  | threadTimeout | unthreadTimeout | ejectTimeout | idleTimeout | pauseTimeout | railTimeout | hostResetRelease
  | frameReferenceTimeout | reelStall | runDownEnd | extrapolationStart | extrapolatedFrame | unsureSet =>
    exact command_sameSch h ht fun u => by split <;> simp
  | cassetteInsertion | cassetteRemoval | threadingComplete | unthreadingComplete | thermal | searchCounterTimeout
  | mainGoodFall | mainGoodRise | drumFgPulse | drumFgGap | capstanFgPulse | capstanFgGap | drumPgPulse
  | reelMark | synthWordEnd | settleEnd | afcSample | trackingSample | noSignalWatch
  | scanStepTest | dwellTimeout | nameTake | timeTake | powerOffComplete => exact command_sameSch h ht fun u => by simp

theorem tick_sorted : (tick s).sch.Sorted := by
  have hp : (pwmPeriod (s.setNow (s.now + (crystalMicros (s.clk.sub + 1) - crystalMicros s.clk.sub)))).sch.Sorted := h.same
  unfold tick
  dsimp only
  split_ifs
  · exact hp
  · exact secondAdvance_sorted hp

end

end Sys2Proof.Machine

open Sys2Proof Sys2Proof.Machine

/-- Settles O52: the status of an entry is replaced by `setEntry` alone, which sorts the queue anew; and a queue that entries
join by rising index, each behind those with its start, is in the order of R127. -/
theorem timerQueueIsOrdered : Obligations.TimerQueueIsOrdered := by
  refine ⟨Sch.start_sorted, fun s t hs ht => ?_, fun es => ⟨mem_queueOf es, nodup_queueOf es, pairwise_queueOf es⟩⟩
  show t.sch.Sorted
  unfold step at ht
  split at ht
  · cases ht
    exact tick_sorted hs
  · rename_i c rest _
    exact exec_sorted (s := s.setPending rest) hs c ht

end

section
/-! LEMMA. The next occurrence that is found (R126). -/

namespace Sys2Proof.Machine

theorem isOnce_iff (m : Memory) (k : Fin 16) : isOnce m k = true ↔ progMask m k = 0 := beq_iff_eq

theorem qualifies_iff (m : Memory) (k : Fin 16) (lastRun : Option Nat) (now day : Nat) :
    qualifies m k lastRun now day = true ↔
      now < occStop m k day ∧ occStop m k day ≤ limitTime.secs ∧ ∀ l, lastRun = some l → l < day := by
  cases lastRun <;> simp [qualifies, and_assoc]

/-- R126: the days that are tried: the one day of a once entry, or days of the repeat mask. -/
def daysTried (m : Memory) (k : Fin 16) (lastRun : Option Nat) (now : Nat) : List Nat :=
  if isOnce m k then (onceDay m k).toList else (searchDays lastRun now).filter fun d => inMask (progMask m k) d

theorem nextOccurrence_eq (m : Memory) (k : Fin 16) (lastRun : Option Nat) (now : Nat) :
    nextOccurrence m k lastRun now =
      ((daysTried m k lastRun now).find? fun d => qualifies m k lastRun now d).map (occStart m k) := rfl

theorem mem_daysTried_once {m : Memory} {k : Fin 16} {lastRun : Option Nat} {now day : Nat}
    (h : day ∈ daysTried m k lastRun now) (hm : progMask m k = 0) : onceDay m k = some day := by
  rw [daysTried, if_pos ((isOnce_iff m k).2 hm)] at h
  exact Option.mem_toList.1 h

theorem mem_daysTried_repeat {m : Memory} {k : Fin 16} {lastRun : Option Nat} {now day : Nat}
    (h : day ∈ daysTried m k lastRun now) (hm : progMask m k ≠ 0) : (progMask m k).getLsbD (day % 7) = true := by
  rw [daysTried, if_neg fun ho => hm ((isOnce_iff m k).1 ho)] at h
  exact (List.mem_filter.1 h).2

end Sys2Proof.Machine

open Sys2Proof Sys2Proof.Machine

/-- Settles O51: the day found is one of those tried, and it qualifies. -/
theorem nextOccurrenceQualifies : Obligations.NextOccurrenceQualifies := by
  intro m k lastRun now start h
  rw [nextOccurrence_eq, Option.map_eq_some_iff] at h
  obtain ⟨day, hfind, rfl⟩ := h
  obtain ⟨hstop, hlimit, hlast⟩ := (qualifies_iff m k lastRun now day).1 (List.find?_some hfind)
  have hday := List.mem_of_find?_eq_some hfind
  exact ⟨day, rfl, hstop, hlimit, hlast, mem_daysTried_once hday, mem_daysTried_repeat hday⟩

end

section
/-! SUPPORT. What SCH's own work leaves: the status of entries and the timer queue (R118, R127), the end of an event in which
SCH has come to rest, and what a command, a request or a second leaves then. -/

namespace Sys2Proof.Machine

/-! ### Entries and the timer queue -/

@[simp] theorem entry_setEntry_same (k : Fin 16) (e : Entry) (s : State) : entry k (setEntry k e s) = e :=
  Vector.getElem_set_self k.isLt

theorem entry_setEntry_of_ne {j k : Fin 16} (h : j ≠ k) (e : Entry) (s : State) : entry j (setEntry k e s) = entry j s :=
  Vector.getElem_set_ne k.isLt j.isLt fun hv => h (Fin.ext hv.symm)

/-- The entries of a state alone say what its entries are. -/
theorem entry_congr {s t : State} (h : t.sch.entries = s.sch.entries) (k : Fin 16) : entry k t = entry k s := by
  simp only [entry, h]

theorem entrySet_of_entries {k : Fin 16} {e : Entry} {s t : State} (h : t.sch.entries = (setEntry k e s).sch.entries) :
    EntrySet k e s t :=
  ⟨(entry_congr h k).trans (entry_setEntry_same k e s), fun j hj => (entry_congr h j).trans (entry_setEntry_of_ne hj e s)⟩

theorem EntrySet.noneWaiting {k : Fin 16} {e : Entry} {s t : State} (h : EntrySet k e s t)
    (hn : ∀ j, j ≠ k → (entry j s).state ≠ .waiting) (he : e.state ≠ .waiting := by simp) : NoneWaiting t := by
  intro j
  by_cases hj : j = k
  · rw [hj, h.1]
    exact he
  · rw [h.2 j hj]
    exact hn j hj

theorem Sch.Sorted.mem_iff {s : State} (h : s.sch.Sorted) (k : Fin 16) : k ∈ s.sch.queue ↔ (entry k s).state = .waiting := by
  rw [h]
  exact mem_queueOf _ k

theorem Sch.Sorted.queue_nil {s : State} (h : s.sch.Sorted) (hn : NoneWaiting s) : s.sch.queue = [] :=
  List.eq_nil_iff_forall_not_mem.2 fun k hk => hn k ((h.mem_iff k).1 hk)

theorem Sch.Sorted.queue_single {s : State} (h : s.sch.Sorted) {k : Fin 16} (hk : (entry k s).state = .waiting)
    (hn : ∀ j, j ≠ k → (entry j s).state ≠ .waiting) : s.sch.queue = [k] := by
  have hperm : s.sch.queue.Perm [k] := by
    refine (List.perm_ext_iff_of_nodup (by rw [h]; exact nodup_queueOf _) (List.nodup_singleton k)).2 fun j => ?_
    rw [h.mem_iff, List.mem_singleton]
    exact ⟨fun hj => by_contra fun hne => hn j hne hj, fun hj => hj ▸ hk⟩
  exact List.perm_singleton.1 hperm

theorem setSch_frame (s : State) (x : Sch) : SameBut [.sch] s (s.setSch x) := by
  intro p hp; cases p <;> simp_all [Part.same]

theorem setEntry_frame (k : Fin 16) (e : Entry) (s : State) : SameBut [.sch] s (setEntry k e s) := setSch_frame s _

theorem setRun_frame (c : Run) (s : State) : SameBut [.sch] s (setRun c s) := setSch_frame s _

theorem entryOf_eq {n : Nat} {k : Fin 16} (h : n = k.val) : entryOf n = some k := by
  simp [entryOf, h]

theorem entryOf_none {n : Nat} (h : 16 ≤ n) : entryOf n = none := by
  simp [entryOf, h]

/-! ### SCH at rest -/

theorem State.setNotices_self {s : State} (h : s.notices = []) : s.setNotices [] = s := by
  rw [← h]
  rfl

/-- With nothing untold and no start that stands ready, SCH is at rest. -/
theorem settle_rest (n : Nat) {s : State} (hn : s.notices = []) (hr : startReady s = false) : settle n s = s := by
  cases n with
  | zero => rfl
  | succ n => simp [settle, hn, hr]

/-- A check that alone is untold is taken. -/
theorem settle_takesCheck (n : Nat) {s : State} (hn : s.notices = []) :
    settle (n + 1) (notify .check s) = settle n (prerollCheck s) := by
  have htold : (notify .check s).notices = [.check] := by simp [notify, hn]
  have hback : (notify .check s).setNotices [] = s := State.setNotices_self hn
  rw [settle, htold, nextNotice_check]
  dsimp only [takeNotice]
  rw [hback]

/-- With no run and nothing in the timer queue, the check leaves SCH at rest. -/
theorem settle_idleCheck (n : Nat) {s : State} (hn : s.notices = []) (hr : s.sch.run = none) (hq : s.sch.queue = []) :
    settle n (prerollCheck s) = s := by
  rw [prerollCheck_idle hr hq, settle_idle n hn hr]

theorem startReady_of_not_ready {s : State} {c : Run} (hrun : s.sch.run = some c) (h : c.ready = false) :
    startReady s = false := by
  simp [startReady, hrun, h]

theorem startReady_of_state {s : State} {c : Run} (hrun : s.sch.run = some c) (h : (entry c.entry s).state ≠ .preroll) :
    startReady s = false := by
  simp [startReady, hrun, h]

/-! ### The work -/

section
variable {ps qs : List Part} {evs : List Event} {groups : List WriteGroup} {s u v : State}

/-- Work on the listed parts alone, SCH's own among them. -/
theorem Handing.work {t : State} (h : Handing ps evs groups s u) (hf : SameBut qs u t)
    (hq : ∀ p ∈ qs, p ∈ ps := by decide) (ho : .rqu ∉ qs ∧ .mpath ∉ qs := by decide) : Handing ps evs groups s t where
  frame := h.frame.with ((hf.mono hq).mono fun _ hp => List.mem_append_right _ hp)
  rqu := (hf .rqu ho.1).trans h.rqu
  mpath := (hf .mpath ho.2).trans h.mpath

/-- R171: an event is posted where there was room for `n`, nothing waited to drain, and the time stands. -/
theorem Handing.postsAt {n : Nat} (h : Handing ps evs groups s u) (e : Event) (hr : EventRoom n s)
    (hq : s.mpath.queue = []) (hck : u.clk.time = s.clk.time) (hlen : evs.length < n ∧ groups.length < 4 := by simp) :
    Handing ps (evs ++ [e]) (groups ++ [eventGroupAt s evs.length e]) s (Machine.post e u) := by
  obtain ⟨hev, hgr⟩ := hlen
  have hcount := hr.count
  have hp := post_room (e := e) (s := u) (by simp [h.rqu, hr.overflow]) (by rw [h.rqu]; dsimp only; omega)
    (by simpa [h.mpath, hq] using hgr)
  have hg : eventGroupAt u 0 e = eventGroupAt s evs.length e := by simp [eventGroupAt, h.rqu, hck]
  exact
    { frame := h.frame.with ((post_frame e u).mono (by simp))
      rqu := by simp [hp, h.rqu, Nat.add_assoc]
      mpath := by simp [hp, h.mpath, hg] }

/-- R118: the status of an entry is handed. -/
theorem Handing.status (h : Handing ps evs groups s u) (k : Fin 16) (hq : s.mpath.queue = [])
    (hlen : groups.length < 4 := by simp) :
    Handing ps evs (groups ++ [statusGroup k (entry k u)]) s (writeStatus k u) := by
  rw [writeStatus_room (by simpa [h.mpath, hq] using hlen)]
  exact h.hand _

/-! ### The end of the event -/

/-- What an event leaves of the queues, the lines and the other parts, once SCH is at rest in `v`. -/
theorem Handing.ended (h : Handing ps evs groups s v) (hu : NothingUntold s) (hq : s.mpath.queue = [])
    (hqs : ∀ p ∈ [.rqu, .mpath] ++ ps, p ≠ .untold → p ∈ qs := by decide) :
    Appended evs s (Machine.ended (hostRuns s) v) ∧ Handed groups s (Machine.ended (hostRuns s) v)
      ∧ SameBut qs s (Machine.ended (hostRuns s) v) := by
  refine ⟨?_, ?_, fun p hp => ?_⟩
  · rw [Appended, ended_rqu, h.rqu]
    rfl
  · rw [Handed, ended_mpath, h.mpath]
    simp [openLevel, openAfter, h.mpath, hq]
  · by_cases hpu : p = .untold
    · subst hpu
      exact ⟨hu.1.symm, hu.2.symm⟩
    · have hmem : p ∉ [.rqu, .mpath] ++ ps := fun hm => hp (hqs p hm hpu)
      have hsame := h.frame p hmem
      cases p <;> simp_all [Part.same, Machine.ended, setLines]

/-- What an event leaves that posted and handed nothing, with the lines standing. -/
theorem ended_quiet {ran : Bool} (h : SameBut ps s v) (hu : NothingUntold s) (hl : LinesStand s)
    (hps : .rqu ∉ ps ∧ .mpath ∉ ps ∧ .pwr ∉ ps := by decide)
    (hqs : ∀ p ∈ ps, p ≠ .untold → p ∈ qs := by decide) : SameBut qs s (Machine.ended ran v) := by
  obtain ⟨hr, hm, hp⟩ := hps
  have hlv : LinesStand ((v.setNotices []).setTaken []) := hl.of_same (h .rqu hr) (h .mpath hm) (h .pwr hp)
  rw [Machine.ended, setLines_stand hlv]
  intro p hp'
  by_cases hpu : p = .untold
  · subst hpu
    exact ⟨hu.1.symm, hu.2.symm⟩
  · have hsame := h p fun hmem => hp' (hqs p hmem hpu)
    cases p <;> simp_all [Part.same]

/-- The part completes no power-off and releases no host (R184, R186). -/
def PowerRests (s : State) : Prop := s.pwr.power = .on → s.pwr.phase ≠ .stopping ∧ s.pwr.phase ≠ .resetHold

theorem PowerSteady.rests (hp : PowerSteady s) (hv : v.pwr = s.pwr) : PowerRests v := by
  rw [PowerRests, hv]
  exact fun _ => ⟨hp.notStopping, hp.notResetHold⟩

theorem PowerRests.finish {ran : Bool} (h : PowerRests v) : finish ran v = Machine.ended ran v := by
  have hoff : completeOff ((v.setNotices []).setTaken []) = (v.setNotices []).setTaken [] := by
    refine if_neg fun hc => ?_
    simp only [Bool.and_eq_true, beq_iff_eq] at hc
    exact (h hc.1.1.1).1 hc.1.1.2
  have hrelease : releaseHost ((v.setNotices []).setTaken []) = (v.setNotices []).setTaken [] := by
    refine if_neg fun hc => ?_
    simp only [Bool.and_eq_true, beq_iff_eq] at hc
    exact (h hc.1.1.1).2 hc.1.1.2
  rw [Machine.finish, hoff, hrelease]
  rfl

/-- A command after whose own work SCH comes to rest in `v`. -/
theorem command_settles {f : State → State} (hset : settle Config.chainFuel (f s) = v) (hp : s.pwr.power ≠ .backup)
    (hv : PowerRests v) : command f s = .next (Machine.ended (hostRuns s) v) := by
  rw [command_powered hp, hset, hv.finish]

/-- The same of a part whose power the event leaves alone. -/
theorem PowerSteady.command_settles (hp : PowerSteady s) {f : State → State} (hset : settle Config.chainFuel (f s) = v)
    (hv : v.pwr = s.pwr) : command f s = .next (Machine.ended (hostRuns s) v) :=
  Machine.command_settles hset hp.powered (hp.rests hv)

/-! ### Seconds -/

/-- R105: the state in which SCH takes a seconds event: CLK has advanced, and its held sample has aged. -/
def atSecond (s : State) : State := s.setClk s.clk.second.ageSample

@[simp] theorem atSecond_sch : (atSecond s).sch = s.sch := rfl
@[simp] theorem entry_atSecond (k : Fin 16) : entry k (atSecond s) = entry k s := rfl

theorem atSecond_frame (s : State) : SameBut [.clk] s (atSecond s) := setClk_frame s _

/-- R105: below the limit the clock shows one second more. -/
theorem clockNow_atSecond (hwf : s.clk.time.wf = true) (hl : s.clk.time ≠ limitTime) :
    clockNow (atSecond s) = clockNow s + 1 := by
  have htime : (atSecond s).clk.time = s.clk.time.tick := (s.clk.second_time).trans (if_neg hl)
  rw [clockNow, htime, DateTime.tick_secs hwf]
  rfl

/-- R105: a seconds event of the powered part is a command of SCH's work on the advanced clock. -/
theorem exec_secondAdvance (hp : s.pwr.power ≠ .backup) :
    exec .secondAdvance s = command (fun s => notify .check (labelTick (claimTick (atSecond s)))) s := by
  show Host.Outcome.next (secondAdvance s) = _
  simp only [secondAdvance, powered, bne_iff_ne, ne_eq, hp, not_false_eq_true, if_true, command]
  rfl

/-- A second in which SCH counts the claim, then the labels to `u`, and comes to rest in `v`. -/
theorem second_settles {w : State} (hclaim : claimTick (atSecond s) = w) (hlabel : labelTick w = u) (hn : u.notices = [])
    (hset : settle 127 (prerollCheck u) = v) (hp : s.pwr.power ≠ .backup) (hv : PowerRests v) :
    exec .secondAdvance s = .next (Machine.ended (hostRuns s) v) := by
  rw [exec_secondAdvance hp]
  refine command_settles ?_ hp hv
  show settle (127 + 1) (notify .check (labelTick (claimTick (atSecond s)))) = v
  rw [hclaim, hlabel, settle_takesCheck 127 hn, hset]

/-- The same of a part whose power the second leaves alone. -/
theorem PowerSteady.second_settles {w : State} (hp : PowerSteady s) (hclaim : claimTick (atSecond s) = w)
    (hlabel : labelTick w = u) (hn : u.notices = []) (hset : settle 127 (prerollCheck u) = v) (hv : v.pwr = s.pwr) :
    exec .secondAdvance s = .next (Machine.ended (hostRuns s) v) :=
  Machine.second_settles hclaim hlabel hn hset hp.powered (hp.rests hv)

/-! ### Requests -/

/-- R168, R169: a request to SCH of the host. -/
theorem Handing.answers {code : Byte} {a : Answer} (h : Handing ps evs groups (atRequest code s) v)
    (ha : ownerActs code (atRequest code s) = some (u, a)) (hset : settle Config.chainFuel u = v) (hn : v.notices = [])
    (hr : startReady v = false) (hh : HostRuns s) (hu : NothingUntold s) (hlen : groups.length < 4 := by simp)
    (hcode : isTransportCode code = false := by decide) (hps : .pwr ∉ ps ∧ .mem ∉ ps := by decide)
    (hqs : ∀ p ∈ [.mem, .rqu, .mpath] ++ ps, p ≠ .untold → p ∈ qs := by decide) :
    ∃ t, hostCycle (hostWriteAt offCommand code) s = .next t ∧ t.sch = v.sch ∧ Answered code evs groups a s t
      ∧ SameBut qs s t := by
  have hpwr : v.pwr = s.pwr := h.frame .pwr (by simpa using hps.1)
  have hmem : v.mem = (atRequest code s).mem := h.frame .mem (by simpa using hps.2)
  have hphase : v.pwr.phase = .running := by rw [hpwr]; exact hh.phase
  have hnone : (atRequest code s).mpath.queue = [] := hh.drained.queue
  have hqu : v.mpath.queue.length < 4 := by rw [h.mpath, hnone]; exact hlen
  have hdone := h.hand (resultGroup a s.rqu.tag)
  have hreq : request code (atRequest code s) = enqueue (resultGroup a s.rqu.tag) v := by
    simp only [request, ha, hcode, Bool.false_and, Bool.false_eq_true, if_false]
    rw [hset, makeResult_room hqu, atRequest_rqu]
  refine ⟨closeCycle (Machine.ended true (enqueue (resultGroup a s.rqu.tag) v)), ?_, rfl, ⟨⟨⟨?_, ?_⟩, ?_⟩, ?_⟩,
    fun p hp => ?_⟩
  · rw [hostCycle_request hh, hreq, settle_rest (s := enqueue _ v) _ hn hr,
      finish_steady (by simp [enqueue, hphase]) (by simp [enqueue, hphase])]
    rfl
  · show v.mem.read _ = _
    rw [hmem]
    exact Memory.read_write_same hh.ram _ _
  · intro x hx
    show v.mem.read x = _
    rw [hmem]
    exact Memory.read_write_other _ _ hx
  · have hclosed (w : State) : (closeCycle (Machine.ended true w)).mpath =
        { w.mpath with urgent := urgentLevel w, hwait := urgentLevel w, cycleOpen := false } := rfl
    rw [hclosed, hdone.mpath, hnone]
    rfl
  · have hlevel (w : State) : (closeCycle (Machine.ended true w)).rqu = { w.rqu with irq := irqLevel w } := rfl
    rw [Appended, hlevel, hdone.rqu]
    rfl
  · by_cases hpu : p = .untold
    · subst hpu
      exact ⟨hu.1.symm, hu.2.symm⟩
    · have hmem' : p ∉ [.mem, .rqu, .mpath] ++ ps := fun hm => hp (hqs p hm hpu)
      simp only [List.cons_append, List.nil_append, List.mem_cons, not_or] at hmem'
      obtain ⟨h1, h2, h3, h4⟩ := hmem'
      have e1 := atRequest_frame code s p (by simp [h1, h3])
      have e2 := h.frame p (by simp [h2, h3, h4])
      cases p <;> simp_all [Part.same, Machine.ended, setLines, enqueue, closeCycle]

/-- R168, R169: a request to SCH that changes nothing but to answer. -/
theorem answers_only {code : Byte} {a : Answer} (ha : ownerActs code (atRequest code s) = some (atRequest code s, a))
    (hh : HostRuns s) (hu : NothingUntold s) (hr : startReady s = false)
    (hcode : isTransportCode code = false := by decide) :
    ∃ t, hostCycle (hostWriteAt offCommand code) s = .next t ∧ Answered code [] [] a s t
      ∧ SameBut [.mem, .mpath, .rqu] s t := by
  obtain ⟨t, hx, -, hans, hframe⟩ :=
    (Handing.start [] _).answers ha (settle_rest _ hu.1 hr) hu.1 hr hh hu (hcode := hcode) (qs := [.mem, .mpath, .rqu])
  exact ⟨t, hx, hans, hframe⟩

end

theorem ScheduleIdle.untold {s : State} (h : ScheduleIdle s) : NothingUntold s := ⟨h.notices, h.taken⟩

theorem ScheduleIdle.notReady {s : State} (h : ScheduleIdle s) : startReady s = false := startReady_of_run h.run

end Sys2Proof.Machine
end

section
/-! LEMMA. Claims (R120, R121), and the entry that becomes EMPTY (R124). -/

namespace Sys2Proof.Machine

/-! ### CLAIM -/

/-- R120: entry `k` is claimed. -/
def claimEntry (k : Fin 16) (s : State) : State :=
  let u := setEntry k { entry k s with state := .draft, wait := .none } s
  u.setSch { u.sch with claim := some (k, 0) }

theorem claimEntry_frame (k : Fin 16) (s : State) : SameBut [.sch] s (claimEntry k s) :=
  (setEntry_frame k _ s).with (setSch_frame _ _)

theorem requestClaim_outside {s : State} (h : 16 ≤ s.rqu.arg0.toNat) : requestClaim s = (s, badArg 0) := by
  rw [requestClaim, entryOf_none h]

theorem requestClaim_other {s : State} {j k : Fin 16} {n : Nat} (hk : s.rqu.arg0.toNat = k.val)
    (hc : s.sch.claim = some (j, n)) (hj : j ≠ k) : requestClaim s = (s, answer .busy) := by
  simp only [requestClaim, entryOf_eq hk, hc, if_neg hj]

theorem requestClaim_free {s : State} {k : Fin 16} (hk : s.rqu.arg0.toNat = k.val) (hc : s.sch.claim = none)
    (he : (entry k s).state ∈ [EntryState.empty, .ended]) :
    requestClaim s = (writeStatus k (claimEntry k s), answer .done) := by
  simp only [requestClaim, entryOf_eq hk, hc]
  simp only [List.mem_cons, List.not_mem_nil, or_false] at he
  rcases he with he | he <;> rw [he] <;> rfl

theorem statusGroup_claimEntry (k : Fin 16) (s : State) :
    statusGroup k (entry k (claimEntry k s)) = statusGroup k { entry k s with state := .draft, wait := .none } :=
  congrArg (statusGroup k) (entry_setEntry_same k _ s)

/-! ### An entry becomes EMPTY -/

/-- The status of an entry that becomes EMPTY. -/
@[reducible] def Entry.emptied (e : Entry) : Entry := { e with state := .empty, wait := .none }

theorem claimed_iff (k : Fin 16) (s : State) : claimed k s = true ↔ ∃ n, s.sch.claim = some (k, n) := by
  unfold claimed
  split
  · rename_i j n h
    simp [h]
  · rename_i h
    simp [h]

theorem claimed_eq_false_iff (k : Fin 16) (s : State) : claimed k s = false ↔ ∀ n, s.sch.claim ≠ some (k, n) := by
  rw [← Bool.not_eq_true, claimed_iff, not_exists]

theorem makeEmpty_of_claimed {k : Fin 16} {s : State} (h : claimed k s = true) :
    makeEmpty k s = setEntry k (entry k s).emptied (s.setSch { s.sch with claim := none }) := by
  obtain ⟨n, hn⟩ := (claimed_iff k s).1 h
  simp only [makeEmpty, hn, if_true]
  rfl

theorem makeEmpty_of_not_claimed {k : Fin 16} {s : State} (h : claimed k s = false) :
    makeEmpty k s = setEntry k (entry k s).emptied s := by
  unfold makeEmpty
  split
  · rename_i j n hn
    have hj : j ≠ k := fun hj => (claimed_eq_false_iff k s).1 h n (hj ▸ hn)
    simp only [if_neg hj]
  · rfl

theorem makeEmpty_frame (k : Fin 16) (s : State) : SameBut [.sch] s (makeEmpty k s) := by
  cases h : claimed k s
  · rw [makeEmpty_of_not_claimed h]
    exact setEntry_frame k _ s
  · rw [makeEmpty_of_claimed h]
    exact (setSch_frame s _).with (setEntry_frame k _ _)

theorem makeEmpty_time (k : Fin 16) (s : State) : (makeEmpty k s).clk.time = s.clk.time :=
  congrArg Clk.time (makeEmpty_frame k s .clk (by decide))

theorem makeEmpty_entrySet (k : Fin 16) (s : State) : EntrySet k (entry k s).emptied s (makeEmpty k s) := by
  cases h : claimed k s
  · rw [makeEmpty_of_not_claimed h]
    exact entrySet_of_entries rfl
  · rw [makeEmpty_of_claimed h]
    exact entrySet_of_entries rfl

/-- An entry that becomes EMPTY leaves the rest of SCH, but the timer queue and a claim of it, as it stands. -/
theorem makeEmpty_sch (k : Fin 16) (s : State) :
    (makeEmpty k s).sch.claim = (if claimed k s then none else s.sch.claim) ∧ (makeEmpty k s).sch.run = s.sch.run
      ∧ (makeEmpty k s).sch.prog = s.sch.prog ∧ (makeEmpty k s).sch.logSeq = s.sch.logSeq
      ∧ (makeEmpty k s).sch.held = s.sch.held := by
  cases h : claimed k s
  · rw [makeEmpty_of_not_claimed h]
    exact ⟨rfl, rfl, rfl, rfl, rfl⟩
  · rw [makeEmpty_of_claimed h]
    exact ⟨rfl, rfl, rfl, rfl, rfl⟩

/-- R121: a claim that expires. -/
theorem claimTick_expires {s : State} {k : Fin 16} {n : Nat} (hc : s.sch.claim = some (k, n)) (hn : 119 ≤ n) :
    claimTick s = expireClaim k s := by
  have hlimit : Config.claimLimit ≤ n + 1 := Nat.succ_le_succ hn
  simp only [claimTick, hc, if_pos hlimit]

theorem claimTick_counts {s : State} {k : Fin 16} {n : Nat} (hc : s.sch.claim = some (k, n)) (hn : n < 119) :
    claimTick s = s.setSch { s.sch with claim := some (k, n + 1) } := by
  have hlimit : ¬ Config.claimLimit ≤ n + 1 := by
    show ¬ 120 ≤ n + 1
    omega
  simp only [claimTick, hc, if_neg hlimit]

section
variable {s : State} {k : Fin 16} {n : Nat}

/-- R121: the expiry of a claim: the event, then the status. -/
theorem expireClaim_handing (hq : s.mpath.queue = []) (hr : EventRoom 1 s) :
    Handing [.sch] [evClaimExpired k] [eventGroupAt s 0 (evClaimExpired k), statusGroup k (entry k s).emptied] s
      (expireClaim k s) := by
  have hposted := ((Handing.start [.sch] s).work (makeEmpty_frame k s)).postsAt (evClaimExpired k) hr hq (makeEmpty_time k s)
  have hwork := hposted.status k hq
  have hstatus : entry k (post (evClaimExpired k) (makeEmpty k s)) = (entry k s).emptied :=
    (entry_congr (by rw [post_sch]) k).trans (makeEmpty_entrySet k s).1
  rw [hstatus] at hwork
  exact hwork

/-- R121: what the expiry leaves of SCH. -/
theorem expireClaim_sch (hq : s.mpath.queue = []) (hr : EventRoom 1 s) : (expireClaim k s).sch = (makeEmpty k s).sch := by
  have hpost := ((Handing.start [.sch] s).work (makeEmpty_frame k s)).postsAt (evClaimExpired k) hr hq (makeEmpty_time k s)
  rw [expireClaim, writeStatus_room (by rw [hpost.mpath]; simp [hq])]
  exact post_sch _ _

/-- R121: what the expiry of a claim leaves of SCH. -/
theorem expireClaim_leaves (hi : ScheduleIdle s) (hnone : NoneWaiting s) (hd : Drained s) (hr : EventRoom 1 s)
    (hc : s.sch.claim = some (k, n)) :
    (expireClaim k s).sch.claim = none ∧ (expireClaim k s).sch.run = none ∧ (expireClaim k s).sch.queue = []
      ∧ EntrySet k (entry k s).emptied s (expireClaim k s) := by
  have hsch := expireClaim_sch (k := k) hd.queue hr
  obtain ⟨hclaim, hrun, -⟩ := makeEmpty_sch k s
  have hset : EntrySet k (entry k s).emptied s (expireClaim k s) := by
    obtain ⟨hk, hj⟩ := makeEmpty_entrySet k s
    have hsame := entry_congr (congrArg Sch.entries hsch)
    exact ⟨(hsame k).trans hk, fun j hne => (hsame j).trans (hj j hne)⟩
  refine ⟨?_, ?_, (expireClaim_sorted k s).queue_nil (hset.noneWaiting fun j _ => hnone j), hset⟩
  · rw [hsch, hclaim, if_pos ((claimed_iff k s).2 ⟨n, hc⟩)]
  · rw [hsch, hrun, hi.run]

/-- R121: the row CLAIM_EXPIRY of a claim whose timer stands at its limit (log entry 23). -/
theorem exec_claimExpiry (hi : ScheduleIdle s) (hp : PowerSteady s) (hd : Drained s) (hr : EventRoom 1 s)
    (hc : s.sch.claim = some (k, n)) (hn : 120 ≤ n) :
    exec .claimExpiry s = .next (Machine.ended (hostRuns s) (expireClaim k s)) := by
  have hlimit : Config.claimLimit ≤ n := hn
  have hexec : exec .claimExpiry s = command (fun _ => expireClaim k s) s :=
    command_of (by simp only [hc, if_pos hlimit])
  have hw := expireClaim_handing (k := k) hd.queue hr
  have hsch := expireClaim_sch (k := k) hd.queue hr
  have hrun : (expireClaim k s).sch.run = none := by
    rw [hsch]
    exact (makeEmpty_sch k s).2.1.trans hi.run
  rw [hexec]
  exact hp.command_settles (settle_idle _ ((hw.frame .untold (by decide)).1.trans hi.notices) hrun)
    (hw.frame .pwr (by decide))

end

end Sys2Proof.Machine

open Sys2Proof Sys2Proof.Machine

/-- Settles O48: CLAIM sets an entry DRAFT; a seconds event counts the claim up to its limit, and there the entry becomes EMPTY,
CLAIM EXPIRED is posted and the status handed. -/
theorem claimsBeginAndExpire : Obligations.ClaimsBeginAndExpire := by
  refine ⟨⟨?_, ?_, ?_⟩, ?_, ?_⟩
  · intro s k hh hi hnone hk hc he
    have hq : (atRequest 0x41 s).mpath.queue = [] := hh.drained.queue
    have hw := ((Handing.start [.sch] (atRequest 0x41 s)).work (claimEntry_frame k _)).status k hq
    rw [statusGroup_claimEntry] at hw
    have ha : ownerActs 0x41 (atRequest 0x41 s) = _ := congrArg some (requestClaim_free (s := atRequest 0x41 s) hk hc he)
    have hroom : (claimEntry k (atRequest 0x41 s)).mpath.queue.length < 4 := by
      rw [claimEntry_frame k _ .mpath (by decide), hq]
      decide
    rw [writeStatus_room hroom] at hw ha
    obtain ⟨t, hx, hsch, hans, hframe⟩ := hw.answers ha (settle_rest _ hi.notices (startReady_of_run hi.run)) hi.notices
      (startReady_of_run hi.run) hh hi.untold (qs := [.sch, .mem, .mpath, .rqu])
    replace hsch : t.sch = (claimEntry k s).sch := hsch
    have hset : EntrySet k { entry k s with state := .draft, wait := .none } s t :=
      entrySet_of_entries (by rw [hsch]; rfl)
    have hqueue : t.sch.queue = [] := by
      refine Sch.Sorted.queue_nil ?_ (hset.noneWaiting fun j _ => hnone j)
      rw [hsch]
      rfl
    refine ⟨t, hx, ?_, hset, hqueue, ?_, ?_, ?_, ?_, hans, hframe⟩ <;> rw [hsch]
    exacts [rfl, hi.run, rfl, rfl, rfl]
  · intro s j k n hh hi hk hc hj
    exact answers_only (congrArg some (requestClaim_other (s := atRequest 0x41 s) hk hc hj)) hh hi.untold hi.notReady
  · intro s hh hi harg
    exact answers_only (congrArg some (requestClaim_outside (s := atRequest 0x41 s) harg)) hh hi.untold hi.notReady
  · intro s k n hi hnone hp hd hr hc hn
    obtain ⟨hclaim, hrun, hqueue, hset⟩ := expireClaim_leaves hi hnone hd hr hc
    obtain ⟨happ, hhand, hframe⟩ := (expireClaim_handing (k := k) hd.queue hr).ended hi.untold hd.queue
      (qs := [.sch, .mpath, .rqu])
    exact ⟨_, exec_claimExpiry hi hp hd hr hc hn, hclaim, hqueue, hset, happ, hhand, hframe⟩
  · intro s k n hi hnone hp hd hl hr hc
    constructor
    · intro hn
      have hx := hp.second_settles (claimTick_counts (s := atSecond s) hc hn) (labelTick_of_none hi.run) hi.notices
        (settle_idleCheck 127 hi.notices hi.run hi.queue) rfl
      have hframe : SameBut [.clk, .sch] s ((atSecond s).setSch { s.sch with claim := some (k, n + 1) }) :=
        ((atSecond_frame s).mono (by simp)).with ((setSch_frame _ _).mono (by simp))
      exact ⟨_, hx, rfl, ended_quiet hframe hi.untold hl⟩
    · rintro rfl
      have hi' : ScheduleIdle (atSecond s) := ⟨hi.run, hi.queue, hi.notices, hi.taken⟩
      have hd' : Drained (atSecond s) := ⟨hd.queue, hd.grants⟩
      have hr' : EventRoom 1 (atSecond s) := ⟨hr.overflow, hr.count⟩
      obtain ⟨hclaim, hrun, hqueue, hset⟩ := expireClaim_leaves hi' hnone hd' hr' hc
      have hw := expireClaim_handing (k := k) hd'.queue hr'
      have hnotices := (hw.frame .untold (by decide)).1.trans hi.notices
      obtain ⟨happ, hhand, hframe⟩ := hw.ended hi'.untold hd'.queue (qs := [.sch, .mpath, .rqu])
      have hx := hp.second_settles (claimTick_expires (s := atSecond s) hc le_rfl) (labelTick_of_none hrun) hnotices
        (settle_idleCheck 127 hnotices hrun hqueue) (hw.frame .pwr (by decide))
      refine ⟨_, hx, hclaim, hqueue, hset, happ, ?_, ?_⟩
      · have hclk : (Machine.ended (hostRuns s) (expireClaim k (atSecond s))).clk = (atSecond s).clk := hframe .clk (by decide)
        rw [hclk]
        exact hhand
      · exact ((atSecond_frame s).trans hframe).mono (by simp)

end

section
/-! LEMMA. DISCARD and DELETE (R124). -/

namespace Sys2Proof.Machine

theorem requestDiscard_outside {s : State} (h : 16 ≤ s.rqu.arg0.toNat) : requestDiscard s = (s, badArg 0) := by
  rw [requestDiscard, entryOf_none h]

theorem requestDelete_outside {s : State} (h : 16 ≤ s.rqu.arg0.toNat) : requestDelete s = (s, badArg 0) := by
  rw [requestDelete, entryOf_none h]

section
variable {s : State} {k : Fin 16} (hk : s.rqu.arg0.toNat = k.val)
include hk

theorem requestDiscard_claimed (hc : claimed k s = true) :
    requestDiscard s = (writeStatus k (makeEmpty k s), answer .done) := by
  simp only [requestDiscard, entryOf_eq hk, hc, if_true]

theorem requestDiscard_unclaimed (hc : claimed k s = false) : requestDiscard s = (s, answer .state) := by
  simp [requestDiscard, entryOf_eq hk, hc]

theorem requestDelete_settled (he : (entry k s).state ∈ [EntryState.waiting, .ended]) :
    requestDelete s = (writeStatus k (makeEmpty k s), answer .done) := by
  simp only [List.mem_cons, List.not_mem_nil, or_false] at he
  rcases he with he | he <;> simp only [requestDelete, entryOf_eq hk, he]

theorem requestDelete_empty (he : (entry k s).state = .empty) : requestDelete s = (s, answer .done) := by
  simp only [requestDelete, entryOf_eq hk, he]

theorem requestDelete_busy (he : (entry k s).state ∈ [EntryState.draft, .preroll, .active, .paused]) :
    requestDelete s = (s, answer .state) := by
  simp only [List.mem_cons, List.not_mem_nil, or_false] at he
  rcases he with he | he | he | he <;> simp only [requestDelete, entryOf_eq hk, he]

end

/-- R133: an entry that becomes EMPTY makes no start ready. -/
theorem startReady_of_emptied {k : Fin 16} {s t : State} (hrun : t.sch.run = s.sch.run)
    (hset : EntrySet k (entry k s).emptied s t) (hr : startReady s = false) : startReady t = false := by
  unfold startReady at hr ⊢
  rw [hrun]
  split
  · rfl
  · rename_i c hc
    rw [hc] at hr
    by_cases hck : c.entry = k
    · rw [hck, hset.1]
      simp
    · rw [hset.2 _ hck]
      exact hr

/-- R124: a request that makes an entry EMPTY. -/
theorem emptied_answers {code : Byte} {k : Fin 16} {s : State} (hh : HostRuns s) (hu : NothingUntold s)
    (hr : startReady s = false)
    (ha : ownerActs code (atRequest code s)
      = some (writeStatus k (makeEmpty k (atRequest code s)), answer .done))
    (hcode : isTransportCode code = false := by decide) :
    ∃ t, hostCycle (hostWriteAt offCommand code) s = .next t
      ∧ t.sch.claim = (if claimed k s then none else s.sch.claim)
      ∧ EntrySet k (entry k s).emptied s t ∧ k ∉ t.sch.queue
      ∧ t.sch.run = s.sch.run ∧ t.sch.prog = s.sch.prog ∧ t.sch.logSeq = s.sch.logSeq ∧ t.sch.held = s.sch.held
      ∧ Answered code [] [statusGroup k (entry k s).emptied] (answer .done) s t
      ∧ SameBut [.sch, .mem, .mpath, .rqu] s t := by
  have hq : (atRequest code s).mpath.queue = [] := hh.drained.queue
  have hempty := makeEmpty_entrySet k (atRequest code s)
  obtain ⟨hclaim, hrun, hprog, hseq, hheld⟩ := makeEmpty_sch k (atRequest code s)
  have hroom : (makeEmpty k (atRequest code s)).mpath.queue.length < 4 := by
    rw [makeEmpty_frame k _ .mpath (by decide), hq]
    decide
  have hw := ((Handing.start [.sch] (atRequest code s)).work (makeEmpty_frame k _)).status k hq
  rw [hempty.1] at hw
  rw [writeStatus_room hroom] at hw ha
  have hnotices : (makeEmpty k (atRequest code s)).notices = [] :=
    ((makeEmpty_frame k _ .untold (by decide)).1).trans hu.1
  have hready : startReady (makeEmpty k (atRequest code s)) = false :=
    startReady_of_emptied (s := atRequest code s) hrun hempty hr
  obtain ⟨t, hx, hsch, hans, hframe⟩ := hw.answers ha (settle_rest _ hnotices hready) hnotices hready hh hu (hcode := hcode)
    (qs := [.sch, .mem, .mpath, .rqu])
  replace hsch : t.sch = (makeEmpty k (atRequest code s)).sch := hsch
  have hset : EntrySet k (entry k s).emptied s t := by
    have hsame := entry_congr (congrArg Sch.entries hsch)
    exact ⟨(hsame k).trans hempty.1, fun j hj => (hsame j).trans (hempty.2 j hj)⟩
  have hqueue : k ∉ t.sch.queue := by
    have hsorted : t.sch.Sorted := by
      rw [hsch]
      exact makeEmpty_sorted k _
    rw [hsorted.mem_iff, hset.1]
    simp
  refine ⟨t, hx, ?_, hset, hqueue, ?_, ?_, ?_, ?_, hans, hframe⟩ <;> rw [hsch]
  exacts [hclaim, hrun, hprog, hseq, hheld]

end Sys2Proof.Machine

open Sys2Proof Sys2Proof.Machine

/-- Settles O49: either request makes the entry EMPTY in one way, and answers alone in every other state. -/
theorem discardAndDeleteEmptyAnEntry : Obligations.DiscardAndDeleteEmptyAnEntry := by
  intro s hh hu hr
  refine ⟨fun harg => ⟨?_, ?_⟩, fun k hk => ⟨fun hc => ?_, fun n hc => ?_, fun he hc => ?_, fun he => ?_, fun he => ?_⟩⟩
  · exact answers_only (congrArg some (requestDiscard_outside (s := atRequest 0x43 s) harg)) hh hu hr
  · exact answers_only (congrArg some (requestDelete_outside (s := atRequest 0x44 s) harg)) hh hu hr
  · exact answers_only (congrArg some (requestDiscard_unclaimed (s := atRequest 0x43 s) hk
      ((claimed_eq_false_iff k s).2 hc))) hh hu hr
  · have hclaimed := (claimed_iff k s).2 ⟨n, hc⟩
    obtain ⟨t, hx, hclaim, ht⟩ := emptied_answers (code := 0x43) hh hu hr
      (congrArg some (requestDiscard_claimed (s := atRequest 0x43 s) hk hclaimed))
    exact ⟨t, hx, hclaim.trans (if_pos hclaimed), ht⟩
  · have hclaimed := (claimed_eq_false_iff k s).2 hc
    obtain ⟨t, hx, hclaim, ht⟩ := emptied_answers (code := 0x44) hh hu hr
      (congrArg some (requestDelete_settled (s := atRequest 0x44 s) hk he))
    exact ⟨t, hx, hclaim.trans (if_neg (by rw [hclaimed]; decide)), ht⟩
  · exact answers_only (congrArg some (requestDelete_empty (s := atRequest 0x44 s) hk he)) hh hu hr
  · exact answers_only (congrArg some (requestDelete_busy (s := atRequest 0x44 s) hk he)) hh hu hr

end

section
/-! LEMMA. COMMIT (R122, R123), and a check that finds the one entry that waits not due yet (R128). -/

namespace Sys2Proof.Machine

/-! ### The check of one entry that waits -/

/-- R128: an occurrence whose stop is still to come is not ended by the check. -/
theorem endPassed_ahead {s : State} {k : Fin 16} {start : Nat} (hn : (entry k s).next = some start)
    (hs : clockNow s < stopOf s.sch.prog k start) : endPassed k s = s := by
  unfold endPassed
  dsimp only
  split
  · rename_i t _ ht
    obtain rfl : start = t := Option.some.inj (hn.symm.trans ht)
    rw [if_neg (not_le.2 hs)]
  · rfl

theorem isDue_iff {s : State} {k : Fin 16} {start : Nat} (hn : (entry k s).next = some start) :
    isDue s k = true ↔ start ≤ clockNow s + setLead s.mpath.settings ∧ clockNow s < stopOf s.sch.prog k start := by
  simp [isDue, hn]

/-- R128: with no run, the check that finds one entry in the timer queue, its stop to come, is that of the due entries. -/
theorem prerollCheck_single {s : State} {k : Fin 16} {start : Nat} (hr : s.sch.run = none) (hu : s.notices = [])
    (hq : s.sch.queue = [k]) (hn : (entry k s).next = some start) (hs : clockNow s < stopOf s.sch.prog k start) :
    prerollCheck s = checkDue 17 s := by
  have htests : runTests s = s := by rw [runTests, hr]
  simp only [prerollCheck, htests, hu, List.any_nil, Bool.false_eq_true, if_false, hq, endPassedAll, endPassed_ahead hn hs]

theorem dueEntries_single {s : State} {k : Fin 16} {start : Nat} (hq : s.sch.queue = [k])
    (hn : (entry k s).next = some start) : dueEntries s =
      if start ≤ clockNow s + setLead s.mpath.settings ∧ clockNow s < stopOf s.sch.prog k start then [k] else [] := by
  simp only [dueEntries, hq, List.filter_singleton, ← isDue_iff hn]
  cases isDue s k <;> rfl

/-- R128: an entry whose start lies beyond the pre-roll lead is not due. -/
theorem checkDue_later {s : State} {k : Fin 16} {start : Nat} (n : Nat) (hq : s.sch.queue = [k])
    (hn : (entry k s).next = some start) (hl : clockNow s + setLead s.mpath.settings < start) :
    checkDue n s = s := by
  cases n with
  | zero => rfl
  | succ n =>
    have hdue : dueEntries s = [] := by rw [dueEntries_single hq hn, if_neg fun h => absurd h.1 (not_le.2 hl)]
    simp [checkDue, hdue]

/-- R128: a check that finds the one entry that waits not due yet leaves SCH at rest. -/
theorem settle_checkLater {s : State} {k : Fin 16} {start : Nat} (n : Nat) (hn : s.notices = []) (hr : s.sch.run = none)
    (hq : s.sch.queue = [k]) (hnext : (entry k s).next = some start) (hs : clockNow s < stopOf s.sch.prog k start)
    (hl : clockNow s + setLead s.mpath.settings < start) : settle (n + 1) (notify .check s) = s := by
  rw [settle_takesCheck n hn, prerollCheck_single hr hn hq hnext hs, checkDue_later 17 hq hnext hl, settle_idle n hn hr]

/-! ### COMMIT -/

/-- R122: a COMMIT whose checks pass has a valid start time. -/
theorem startTime_of_commit {m : Memory} {k : Fin 16} {presets : Memory} {now : Nat}
    (h : commitFails m k presets now = none) : progStartH m k ≤ 23 ∧ progStartM m k ≤ 59 := by
  have hvalid : validHm (progStartH m k) (progStartM m k) = true := by
    cases hv : validHm (progStartH m k) (progStartM m k) with
    | true => rfl
    | false =>
      simp only [commitFails, hv, Bool.not_false, if_true] at h
      split_ifs at h
  simpa [validHm] using hvalid

/-- R126: an occurrence with a valid start time starts on its day. -/
theorem occStart_day {m : Memory} {k : Fin 16} (h : progStartH m k ≤ 23 ∧ progStartM m k ≤ 59) (day : Nat) :
    occStart m k day / 86400 = day := by
  unfold occStart
  omega

/-- R126: the stop of the next occurrence found is still to come. -/
theorem stop_of_nextOccurrence {m : Memory} {k : Fin 16} {lastRun : Option Nat} {now start : Nat}
    (ht : progStartH m k ≤ 23 ∧ progStartM m k ≤ 59) (h : nextOccurrence m k lastRun now = some start) :
    now < stopOf m k start := by
  obtain ⟨day, rfl, hstop, -⟩ := nextOccurrenceQualifies m k lastRun now start h
  rwa [stopOf, occStart_day ht]

section
variable {s : State} {k : Fin 16} (hk : s.rqu.arg0.toNat = k.val) (hc : claimed k s = true)
include hk hc

theorem requestCommit_taken (hf : commitFails s.sch.prog k s.tun.presets (clockNow s) = none) :
    requestCommit s = (takeCommit k s, answer .done) := by
  simp [requestCommit, entryOf_eq hk, hc, hf]

theorem requestCommit_failed {field : Nat} (hf : commitFails s.sch.prog k s.tun.presets (clockNow s) = some field) :
    requestCommit s = (s, ⟨.invalid, field⟩) := by
  simp [requestCommit, entryOf_eq hk, hc, hf]

end

/-- R123: the status of an entry that COMMIT leaves waiting for its occurrence. -/
@[reducible] def Entry.committed (start : Nat) : Entry := { Entry.start with state := .waiting, next := some start }

/-- R123: entry `k` waits for its occurrence, and the claim of it is over. -/
def commitEntry (k : Fin 16) (start : Nat) (s : State) : State :=
  setEntry k (.committed start) (s.setSch { s.sch with claim := none })

theorem commitEntry_frame (k : Fin 16) (start : Nat) (s : State) : SameBut [.sch] s (commitEntry k start s) :=
  (setSch_frame s _).with (setEntry_frame k _ _)

theorem commitEntry_entrySet (k : Fin 16) (start : Nat) (s : State) :
    EntrySet k (.committed start) s (commitEntry k start s) :=
  entrySet_of_entries rfl

/-- R123: a COMMIT that has a next occurrence. -/
theorem takeCommit_next {k : Fin 16} {s : State} {start : Nat}
    (hn : nextOccurrence s.sch.prog k none (clockNow s) = some start) :
    takeCommit k s = notify .check (writeStatus k (commitEntry k start s)) := by
  simp only [takeCommit, hn]
  rfl

/-- R123: the status of the entry is handed while there is room. -/
theorem writeStatus_commitEntry {k : Fin 16} {s : State} (hq : s.mpath.queue = []) (start : Nat) :
    writeStatus k (commitEntry k start s) = enqueue (statusGroup k (.committed start)) (commitEntry k start s) := by
  rw [writeStatus_room, (commitEntry_entrySet k start s).1]
  rw [commitEntry_frame k start s .mpath (by decide), hq]
  decide

/-- R127: the entry joins a timer queue in which none waits. -/
theorem commitEntry_queue {k : Fin 16} {s : State} (hn : NoneWaiting s) (start : Nat) :
    (commitEntry k start s).sch.queue = [k] := by
  obtain ⟨hk, hj⟩ := commitEntry_entrySet k start s
  refine (setEntry_sorted k _ _).queue_single (congrArg Entry.state hk) fun j hne => ?_
  exact (congrArg Entry.state (hj j hne)).trans_ne (hn j)

end Sys2Proof.Machine

open Sys2Proof Sys2Proof.Machine

/-- Settles O50: the entry joins the timer queue alone, and the check that COMMIT asks for finds it not due yet. -/
theorem commitEntersTheQueue : Obligations.CommitEntersTheQueue := by
  intro s k n hh hi hnone hk hc
  have hclaimed : claimed k (atRequest 0x42 s) = true := (claimed_iff k _).2 ⟨n, hc⟩
  refine ⟨fun start hpass hnext hlead => ?_, fun field hfail => ?_⟩
  · have hq : (atRequest 0x42 s).mpath.queue = [] := hh.drained.queue
    have hset : EntrySet k (.committed start) s (commitEntry k start (atRequest 0x42 s)) := commitEntry_entrySet k start _
    have hqueue : (commitEntry k start (atRequest 0x42 s)).sch.queue = [k] :=
      commitEntry_queue (s := atRequest 0x42 s) hnone start
    have ha : ownerActs 0x42 (atRequest 0x42 s) = some (notify .check (enqueue (statusGroup k (.committed start))
        (commitEntry k start (atRequest 0x42 s))), answer .done) := by
      rw [← writeStatus_commitEntry hq, ← takeCommit_next (s := atRequest 0x42 s) hnext]
      exact congrArg some (requestCommit_taken (s := atRequest 0x42 s) hk hclaimed hpass)
    have hsettle := settle_checkLater 127
      (s := enqueue (statusGroup k (.committed start)) (commitEntry k start (atRequest 0x42 s)))
      hi.notices hi.run hqueue (congrArg Entry.next hset.1) (stop_of_nextOccurrence (startTime_of_commit hpass) hnext) hlead
    obtain ⟨t, hx, hsch, hans, hframe⟩ := (((Handing.start [.sch] _).work (commitEntry_frame k start _)).hand _).answers ha
      hsettle hi.notices (startReady_of_run hi.run) hh hi.untold (qs := [.sch, .mem, .mpath, .rqu])
    have hsame := entry_congr (congrArg Sch.entries hsch)
    refine ⟨t, hx, ?_, ?_, ?_, ⟨(hsame k).trans hset.1, fun j hj => (hsame j).trans (hset.2 j hj)⟩, ?_, hans, hframe⟩ <;>
      rw [hsch]
    exacts [rfl, hqueue, hi.run, rfl]
  · exact answers_only (congrArg some (requestCommit_failed (s := atRequest 0x42 s) hk hclaimed hfail)) hh hi.untold
      hi.notReady

end

section
/-! LEMMA. Label timeouts (R137, R138): the run falls back to CLOCK mode. -/

namespace Sys2Proof.Machine

/-! ### Runs -/

@[simp] theorem entry_setRun (k : Fin 16) (c : Run) (s : State) : entry k (setRun c s) = entry k s := rfl

theorem setRun_self {s : State} {c : Run} (h : s.sch.run = some c) : setRun c s = s := by
  simp only [setRun, ← h]
  rfl

/-- R128: with nothing in the timer queue, the check is that of the run. -/
theorem prerollCheck_tests {s v : State} (htests : runTests s = v) (hn : v.notices = []) (hq : v.sch.queue = []) :
    prerollCheck s = v := by
  have hdue : checkDue 17 v = v := by simp [checkDue, dueEntries, hq]
  simp [prerollCheck, htests, hn, hq, endPassedAll, hdue]

/-- R134: a run in CLOCK mode is tested against the clock. -/
theorem runTests_clock {s : State} {c : Run} (hrun : s.sch.run = some c) (hl : c.label = false) :
    runTests s = clockTests c s := by
  simp only [runTests, hrun]
  exact if_neg (by simp [hl])

/-- R134: a run in CLOCK mode whose start due is true, or that has started, goes on until its stop. -/
theorem runTests_goesOn {s : State} {c : Run} (hrun : s.sch.run = some c) (hl : c.label = false)
    (hs : clockNow s < c.stop) (hd : (entry c.entry s).state = .preroll → c.startDue = true) : runTests s = s := by
  rw [runTests_clock hrun hl]
  unfold clockTests
  dsimp only
  simp only [if_neg (not_le.2 hs)]
  split
  · rename_i hp
    have hself : setRun { c with startDue := true } s = s := setRun_self (by rw [hrun, ← hd hp])
    rw [hself, ite_self]
  · rfl
  · rfl

/-! ### The end of an event that posts nothing -/

section
variable {ps qs : List Part} {groups : List WriteGroup} {s v : State}

/-- What an event leaves that handed status groups and posted nothing, with the lines standing: RQU stays. -/
theorem Handing.ended_unposted (h : Handing ps [] groups s v) (hu : NothingUntold s) (hq : s.mpath.queue = [])
    (hl : LinesStand s) (hps : .pwr ∉ ps := by decide)
    (hqs : ∀ p ∈ .mpath :: ps, p ≠ .untold → p ∈ qs := by decide) :
    Handed groups s (Machine.ended (hostRuns s) v) ∧ SameBut qs s (Machine.ended (hostRuns s) v) := by
  obtain ⟨happ, hhand, hframe⟩ := h.ended hu hq (qs := .rqu :: qs) fun p hp hne => by
    rcases List.mem_cons.1 hp with rfl | hp
    · exact List.mem_cons_self
    · exact List.mem_cons_of_mem _ (hqs p hp hne)
  refine ⟨hhand, fun p hp => ?_⟩
  by_cases hpr : p = .rqu
  · subst hpr
    have hpwr : v.pwr = s.pwr := h.frame .pwr (by simpa using hps)
    have hirq : irqLevel (Machine.ended (hostRuns s) v) = s.rqu.irq := by
      rw [hl.irq, irqLevel_ended]
      simp [irqLevel, hostRuns, hpwr, h.rqu, h.mpath]
    show (Machine.ended (hostRuns s) v).rqu = s.rqu
    rw [happ, hirq]
    rfl
  · exact hframe p fun hm => (List.mem_cons.1 hm).elim hpr hp

end

/-! ### The fall back -/

/-- R137, R138: the run of `c` is in CLOCK mode, and its entry flagged LABEL_FALLBACK. -/
def fellBack (c : Run) (s : State) : State :=
  setEntry c.entry { entry c.entry s with fallback := true }
    (setRun { c with label := false, fallback := true, watch := false } s)

section
variable {s : State} {c : Run}

theorem fellBack_frame (c : Run) (s : State) : SameBut [.sch] s (fellBack c s) :=
  (setRun_frame _ s).with (setEntry_frame _ _ _)

theorem fellBack_entrySet (c : Run) (s : State) :
    EntrySet c.entry { entry c.entry s with fallback := true } s (fellBack c s) := entrySet_of_entries rfl

/-- R127: an entry that falls back does not wait before or after. -/
theorem fellBack_queue (hn : NoneWaiting s) : (fellBack c s).sch.queue = [] :=
  (setEntry_sorted c.entry _ _).queue_nil ((fellBack_entrySet c s).noneWaiting (fun j _ => hn j) (hn c.entry))

/-- R137, R138: an entry that is flagged anew has its status handed. -/
theorem fallBack_flags (hq : s.mpath.queue = []) (hf : (entry c.entry s).fallback = false) : fallBack c s =
    enqueue (statusGroup c.entry { entry c.entry s with fallback := true }) (fellBack c s) := by
  have hroom : (fellBack c s).mpath.queue.length < 4 := by
    rw [fellBack_frame c s .mpath (by decide), hq]
    decide
  have hset := writeStatus_room (k := c.entry) hroom
  rw [(fellBack_entrySet c s).1] at hset
  unfold fallBack
  dsimp only
  rw [if_neg (by rw [entry_setRun, hf]; decide)]
  exact hset

/-- R137, R138: the run has fallen back, and the status of its entry is handed. -/
def fellHanded (c : Run) (s : State) : State :=
  enqueue (statusGroup c.entry { entry c.entry s with fallback := true }) (fellBack c s)

/-- R137: the same, and start due is true. -/
def fellDue (c : Run) (s : State) : State :=
  setRun { c with label := false, fallback := true, watch := false, startDue := true } (fellHanded c s)

/-- R137: the absence of labels ends before the stop: start due becomes true. -/
theorem absenceEnd_before (hq : s.mpath.queue = []) (hf : (entry c.entry s).fallback = false) (hs : clockNow s < c.stop) :
    absenceEnd c s = fellDue c s := by
  unfold absenceEnd
  rw [fallBack_flags hq hf]
  exact if_pos hs

/-- R138: an ACTIVE entry goes on after the loss of labels. -/
theorem lossEnd_active (hq : s.mpath.queue = []) (hf : (entry c.entry s).fallback = false) (hs : clockNow s < c.stop)
    (ha : (entry c.entry s).state = .active) : lossEnd c s = fellHanded c s := by
  unfold lossEnd
  rw [fallBack_flags hq hf, ha]
  exact if_pos hs

/-- R137, R138: the status group of the entry is all that the fall back hands. -/
theorem fellHanded_handing (c : Run) (s : State) :
    Handing [.sch] [] [statusGroup c.entry { entry c.entry s with fallback := true }] s (fellHanded c s) :=
  ((Handing.start [.sch] s).work (fellBack_frame c s)).hand _

theorem fellDue_handing (c : Run) (s : State) :
    Handing [.sch] [] [statusGroup c.entry { entry c.entry s with fallback := true }] s (fellDue c s) :=
  (fellHanded_handing c s).work (setRun_frame _ _)

end

/-! ### The rows, and the seconds -/

section
variable {s : State} {c : Run} (hrun : s.sch.run = some c) (hl : c.label = true) (hw : c.watch = true)
include hrun hl hw

theorem exec_absenceTimeout (hs : c.seen = false) (ha : 90 ≤ c.absence) :
    exec .absenceTimeout s = command (fun _ => absenceEnd c s) s := by
  have hlimit : Config.absenceLimit ≤ c.absence := ha
  exact command_of (by simp [hrun, hl, hw, hs, hlimit])

theorem exec_labelLossTimeout (hs : c.seen = true) (ha : 60 ≤ c.loss) :
    exec .labelLossTimeout s = command (fun _ => lossEnd c s) s := by
  have hlimit : Config.lossLimit ≤ c.loss := ha
  exact command_of (by simp [hrun, hl, hw, hs, hlimit])

theorem labelTick_absence (hs : c.seen = false) (ha : c.absence = 89) :
    labelTick s = absenceEnd { c with absence := 90 } (setRun { c with absence := 90 } s) := by
  have hlimit : Config.absenceLimit ≤ 90 := le_rfl
  simp [labelTick, hrun, hl, hw, hs, hlimit, ha]

theorem labelTick_loss (hs : c.seen = true) (ha : c.loss = 59) :
    labelTick s = lossEnd { c with loss := 60 } (setRun { c with loss := 60 } s) := by
  have hlimit : Config.lossLimit ≤ 60 := le_rfl
  simp [labelTick, hrun, hl, hw, hs, hlimit, ha]

end

/-- R137, R138: a second whose label timer made the run fall back to `v`: the check that follows lets the run go on. -/
theorem second_fellBack {s v : State} {c : Run} {groups : List WriteGroup} (hu : NothingUntold s) (hp : PowerSteady s)
    (hd : Drained s) (hl : LinesStand s) (hclaim : s.sch.claim = none) (htick : labelTick (atSecond s) = v)
    (hv : Handing [.sch] [] groups (atSecond s) v) (hrun : v.sch.run = some c) (hlab : c.label = false)
    (hs : clockNow (atSecond s) < c.stop) (hdue : (entry c.entry v).state = .preroll → c.startDue = true)
    (hr : startReady v = false) (hq : v.sch.queue = []) :
    exec .secondAdvance s = .next (ended (hostRuns s) v) ∧ Handed groups s (ended (hostRuns s) v)
      ∧ SameBut [.clk, .sch, .mpath] s (ended (hostRuns s) v) := by
  have hn : v.notices = [] := (hv.frame .untold (by decide)).1.trans hu.1
  have hset : settle 127 (prerollCheck v) = v := by
    have hnow : clockNow v = clockNow (atSecond s) := congrArg (fun x : Clk => x.time.secs) (hv.frame .clk (by decide))
    rw [prerollCheck_tests (runTests_goesOn hrun hlab (by rwa [hnow]) hdue) hn hq]
    exact settle_rest 127 hn hr
  obtain ⟨hhand, hframe⟩ := hv.ended_unposted hu hd.queue (hl.of_same rfl rfl rfl) (qs := [.sch, .mpath])
  exact ⟨hp.second_settles (claimTick_of_none (s := atSecond s) hclaim) htick hn hset (hv.frame .pwr (by decide)), hhand,
    ((atSecond_frame s).trans hframe).mono (by simp)⟩

end Sys2Proof.Machine

open Sys2Proof Sys2Proof.Machine

/-- Settles O55: the run falls back, and what then remains of the event, the check of a second among it, leaves it at rest
before its stop. -/
theorem labelTimeoutsFallBack : Obligations.LabelTimeoutsFallBack := by
  intro s c hu hp hd hl hrun hlab hw hready hstop hf
  refine ⟨fun hpre hseen ha => ?_, fun hact hseen ha => ?_, fun hq hclaim hstop' hwf hlim hnone =>
    ⟨fun hpre hseen ha => ?_, fun hact hseen ha => ?_⟩⟩
  · have hset : settle Config.chainFuel (absenceEnd c s) = fellDue c s := by
      rw [absenceEnd_before hd.queue hf hstop]
      exact settle_rest _ hu.1 (startReady_of_not_ready rfl hready)
    obtain ⟨hhand, hframe⟩ := (fellDue_handing c s).ended_unposted hu hd.queue hl (qs := [.sch, .mpath])
    exact ⟨_, (exec_absenceTimeout hrun hlab hw hseen ha).trans (hp.command_settles (f := fun _ => absenceEnd c s) hset rfl),
      rfl, entrySet_of_entries rfl, hhand, hframe⟩
  · have hset : settle Config.chainFuel (lossEnd c s) = fellHanded c s := by
      rw [lossEnd_active hd.queue hf hstop hact]
      exact settle_rest _ hu.1 (startReady_of_not_ready rfl hready)
    obtain ⟨hhand, hframe⟩ := (fellHanded_handing c s).ended_unposted hu hd.queue hl (qs := [.sch, .mpath])
    exact ⟨_, (exec_labelLossTimeout hrun hlab hw hseen ha).trans (hp.command_settles (f := fun _ => lossEnd c s) hset rfl),
      rfl, entrySet_of_entries rfl, hhand, hframe⟩
  · have hlate : clockNow (atSecond s) < c.stop := by rwa [clockNow_atSecond hwf hlim]
    have htick := (labelTick_absence (s := atSecond s) hrun hlab hw hseen ha).trans
      (absenceEnd_before (c := { c with absence := 90 }) (by exact hd.queue) hf hlate)
    have hqueue : (fellDue { c with absence := 90 } (atSecond s)).sch.queue = [] := fellBack_queue (s := atSecond s) hnone
    obtain ⟨hx, hhand, hframe⟩ := second_fellBack hu hp hd hl hclaim htick (fellDue_handing _ _) rfl rfl hlate
      (fun _ => rfl) (startReady_of_not_ready rfl hready) hqueue
    exact ⟨_, hx, rfl, entrySet_of_entries rfl, hqueue, hhand, hframe⟩
  · have hlate : clockNow (atSecond s) < c.stop := by rwa [clockNow_atSecond hwf hlim]
    have htick := (labelTick_loss (s := atSecond s) hrun hlab hw hseen ha).trans
      (lossEnd_active (c := { c with loss := 60 }) (by exact hd.queue) hf hlate hact)
    have hqueue : (fellHanded { c with loss := 60 } (atSecond s)).sch.queue = [] := fellBack_queue (s := atSecond s) hnone
    have hstate : (entry c.entry (fellHanded { c with loss := 60 } (atSecond s))).state = .active :=
      (congrArg Entry.state (fellBack_entrySet { c with loss := 60 } (atSecond s)).1).trans hact
    obtain ⟨hx, hhand, hframe⟩ := second_fellBack hu hp hd hl hclaim htick (fellHanded_handing _ _) rfl rfl hlate
      (fun hpre => absurd (hpre.symm.trans hstate) (by decide)) (startReady_of_not_ready rfl hready) hqueue
    exact ⟨_, hx, rfl, entrySet_of_entries rfl, hqueue, hhand, hframe⟩

end

section
/-! SUPPORT. The end of an occurrence (R146, steps 1 to 3, R148), and the check of the one entry that comes due (R128, R129). -/

namespace Sys2Proof.Machine

/-! ### The log, and the end of an occurrence -/

/-- R148: the log record as it is handed. -/
def logGroup (k : Fin 16) (f : LogFacts) (s : State) : WriteGroup :=
  mkGroup (offLog + 32 * s.sch.logSlot) (logBytes s.sch.prog k s.sch.logSeq f)

/-- R148: the log writer moves on. -/
@[reducible] def Sch.logMoved (x : Sch) : Sch :=
  { x with logSlot := (x.logSlot + 1) % 16, logSeq := (x.logSeq + 1) % 65536 }

/-- R148: a log record made while the posted-write queue has room. -/
theorem makeLog_room {k : Fin 16} {f : LogFacts} {s : State} (hq : s.mpath.queue.length < 4) :
    makeLog k f s = post (evLogged s.sch.logSlot s.sch.logSeq k)
      (enqueue (logGroup k f s) (s.setSch s.sch.logMoved)) := by
  have hroom : queueHasRoom (s.setSch s.sch.logMoved) = true := decide_eq_true hq
  exact if_pos hroom

/-- R146: the status that an end gives its entry. -/
@[reducible] def Entry.concluded (e : Entry) (o : EndOutcome) : Entry := { e with outcome := o }

/-- R119: the event of an entry whose status was replaced names its new state. -/
theorem postProgramme_setEntry (k : Fin 16) (e : Entry) (o : EndOutcome) (r : Reason) (s : State) :
    postProgramme k o r (setEntry k e s) = post (evProgramme k e.state o r) (setEntry k e s) := by
  rw [postProgramme, entry_setEntry_same]

section
variable {ps : List Part} {n : Nat} {s u : State}

/-- R148: a log record is handed, and LOGGED posted. -/
theorem Handing.logs {evs : List Event} {groups : List WriteGroup} (h : Handing ps evs groups s u) (k : Fin 16)
    (f : LogFacts) (hr : EventRoom n s) (hq : s.mpath.queue = []) (hck : u.clk.time = s.clk.time) (hps : .sch ∈ ps)
    (hlen : evs.length < n ∧ groups.length < 3) :
    Handing ps (evs ++ [evLogged u.sch.logSlot u.sch.logSeq k])
        (groups ++ [logGroup k f u] ++ [eventGroupAt s evs.length (evLogged u.sch.logSlot u.sch.logSeq k)]) s
        (makeLog k f u)
      ∧ (makeLog k f u).sch = u.sch.logMoved ∧ SameBut [.sch, .rqu, .mpath] u (makeLog k f u) := by
  obtain ⟨hev, hgr⟩ := hlen
  have hroom : u.mpath.queue.length < 4 := by
    rw [h.mpath, hq]
    exact hgr.trans (by decide)
  have hsch : ∀ p ∈ [Part.sch], p ∈ ps := fun p hp => List.mem_singleton.1 hp ▸ hps
  have hlogged := ((h.work (setSch_frame u u.sch.logMoved) hsch).hand (logGroup k f u)).postsAt
    (evLogged u.sch.logSlot u.sch.logSeq k) hr hq hck ⟨hev, by
      rw [List.length_append]
      exact Nat.succ_lt_succ hgr⟩
  rw [makeLog_room hroom]
  refine ⟨hlogged, post_sch _ _, ?_⟩
  exact (((setSch_frame u _).mono (by simp)).with ((enqueue_frame _ _).mono (by simp))).with ((post_frame _ _).mono (by simp))

/-- R146, R148: an end posts PROGRAMME, hands the log record, posts LOGGED and hands the status, in that order. -/
theorem Handing.concludes (h : Handing ps [] [] s u) (k : Fin 16) (e : Entry) (f : LogFacts) (hr : EventRoom n s)
    (hq : s.mpath.queue = []) (hck : u.clk.time = s.clk.time) (hn : 2 ≤ n := by decide) (hps : .sch ∈ ps := by decide) :
    Handing ps [evProgramme k e.state f.outcome f.reason, evLogged u.sch.logSlot u.sch.logSeq k]
        [eventGroupAt s 0 (evProgramme k e.state f.outcome f.reason), logGroup k f u,
         eventGroupAt s 1 (evLogged u.sch.logSlot u.sch.logSeq k), statusGroup k (e.concluded f.outcome)] s
        (conclude k e f u)
      ∧ (conclude k e f u).sch = (setEntry k (e.concluded f.outcome) u).sch.logMoved
      ∧ SameBut [.sch, .rqu, .mpath] u (conclude k e f u) := by
  have hsch : ∀ p ∈ [Part.sch], p ∈ ps := fun p hp => List.mem_singleton.1 hp ▸ hps
  have hprog := (h.work (setEntry_frame k (e.concluded f.outcome) u) hsch).postsAt
    (evProgramme k e.state f.outcome f.reason) hr hq hck ⟨Nat.zero_lt_of_lt hn, by simp⟩
  have hpsch := post_sch (setEntry k (e.concluded f.outcome) u) (evProgramme k e.state f.outcome f.reason)
  have hpframe : SameBut [.sch, .rqu, .mpath] u (Machine.post (evProgramme k e.state f.outcome f.reason)
      (setEntry k (e.concluded f.outcome) u)) :=
    ((setEntry_frame k (e.concluded f.outcome) u).mono (by simp)).with ((post_frame _ _).mono (by simp))
  have hconclude : conclude k e f u = writeStatus k (makeLog k f (Machine.post (evProgramme k e.state f.outcome f.reason)
      (setEntry k (e.concluded f.outcome) u))) :=
    congrArg (fun p => writeStatus k (makeLog k f p)) (postProgramme_setEntry k (e.concluded f.outcome) f.outcome f.reason u)
  rw [hconclude]
  generalize Machine.post (evProgramme k e.state f.outcome f.reason) (setEntry k (e.concluded f.outcome) u) = p at *
  obtain ⟨hlog, hlsch, hlframe⟩ := hprog.logs k f hr hq (congrArg Clk.time (hpframe .clk (by decide)) |>.trans hck) hps
    ⟨hn, by simp⟩
  have hroom : (makeLog k f p).mpath.queue.length < 4 := by
    rw [hlog.mpath, hq]
    simp
  have hstatus := hlog.status k hq
  have hsame : (makeLog k f p).sch = (setEntry k (e.concluded f.outcome) u).sch.logMoved := by rw [hlsch, hpsch]
  have hentry : entry k (makeLog k f p) = e.concluded f.outcome :=
    (entry_congr (s := setEntry k (e.concluded f.outcome) u) (by rw [hsame]) k).trans (entry_setEntry_same k _ u)
  have hgroup : logGroup k f p = logGroup k f u := by simp only [logGroup, hpsch]; rfl
  have hframe := (hpframe.with hlframe).with ((enqueue_frame (statusGroup k (entry k (makeLog k f p))) _).mono (by simp))
  rw [writeStatus_room hroom] at hstatus ⊢
  rw [hpsch, hgroup] at hstatus
  rw [hentry] at hstatus hframe ⊢
  exact ⟨hstatus, hsame, hframe⟩

end

/-- R146: the status of an entry that is over. -/
@[reducible] def Entry.over (e : Entry) : Entry := { e with state := .ended, next := none, wait := .none }

/-- R146: a once entry moves on to ENDED (log entry 68). -/
theorem movedOn_once {m : Memory} {k : Fin 16} (h : progMask m k = 0) (now : Nat) (e : Entry) :
    movedOn m k now e = e.over :=
  if_pos ((isOnce_iff m k).2 h)

/-- R146: the end MISSED of a once entry's occurrence. -/
theorem missNext_once {s : State} {k : Fin 16} {start : Nat} (hn : (entry k s).next = some start)
    (hm : progMask s.sch.prog k = 0) (reason : Reason) :
    missNext k reason s = conclude k (entry k s).over (waitingFacts k (start / 86400) reason s) s := by
  rw [missNext, missDay, movedOn_once hm, hn]
  rfl

/-! ### The check of the entry that comes due -/

section
variable {s : State} {k : Fin 16} {start : Nat} (h : ComesDue k start s)
include h

theorem ComesDue.powered : s.pwr.power ≠ .backup := by
  rcases h.power with hp | ⟨hp, -⟩ <;> rw [hp] <;> decide

theorem ComesDue.rests {v : State} (hv : v.pwr = s.pwr) : PowerRests v := by
  intro hon
  rw [hv] at hon ⊢
  rcases h.power with hp | ⟨-, hp⟩
  · exact absurd (hp.symm.trans hon) (by decide)
  · rw [hp]
    decide

theorem ComesDue.now : clockNow (atSecond s) = clockNow s + 1 := clockNow_atSecond h.time h.limit

/-- R129: the transport at rest under PANEL is not busy. -/
theorem ComesDue.free : transportBusy (atSecond s) = false := by
  have hst : (atSecond s).trc.st = .unthreaded := h.state
  simp [transportBusy, hst]

theorem ComesDue.due : dueEntries (atSecond s) = [k] := by
  rw [dueEntries_single (s := atSecond s) h.queue h.next, h.now]
  exact if_pos ⟨h.lead, h.stop⟩

/-- R128: the second in which entry `k` comes due is the check of the due entries, from which SCH comes to rest in `v`. -/
theorem ComesDue.settles {v : State} (hset : settle 127 (checkDue 17 (atSecond s)) = v) (hv : PowerRests v) :
    exec .secondAdvance s = .next (ended (hostRuns s) v) := by
  have hs : clockNow (atSecond s) < stopOf (atSecond s).sch.prog k start := by
    rw [h.now]
    exact h.stop
  refine second_settles (claimTick_of_none (s := atSecond s) h.claim) (labelTick_of_none (s := atSecond s) h.run) h.untold.1
    ?_ h.powered hv
  rw [prerollCheck_single (s := atSecond s) h.run h.untold.1 h.queue h.next hs, hset]

/-- R128: entry `k` waits for the timer-on setting or the clock. -/
theorem ComesDue.waits {w : WaitReason} (hw : setTimerOn s.mpath.settings = false ∧ w = WaitReason.timerOff
    ∨ setTimerOn s.mpath.settings = true ∧ s.clk.valid = false ∧ w = .clock) (n : Nat) :
    checkDue (n + 1) (atSecond s) = setEntry k { entry k s with wait := w } (atSecond s) := by
  have hsettings : (atSecond s).mpath.settings = s.mpath.settings := rfl
  have hvalid : (atSecond s).clk.valid = s.clk.valid := s.clk.second_valid
  rcases hw with ⟨hoff, rfl⟩ | ⟨hon, hinvalid, rfl⟩
  · simp [checkDue, h.due, hsettings, hoff, setWait]
  · simp [checkDue, h.due, hsettings, hvalid, hon, hinvalid, setWait]

/-- R129: with the timer on and the clock valid, entry `k` is taken up. -/
theorem ComesDue.takenUp (ht : setTimerOn s.mpath.settings = true) (hv : s.clk.valid = true) (n : Nat) :
    checkDue (n + 1) (atSecond s) =
      let (t, again) := tryEntry k false (atSecond s)
      if again then checkDue n t else t := by
  have hsettings : (atSecond s).mpath.settings = s.mpath.settings := rfl
  have hvalid : (atSecond s).clk.valid = s.clk.valid := s.clk.second_valid
  have htaken : (atSecond s).taken = [] := h.untold.2
  simp [checkDue, h.due, hsettings, hvalid, ht, hv, h.run, h.free, htaken]

end

/-- R129: with no cassette, or with no tab, the occurrence of the entry taken up ends MISSED, and the check runs again. -/
theorem tryEntry_misses {s : State} {reason : Reason} (k : Fin 16)
    (hr : s.trc.cassette = false ∧ reason = .noCassette ∨ s.trc.cassette = true ∧ s.trc.tab = false ∧ reason = .protected_) :
    tryEntry k false s = (missNext k reason (takeUp k s), true) := by
  rcases hr with ⟨hc, rfl⟩ | ⟨hc, ht, rfl⟩
  · simp [tryEntry, hc]
  · simp [tryEntry, hc, ht]

/-- R129, R130: with a cassette and its tab the entry taken up pre-rolls. -/
theorem tryEntry_prerolls {s : State} {k : Fin 16} {start : Nat} (hn : (entry k s).next = some start)
    (hc : s.trc.cassette = true) (ht : s.trc.tab = true) :
    tryEntry k false s = (beginPreroll k start (takeUp k s), false) := by
  simp [tryEntry, hn, hc, ht]

/-- R128: with nothing in the timer queue the check of the due entries does nothing. -/
theorem checkDue_nil {s : State} (hq : s.sch.queue = []) (n : Nat) : checkDue n s = s := by
  cases n <;> simp [checkDue, dueEntries, hq]

end Sys2Proof.Machine
end

section
/-! LEMMA. The entry that comes due waits, or its occurrence ends MISSED (R128, R129, R146). -/

namespace Sys2Proof.Machine

theorem takeUp_frame (k : Fin 16) (s : State) : SameBut [.untold] s (takeUp k s) := by
  intro p hp; cases p <;> simp_all [Part.same, takeUp]

/-- The facts of an occurrence that ends before its pre-roll are those of the programme shadow and of the time. -/
theorem waitingFacts_congr {s t : State} (hp : t.sch.prog = s.sch.prog) (hc : t.clk.time = s.clk.time) (k : Fin 16)
    (day : Nat) (reason : Reason) : waitingFacts k day reason t = waitingFacts k day reason s := by
  simp only [waitingFacts, hp, hc]

section
variable {s : State} {k : Fin 16} {start : Nat} (h : ComesDue k start s)
include h

/-- R128: an entry that the timer-on setting or the clock holds up keeps waiting, with its wait reason. -/
theorem ComesDue.keepsWaiting {w : WaitReason} (hw : setTimerOn s.mpath.settings = false ∧ w = WaitReason.timerOff
    ∨ setTimerOn s.mpath.settings = true ∧ s.clk.valid = false ∧ w = .clock) :
    ∃ t, exec .secondAdvance s = .next t ∧ t.sch.run = none ∧ t.sch.queue = [k]
      ∧ EntrySet k { entry k s with wait := w } s t ∧ SameBut [.clk, .sch] s t := by
  have hset : settle 127 (checkDue 17 (atSecond s)) = setEntry k { entry k s with wait := w } (atSecond s) := by
    rw [h.waits hw 16]
    exact settle_idle 127 h.untold.1 h.run
  have hentry : EntrySet k { entry k s with wait := w } s (setEntry k { entry k s with wait := w } (atSecond s)) :=
    entrySet_of_entries rfl
  refine ⟨_, h.settles hset (h.rests rfl), h.run, ?_, hentry, ?_⟩
  · refine Sch.Sorted.queue_single (s := setEntry k _ (atSecond s)) (setEntry_sorted k _ _) ?_ fun j hj => ?_
    · rw [hentry.1]
      exact h.waiting
    · rw [hentry.2 j hj]
      exact h.alone j hj
  · exact ended_quiet (ps := [.clk, .sch]) (qs := [.clk, .sch])
      (((atSecond_frame s).mono (by simp)).with ((setEntry_frame k _ _).mono (by simp))) h.untold h.lines

/-- R146, R148: what the end MISSED of the entry taken up leaves. -/
theorem ComesDue.missed (reason : Reason) (hm : progMask s.sch.prog k = 0) {v : State}
    (hv : missNext k reason (takeUp k (atSecond s)) = v) :
    Handing [.untold, .sch] [evProgramme k .ended .missed reason, evLogged s.sch.logSlot s.sch.logSeq k]
        [eventGroupAt (atSecond s) 0 (evProgramme k .ended .missed reason),
         logGroup k (waitingFacts k (start / 86400) reason (atSecond s)) s,
         eventGroupAt (atSecond s) 1 (evLogged s.sch.logSlot s.sch.logSeq k),
         statusGroup k ((entry k s).over.concluded .missed)] (atSecond s) v
      ∧ v.sch = (setEntry k ((entry k s).over.concluded .missed) s).sch.logMoved
      ∧ v.notices = [] ∧ v.sch.queue = [] := by
  have hroom : EventRoom 2 (atSecond s) := ⟨h.room.overflow, h.room.count⟩
  have hq : (atSecond s).mpath.queue = [] := h.drained.queue
  have hnext : (entry k (takeUp k (atSecond s))).next = some start := h.next
  have hworked := (Handing.start [.untold, .sch] (atSecond s)).work (takeUp_frame k _)
  obtain ⟨hw, hsch, hframe⟩ := hworked.concludes k (entry k s).over
    (waitingFacts k (start / 86400) reason (takeUp k (atSecond s))) hroom hq rfl
  have hmiss := missNext_once hnext hm reason
  rw [hv] at hmiss
  have hsorted : v.sch.Sorted := hv ▸ missNext_sorted k reason _
  change v = conclude k (entry k s).over _ _ at hmiss
  rw [← hmiss] at hw hsch hframe
  have hentry : EntrySet k ((entry k s).over.concluded .missed) s v := entrySet_of_entries (by rw [hsch]; rfl)
  exact ⟨hw, hsch, (hframe .untold (by decide)).1.trans h.untold.1, hsorted.queue_nil (hentry.noneWaiting h.alone)⟩

/-- R129, R146: the occurrence of a once entry with no cassette, or with no tab, ends MISSED. -/
theorem ComesDue.endsMissed {reason : Reason} (ht : setTimerOn s.mpath.settings = true) (hv : s.clk.valid = true)
    (hm : progMask s.sch.prog k = 0)
    (hr : s.trc.cassette = false ∧ reason = .noCassette ∨ s.trc.cassette = true ∧ s.trc.tab = false ∧ reason = .protected_) :
    ∃ t, exec .secondAdvance s = .next t ∧ t.sch.run = none ∧ t.sch.queue = [] ∧ t.sch.claim = s.sch.claim
      ∧ EntrySet k { entry k s with state := .ended, next := none, wait := .none, outcome := .missed } s t
      ∧ t.sch.logSlot = (s.sch.logSlot + 1) % 16 ∧ t.sch.logSeq = (s.sch.logSeq + 1) % 65536
      ∧ Appended [evProgramme k .ended .missed reason, evLogged s.sch.logSlot s.sch.logSeq k] s t
      ∧ Handed [eventGroupAt (s.setClk t.clk) 0 (evProgramme k .ended .missed reason),
          mkGroup (0xC00 + 32 * s.sch.logSlot)
            (logBytes s.sch.prog k s.sch.logSeq (waitingFacts k (start / 86400) reason t)),
          eventGroupAt (s.setClk t.clk) 1 (evLogged s.sch.logSlot s.sch.logSeq k),
          statusGroup k (entry k t)] s t
      ∧ SameBut [.clk, .sch, .mpath, .rqu] s t := by
  generalize hend : missNext k reason (takeUp k (atSecond s)) = v
  obtain ⟨hw, hsch, hnotices, hqueue⟩ := h.missed reason hm hend
  have hrun : v.sch.run = none := by rw [hsch]; exact h.run
  have hset : settle 127 (checkDue 17 (atSecond s)) = v := by
    have hdue := h.takenUp ht hv 16
    rw [tryEntry_misses (s := atSecond s) k hr, hend] at hdue
    rw [hdue]
    exact (congrArg (settle 127) (checkDue_nil hqueue 16)).trans (settle_idle 127 hnotices hrun)
  obtain ⟨happ, hhand, hsame⟩ := hw.ended h.untold h.drained.queue (qs := [.sch, .mpath, .rqu])
  have hclk : (ended (hostRuns s) v).clk = (atSecond s).clk := hsame .clk (by decide)
  have hsch' : (ended (hostRuns s) v).sch = (setEntry k ((entry k s).over.concluded .missed) s).sch.logMoved := hsch
  have hentry : EntrySet k ((entry k s).over.concluded .missed) s (ended (hostRuns s) v) :=
    entrySet_of_entries (by rw [hsch'])
  have hnow : s.setClk (ended (hostRuns s) v).clk = atSecond s := by rw [hclk]; rfl
  have hfacts : waitingFacts k (start / 86400) reason (ended (hostRuns s) v)
      = waitingFacts k (start / 86400) reason (atSecond s) :=
    waitingFacts_congr (by rw [hsch']; rfl) (by rw [hclk]) _ _ _
  refine ⟨_, h.settles hset (h.rests (hw.frame .pwr (by decide))), hrun, hqueue, ?_, hentry, ?_, ?_, happ, ?_,
    ((atSecond_frame s).trans hsame).mono (by simp)⟩
  iterate 3
    · rw [hsch']
      rfl
  · rw [hnow, hfacts, hentry.1]
    exact hhand

end

end Sys2Proof.Machine
end

section
/-! LEMMA. The pre-roll of an entry of the line input (R130 to R132, R184). -/

namespace Sys2Proof.Machine

/-! ### What SCH takes and wakes -/

/-- R4: the transport as SCH takes it. -/
@[reducible] def Trc.taken (t : Trc) : Trc := { t with owner := .schedule, idle := none, pauseT := none }

/-- R70, R78: the tuner as SCH takes it, tuned to the line. -/
@[reducible] def Tun.lined (t : Tun) : Tun :=
  { t with
    owner := .schedule, st := .line, kind := .line, preset := none, net := 0, hold := false, quiet := false, scan := none }

/-- R184: PWR, woken by the timer in STANDBY. -/
def Pwr.timerWoken (p : Pwr) (now : Nat) : Pwr :=
  if p.power = .standby then
    { p with
      power := .on, phase := .rising, mainEn := true, railTimer := some now, cause := .timer, keySince := false
      wakeDue := some .timer }
  else p

/-- R130, R184: SCH has the transport and the tuner, the deck is awake and the tuner on the line. -/
def lineReady (s : State) : State :=
  ((s.setTrc s.trc.taken).setPwr (s.pwr.timerWoken s.now)).setTun s.tun.lined

theorem lineReady_frame (s : State) : SameBut [.trc, .pwr, .tun] s (lineReady s) := by
  intro p hp; cases p <;> simp_all [Part.same, lineReady]

theorem Pwr.timerWoken_awake {p : Pwr} {now : Nat} (hp : p.power = .standby ∨ p.power = .on ∧ p.phase = .running) :
    (p.timerWoken now).phase ≠ .stopping ∧ (p.timerWoken now).phase ≠ .resetHold := by
  rcases hp with hs | ⟨hon, hrun⟩
  · simp [timerWoken, hs]
  · simp [timerWoken, hon, hrun]

/-- R130, R184: SCH takes the transport and the tuner, wakes the deck and tunes to the line. -/
theorem lineReady_eq {s : State} (hp : s.pwr.power = .standby ∨ s.pwr.power = .on ∧ s.pwr.phase = .running)
    (hscan : s.tun.scan = none) (hst : s.tun.st ≠ .locked) (value : Nat) :
    takeTune .line value 0 (wake .timer (cancelOff (takeTuner (takeTransport s)))) = lineReady s := by
  have htaken : takeTuner (takeTransport s) = (s.setTrc s.trc.taken).setTun { s.tun with owner := .schedule } :=
    closeScan_none (s := (s.setTrc s.trc.taken).setTun { s.tun with owner := .schedule }) hscan _
  have hwoken : wake .timer (cancelOff (takeTuner (takeTransport s))) =
      ((s.setTrc s.trc.taken).setTun { s.tun with owner := .schedule }).setPwr (s.pwr.timerWoken s.now) := by
    rw [htaken]
    rcases hp with hstandby | ⟨hon, hrun⟩
    · simp [cancelOff, wake, Pwr.timerWoken, hstandby]
    · simp [cancelOff, wake, Pwr.timerWoken, hon, hrun]
      rfl
  rw [hwoken, takeTune_scanless (by exact hscan)]
  exact tunEnter_outside (by exact hst) (by decide)

/-! ### RECORD handed -/

/-- R131: the run context of a pre-roll with R unknown. -/
@[reducible] def lineRun (k : Fin 16) (start stop : Nat) (m : Speed) : Run :=
  { freshRun k start stop false with speed := some m, unknownTape := true }

/-- R131: the status of its entry. -/
@[reducible] def Entry.handed (e : Entry) (m : Speed) : Entry :=
  { e with
    state := .preroll, wait := .none, speed := some m, late := false, short := false, unknownTape := true
    fallback := false }

/-- R130: the status of an entry in PREROLL. -/
@[reducible] def Entry.prerolling (e : Entry) : Entry := { e with state := .preroll, wait := .none }

/-- R130: pre-roll has begun, before PROGRAMME is posted. -/
def begun (k : Fin 16) (start stop : Nat) (s : State) : State :=
  setEntry k (entry k s).prerolling (setRun (freshRun k start stop false) s)

/-- R131: the mode and the speed are fixed, before the status is handed. -/
def speedFixed (k : Fin 16) (start stop : Nat) (m : Speed) (s : State) : State :=
  setEntry k ((entry k s).handed m) (setRun (lineRun k start stop m) s)

/-- R132: SCH's RECORD of a pre-roll. -/
@[reducible] def lineTarget (m : Speed) : Target := ⟨.record m false true, schOrigin⟩

/-- R130, R131: RECORD is handed at the entry's speed, in CLOCK mode, with the tape unknown. -/
theorem handRecord_line {s : State} {k : Fin 16} {m : Speed} (start stop : Nat) (hr : s.pos.r = none)
    (hf : progFollow s.sch.prog k = false) (hm : speedOf (progSpeed s.sch.prog k) = some m)
    (he : (entry k s).state = .preroll ∧ (entry k s).wait = .none) :
    handRecord (freshRun k start stop false) s = schRecord m (writeStatus k (speedFixed k start stop m s)) := by
  have hstatus : (entry k s).handed m =
      { entry k s with speed := some m, late := false, short := false, unknownTape := true, fallback := false } := by
    rw [Entry.handed, ← he.1, ← he.2]
  simp [handRecord, freshRun, lineRun, speedFixed, tapeBudget, labelMode, hr, hf, hm, hstatus]

/-- R9, R132: the tape threads, with SCH's RECORD pending. -/
theorem schRecord_threads {s : State} (m : Speed) (hs : s.trc.st = .unthreaded) (ho : s.trc.owner = .schedule) :
    schRecord m s = notify (.transport .threading) (enterCore .threading false
      (s.setTrc { s.trc with pending := some (lineTarget m), attempt := 1, reverseRun := false })) := by
  simp [schRecord, takeRecord, hs, beginThread, reportState, ho]

/-- R134: a run in CLOCK mode in PREROLL goes on until its start. -/
theorem runTests_early {s : State} {c : Run} (hrun : s.sch.run = some c) (hl : c.label = false)
    (hp : (entry c.entry s).state = .preroll) (hstart : clockNow s < c.start) (hstop : clockNow s < c.stop) :
    runTests s = s := by
  rw [runTests_clock hrun hl, clockTests, hp]
  exact (if_neg (not_le.2 hstop)).trans (if_neg (not_le.2 hstart))

/-- R132: a report that the tape threads leaves SCH at rest. -/
theorem settle_threading {s : State} {c : Run} (n : Nat) (hn : s.notices = []) (hrun : s.sch.run = some c)
    (hr : c.ready = false) : settle (n + 1) (notify (.transport .threading) s) = s := by
  have htold : (notify (.transport .threading) s).notices = [.transport .threading] := by simp [notify, hn]
  have hback : (notify (.transport .threading) s).setNotices [] = s := State.setNotices_self hn
  have hnext : nextNotice [.transport .threading] = some (.transport .threading, []) := rfl
  have hsame : { c with ready := false } = c := by rw [← hr]
  have hreport : transportReport .threading s = s := by
    simp only [transportReport, hrun]
    rw [hsame, setRun_self hrun]
  rw [settle, htold, hnext]
  dsimp only [takeNotice]
  rw [hback, hreport]
  exact settle_rest n hn (startReady_of_not_ready hrun hr)

end Sys2Proof.Machine
end

section
/-! LEMMA. The pre-roll of the entry that comes due in a second (R128 to R132, R184). -/

namespace Sys2Proof.Machine

/-- R131: the entry's speed is fixed and its status handed. -/
def lineHanded (k : Fin 16) (start : Nat) (m : Speed) (s : State) : State :=
  enqueue (statusGroup k ((entry k s).handed m)) (speedFixed k start (stopOf s.sch.prog k start) m
    (lineReady (post (evProgramme k .preroll .none .none) (begun k start (stopOf s.sch.prog k start) s))))

/-- R130 to R132: the tape threads for the entry, before TRC's report of it. -/
def linePreroll (k : Fin 16) (start : Nat) (m : Speed) (s : State) : State :=
  enterCore .threading false ((lineHanded k start m s).setTrc
    { (lineHanded k start m s).trc with pending := some (lineTarget m), attempt := 1, reverseRun := false })

theorem lineReady_sch (s : State) : (lineReady s).sch = s.sch := rfl

theorem speedFixed_sch {s t : State} (h : t.sch = s.sch) (k : Fin 16) (start stop : Nat) (m : Speed) :
    (speedFixed k start stop m t).sch = (speedFixed k start stop m s).sch := by
  simp only [speedFixed, setEntry, setRun, entry, h, State.setSch]

theorem speedFixed_frame (k : Fin 16) (start stop : Nat) (m : Speed) (s : State) :
    SameBut [.sch] s (speedFixed k start stop m s) := (setRun_frame _ s).with (setEntry_frame k _ _)

theorem begun_frame (k : Fin 16) (start stop : Nat) (s : State) : SameBut [.sch] s (begun k start stop s) :=
  (setRun_frame _ s).with (setEntry_frame k _ _)

section
variable (k : Fin 16) (start stop : Nat) (m : Speed) (s : State)

/-- R117: the entry of a pre-roll. -/
theorem speedFixed_entrySet : EntrySet k ((entry k s).handed m) s (speedFixed k start stop m (begun k start stop s)) := by
  have hbegun : EntrySet k (entry k s).prerolling s (begun k start stop s) := entrySet_of_entries rfl
  have hfixed : EntrySet k ((entry k (begun k start stop s)).handed m) (begun k start stop s)
      (speedFixed k start stop m (begun k start stop s)) := entrySet_of_entries rfl
  rw [hbegun.1] at hfixed
  exact ⟨hfixed.1, fun j hj => (hfixed.2 j hj).trans (hbegun.2 j hj)⟩

theorem lineHanded_sch : (lineHanded k start m s).sch =
    (speedFixed k start (stopOf s.sch.prog k start) m (begun k start (stopOf s.sch.prog k start) s)).sch := by
  rw [lineHanded, enqueue_sch]
  exact speedFixed_sch ((lineReady_sch _).trans (post_sch _ _)) k start _ m

/-- R117, R131: the run and the entry of a pre-roll. -/
theorem linePreroll_sch : (linePreroll k start m s).sch =
    (speedFixed k start (stopOf s.sch.prog k start) m (begun k start (stopOf s.sch.prog k start) s)).sch := by
  rw [linePreroll, enterCore_sch, State.setTrc_sch, lineHanded_sch]

theorem lineHanded_trc : (lineHanded k start m s).trc = s.trc.taken :=
  congrArg Trc.taken (post_trc (evProgramme k .preroll .none .none) (begun k start (stopOf s.sch.prog k start) s))

/-- R4, R9: SCH's transport threads, with its RECORD pending. -/
theorem linePreroll_trc : (linePreroll k start m s).trc.owner = .schedule ∧ (linePreroll k start m s).trc.st = .threading
    ∧ (linePreroll k start m s).trc.pending = some (lineTarget m) ∧ (linePreroll k start m s).trc.loadMotor = .forward := by
  simp [linePreroll, lineHanded_trc]

theorem linePreroll_tun : (linePreroll k start m s).tun = s.tun.lined := by
  have hpost : (post (evProgramme k .preroll .none .none) (begun k start (stopOf s.sch.prog k start) s)).tun = s.tun :=
    post_frame _ _ .tun (by decide)
  exact (enterCore_frame _ _ _ .tun (by decide)).trans (congrArg Tun.lined hpost)

theorem linePreroll_pwr : (linePreroll k start m s).pwr = s.pwr.timerWoken s.now := by
  have hpwr : (post (evProgramme k .preroll .none .none) (begun k start (stopOf s.sch.prog k start) s)).pwr = s.pwr :=
    post_frame _ _ .pwr (by decide)
  have hnow : (post (evProgramme k .preroll .none .none) (begun k start (stopOf s.sch.prog k start) s)).now = s.now :=
    post_frame _ _ .now (by decide)
  exact (enterCore_frame _ _ _ .pwr (by decide)).trans (congrArg₂ Pwr.timerWoken hpwr hnow)

theorem lineHanded_frame : SameBut [.sch, .trc, .pwr, .tun, .rqu, .mpath] s (lineHanded k start m s) := by
  have hposted := ((begun_frame k start (stopOf s.sch.prog k start) s).mono (qs := [.sch, .trc, .pwr, .tun, .rqu, .mpath])
    (by simp)).with ((post_frame (evProgramme k .preroll .none .none) _).mono (by simp))
  have hready := hposted.with ((lineReady_frame _).mono (by simp))
  have hfixed := hready.with ((speedFixed_frame k start (stopOf s.sch.prog k start) m _).mono (by simp))
  exact hfixed.with ((enqueue_frame (statusGroup k ((entry k s).handed m)) _).mono (by simp))

theorem linePreroll_counter : (linePreroll k start m s).pos.counter = s.pos.counter := by
  have hpos : (lineHanded k start m s).pos = s.pos := lineHanded_frame k start m s .pos (by decide)
  rw [linePreroll, enterCore_counter, State.setTrc_pos, hpos]

end

section
variable {k : Fin 16} {start : Nat} {m : Speed} {s : State}

theorem linePreroll_state : (entry k (linePreroll k start m s)).state = .preroll := by
  have hentry := (speedFixed_entrySet k start (stopOf s.sch.prog k start) m s).1
  rw [entry_congr (congrArg Sch.entries (linePreroll_sch k start m s)), hentry]

theorem linePreroll_run :
    (linePreroll k start m s).sch.run = some (lineRun k start (stopOf s.sch.prog k start) m) :=
  congrArg Sch.run (linePreroll_sch k start m s)

/-- R130, R131: what a pre-roll of the line input posts and hands. -/
theorem linePreroll_handing {n : Nat} (hr : EventRoom (n + 1) s) (hq : s.mpath.queue = []) :
    Handing [.sch, .trc, .srv, .pos, .tun, .pwr] [evProgramme k .preroll .none .none]
      (eventGroups s [evProgramme k .preroll .none .none] ++ [statusGroup k ((entry k s).handed m)]) s
      (linePreroll k start m s) := by
  have hposted := ((Handing.start [.sch, .trc, .srv, .pos, .tun, .pwr] s).work
    (begun_frame k start (stopOf s.sch.prog k start) s)).postsAt (evProgramme k .preroll .none .none) hr hq rfl
  have hfixed := (hposted.work (lineReady_frame _)).work
    (speedFixed_frame k start (stopOf s.sch.prog k start) m _)
  exact ((hfixed.hand (statusGroup k ((entry k s).handed m))).work (setTrc_frame _ _)).work (enterCore_frame _ _ _)

/-- R131: with PROGRAMME posted and the line ready, the status is handed at once. -/
theorem writeStatus_lineHanded {n : Nat} (hr : EventRoom (n + 1) s) (hq : s.mpath.queue = []) :
    writeStatus k (speedFixed k start (stopOf s.sch.prog k start) m
      (lineReady (post (evProgramme k .preroll .none .none) (begun k start (stopOf s.sch.prog k start) s))))
      = lineHanded k start m s := by
  have hposted := ((Handing.start [.sch, .trc, .tun, .pwr] s).work
    (begun_frame k start (stopOf s.sch.prog k start) s)).postsAt (evProgramme k .preroll .none .none) hr hq rfl
  have hfixed := (hposted.work (lineReady_frame _)).work (speedFixed_frame k start (stopOf s.sch.prog k start) m _)
  have hentry := (speedFixed_entrySet k start (stopOf s.sch.prog k start) m s).1
  have hsch := speedFixed_sch ((lineReady_sch _).trans (post_sch (begun k start (stopOf s.sch.prog k start) s)
    (evProgramme k .preroll .none .none))) k start (stopOf s.sch.prog k start) m
  rw [writeStatus_room (by rw [hfixed.mpath, hq]; simp), entry_congr (congrArg Sch.entries hsch), hentry]
  rfl

/-- R130 to R132: the pre-roll of an entry of the line input, its tape unknown, begins. -/
theorem beginPreroll_line {n : Nat} (hr : EventRoom (n + 1) s) (hq : s.mpath.queue = [])
    (hp : s.pwr.power = .standby ∨ s.pwr.power = .on ∧ s.pwr.phase = .running) (hst : s.trc.st = .unthreaded)
    (hkind : progKind s.sch.prog k = 3) (hf : progFollow s.sch.prog k = false)
    (hm : speedOf (progSpeed s.sch.prog k) = some m) (hpos : s.pos.r = none) (hscan : s.tun.scan = none)
    (hlock : s.tun.st ≠ .locked) (hstart : clockNow s < start) (hstop : clockNow s < stopOf s.sch.prog k start) :
    beginPreroll k start s = notify (.transport .threading) (linePreroll k start m s) := by
  generalize hb : begun k start (stopOf s.sch.prog k start) s = b
  have hbframe : SameBut [.sch] s b := hb ▸ begun_frame k start _ s
  have hbprog : b.sch.prog = s.sch.prog := by rw [← hb]; rfl
  have hbentry : entry k b = (entry k s).prerolling := by rw [← hb]; exact entry_setEntry_same k _ _
  have hprog : postProgramme k .none .none (setEntry k { entry k s with state := .preroll, wait := .none }
      (setRun (freshRun k start (stopOf s.sch.prog k start) (start ≤ clockNow s)) s))
      = post (evProgramme k .preroll .none .none) b := by
    have hlate : decide (start ≤ clockNow s) = false := decide_eq_false (not_le.2 hstart)
    rw [hlate, postProgramme_setEntry, ← hb]
    rfl
  have hstatus := writeStatus_lineHanded (k := k) (start := start) (m := m) hr hq
  rw [hb] at hstatus
  generalize hpost : post (evProgramme k .preroll .none .none) b = p at hprog hstatus
  have hpframe : SameBut [.rqu, .mpath] b p := hpost ▸ post_frame _ b
  have hpsch : p.sch = b.sch := hpframe .sch (by decide)
  have hppwr : p.pwr = s.pwr := (hpframe .pwr (by decide)).trans (hbframe .pwr (by decide))
  have hptun : p.tun = s.tun := (hpframe .tun (by decide)).trans (hbframe .tun (by decide))
  have hppos : p.pos = s.pos := (hpframe .pos (by decide)).trans (hbframe .pos (by decide))
  have hready := lineReady_eq (s := p) (by rwa [hppwr]) (by rwa [hptun]) (by rwa [hptun]) (progValue s.sch.prog k)
  have hwoken : (wake .timer (cancelOff (takeTuner (takeTransport p)))).sch.prog = s.sch.prog := by
    simp only [wake_sch, cancelOff_sch, takeTuner_sch, takeTransport_sch, hpsch, hbprog]
  have hlineprog : (lineReady p).sch.prog = s.sch.prog := (congrArg Sch.prog hpsch).trans hbprog
  have hlineentry : entry k (lineReady p) = (entry k s).prerolling :=
    (entry_congr (s := b) (congrArg Sch.entries hpsch) k).trans hbentry
  have hhand := handRecord_line (s := lineReady p) start (stopOf s.sch.prog k start)
    ((congrArg Pos.r hppos).trans hpos) (by rwa [hlineprog]) (by rwa [hlineprog]) (by rw [hlineentry]; exact ⟨rfl, rfl⟩)
  have hthread : schRecord m (lineHanded k start m s) = notify (.transport .threading) (linePreroll k start m s) :=
    schRecord_threads m ((congrArg Trc.st (lineHanded_trc k start m s)).trans hst)
      (congrArg Trc.owner (lineHanded_trc k start m s))
  rw [hstatus, hthread] at hhand
  have hsource : sourceOf s.sch.prog k = .line := by
    rw [sourceOf, hkind]
    rfl
  unfold beginPreroll
  dsimp only
  rw [hprog, hwoken, hsource]
  dsimp only [tuneRefused]
  simp only [Bool.false_eq_true, if_false]
  rw [hready, decide_eq_false (not_le.2 hstart), hhand]
  have hnow : clockNow (notify (.transport .threading) (linePreroll k start m s)) = clockNow s :=
    congrArg (fun x : Clk => x.time.secs) ((linePreroll_handing hr hq).frame .clk (by decide))
  exact runTests_early (s := notify (.transport .threading) (linePreroll k start m s)) linePreroll_run rfl
    linePreroll_state (by rwa [hnow]) (by rwa [hnow])

end

end Sys2Proof.Machine
end

section
/-! LEMMA. The entry that comes due pre-rolls (R128 to R132, R184). -/

namespace Sys2Proof.Machine

/-- What is handed after work on the listed parts is handed from the state before it. -/
theorem Handing.after {ps qs : List Part} {evs : List Event} {groups : List WriteGroup} {s u v : State}
    (h : Handing ps evs groups u v) (hf : SameBut qs s u) (ho : .rqu ∉ qs ∧ .mpath ∉ qs := by decide) :
    Handing (qs ++ ps) evs groups s v where
  frame := (hf.trans h.frame).mono fun p hp => by
    simp only [List.mem_append] at hp ⊢
    tauto
  rqu := by rw [h.rqu, hf .rqu ho.1]
  mpath := by rw [h.mpath, hf .mpath ho.2]

section
variable {s : State} {k : Fin 16} {start : Nat} (h : ComesDue k start s)
include h

/-- R130 to R132, R184: an entry of the line input, its tape unknown, pre-rolls. -/
theorem ComesDue.prerolls {m : Speed} (ht : setTimerOn s.mpath.settings = true) (hv : s.clk.valid = true)
    (hc : s.trc.cassette = true) (htab : s.trc.tab = true) (hkind : progKind s.sch.prog k = 3)
    (hf : progFollow s.sch.prog k = false) (hm : speedOf (progSpeed s.sch.prog k) = some m) (hpos : s.pos.r = none)
    (hscan : s.tun.scan = none) (hlock : s.tun.st ≠ .locked) :
    ∃ t, exec .secondAdvance s = .next t
      ∧ t.sch.run = some { freshRun k start (stopOf s.sch.prog k start) false with speed := some m, unknownTape := true }
      ∧ t.sch.queue = [] ∧ t.sch.claim = s.sch.claim
      ∧ EntrySet k { entry k s with
          state := .preroll, wait := .none, speed := some m, late := false, short := false, unknownTape := true
          fallback := false } s t
      ∧ t.trc.owner = .schedule ∧ t.trc.st = .threading ∧ t.trc.pending = some ⟨.record m false true, ⟨0, .schedule⟩⟩
      ∧ t.trc.loadMotor = .forward ∧ t.pos.counter = s.pos.counter
      ∧ t.tun.owner = .schedule ∧ t.tun.st = .line ∧ t.tun.kind = .line
      ∧ t.pwr = (if s.pwr.power = .standby then
          { s.pwr with
            power := .on, phase := .rising, mainEn := true, railTimer := some s.now, cause := .timer, keySince := false
            wakeDue := some .timer }
        else s.pwr)
      ∧ Appended [evProgramme k .preroll .none .none] s t
      ∧ Handed (eventGroups (s.setClk t.clk) [evProgramme k .preroll .none .none] ++ [statusGroup k (entry k t)]) s t
      ∧ SameBut [.clk, .sch, .trc, .srv, .pos, .tun, .pwr, .mpath, .rqu] s t := by
  have hstart : clockNow (takeUp k (atSecond s)) < start := h.now.trans_lt h.ahead
  have hstop : clockNow (takeUp k (atSecond s)) < stopOf s.sch.prog k start := h.now.trans_lt h.stop
  have hroom : EventRoom 2 (takeUp k (atSecond s)) := ⟨h.room.overflow, h.room.count⟩
  have hbegin := beginPreroll_line (s := takeUp k (atSecond s)) hroom h.drained.queue h.power h.state hkind hf hm hpos
    hscan hlock hstart hstop
  have hnotices : (linePreroll k start m (takeUp k (atSecond s))).notices = [] :=
    ((linePreroll_handing hroom h.drained.queue).frame .untold (by decide)).1.trans h.untold.1
  have hhanding : Handing [.untold, .sch, .trc, .srv, .pos, .tun, .pwr] _ _ (atSecond s) _ :=
    (linePreroll_handing (k := k) (start := start) (m := m) hroom h.drained.queue).after (takeUp_frame k (atSecond s))
  have hsorted := beginPreroll_sorted k start (takeUp k (atSecond s))
  have hsch := linePreroll_sch k start m (takeUp k (atSecond s))
  have hentry : EntrySet k ((entry k s).handed m) s (linePreroll k start m (takeUp k (atSecond s))) := by
    have hset := speedFixed_entrySet k start (stopOf s.sch.prog k start) m (takeUp k (atSecond s))
    have hsame := congrArg Sch.entries hsch
    exact ⟨(entry_congr hsame k).trans hset.1, fun j hj => (entry_congr hsame j).trans (hset.2 j hj)⟩
  have hrun : (linePreroll k start m (takeUp k (atSecond s))).sch.run =
      some (lineRun k start (stopOf s.sch.prog k start) m) := linePreroll_run
  have hclaim : (linePreroll k start m (takeUp k (atSecond s))).sch.claim = s.sch.claim := by
    rw [hsch]
    rfl
  obtain ⟨howner, hst, hpending, hmotor⟩ := linePreroll_trc k start m (takeUp k (atSecond s))
  have hcounter := linePreroll_counter k start m (takeUp k (atSecond s))
  have htun := linePreroll_tun k start m (takeUp k (atSecond s))
  have hpwr := linePreroll_pwr k start m (takeUp k (atSecond s))
  rw [hbegin] at hsorted
  generalize linePreroll k start m (takeUp k (atSecond s)) = v at *
  have hset : settle 127 (checkDue 17 (atSecond s)) = v := by
    have hdue := h.takenUp ht hv 16
    rw [tryEntry_prerolls (s := atSecond s) h.next hc htab, hbegin] at hdue
    rw [hdue]
    exact settle_threading 126 hnotices hrun rfl
  have hrests : PowerRests v := fun _ => by
    rw [hpwr]
    exact Pwr.timerWoken_awake h.power
  obtain ⟨happ, hhand, hsame⟩ := hhanding.ended h.untold h.drained.queue
    (qs := [.sch, .trc, .srv, .pos, .tun, .pwr, .mpath, .rqu])
  have hclk : s.setClk (ended (hostRuns s) v).clk = atSecond s := by
    rw [show (ended (hostRuns s) v).clk = (atSecond s).clk from hsame .clk (by decide)]
    rfl
  have hqueue : v.sch.queue = [] := hsorted.queue_nil (s := v) (hentry.noneWaiting h.alone)
  have hentry' : EntrySet k ((entry k s).handed m) s (ended (hostRuns s) v) := hentry
  refine ⟨_, h.settles hset hrests, hrun, hqueue, hclaim, hentry', howner, hst, hpending, hmotor, hcounter,
    congrArg Tun.owner htun, congrArg Tun.st htun, congrArg Tun.kind htun, hpwr, happ, ?_,
    ((atSecond_frame s).trans hsame).mono (by simp)⟩
  rw [hclk, hentry'.1]
  exact hhand

end

end Sys2Proof.Machine
end

section
/-! LEMMA. The start of the occurrence in PREROLL (R133, R134). -/

namespace Sys2Proof.Machine

/-- R134: the clock test of a run in PREROLL whose start has come and whose stop has not. -/
theorem runTests_startDue {s : State} {c : Run} (hrun : s.sch.run = some c) (hl : c.label = false)
    (hp : (entry c.entry s).state = .preroll) (hstart : c.start ≤ clockNow s) (hstop : clockNow s < c.stop) :
    runTests s = setRun { c with startDue := true } s := by
  rw [runTests_clock hrun hl, clockTests, hp]
  exact (if_neg (not_le.2 hstop)).trans (if_pos hstart)

/-- R134: the start of the occurrence comes, and start due becomes true. -/
theorem startComesDue {s : State} {c : Run} (hu : NothingUntold s) (hp : PowerSteady s) (hlines : LinesStand s)
    (hrun : s.sch.run = some c) (hl : c.label = false) (hready : c.ready = false)
    (hpre : (entry c.entry s).state = .preroll) (hstart : c.start ≤ clockNow s) (hstop : clockNow s < c.stop) :
    ∃ t, exec .occurrenceStartDue s = .next t ∧ t.sch = { s.sch with run := some { c with startDue := true } }
      ∧ SameBut [.sch] s t := by
  have hset : settle Config.chainFuel (setRun { c with startDue := true } s) = setRun { c with startDue := true } s :=
    settle_rest _ hu.1 (startReady_of_not_ready rfl hready)
  have hexec : exec .occurrenceStartDue s = command (fun _ => setRun { c with startDue := true } s) s := by
    refine command_of ?_
    simp only [hrun]
    exact (if_pos (by simp [hpre, hstart])).trans (runTests_startDue hrun hl hpre hstart hstop)
  exact ⟨_, hexec.trans (hp.command_settles (f := fun _ => setRun { c with startDue := true } s) hset rfl), rfl,
    ended_quiet (ps := [.sch]) (setRun_frame _ s) hu hlines⟩

/-! ### The start effects -/

/-- R19: the scheduler's RESUME with a mark flag, before catch-up begins. -/
def readyToResume (mark : Bool) (s : State) : State :=
  clearRewind (s.setTrc { s.trc with markDue := s.trc.markDue || mark })

/-- R19: the scheduler's RESUME has begun catch-up. -/
def resumed (mark : Bool) (s : State) : State :=
  startRun (pausePulses (catchingUp schOrigin (readyToResume mark s))) (catchingUp schOrigin (readyToResume mark s))

theorem readyToResume_frame (mark : Bool) (s : State) : SameBut [.trc] s (readyToResume mark s) := setTrc_frame s _

theorem resumed_frame (mark : Bool) (s : State) : SameBut [.trc, .srv, .pos] s (resumed mark s) :=
  (((readyToResume_frame mark s).mono (by simp)).with (catchingUp_frame _ _)).with ((startRun_frame _ _).mono (by simp))

theorem resumeInPause_atRest {s : State} {o : Origin} (h : s.trc.phase = .atRest) :
    resumeInPause o s = (startCatchUp o (clearRewind s), answer .accepted) := by
  rw [resumeInPause, h]

/-- R19: in REC_PAUSE at rest, with the end sensor open, the scheduler's RESUME begins catch-up. -/
theorem schResume_atRest {s : State} (mark : Bool) (hst : s.trc.st = .recPause) (hph : s.trc.phase = .atRest)
    (he : s.pins.endSense = false) : schResume mark s = resumed mark s := by
  have hresume : schResume mark s = (resumeInPause schOrigin (s.setTrc { s.trc with markDue := s.trc.markDue || mark })).1 :=
    if_pos (by rw [hst]; rfl)
  rw [hresume, resumeInPause_atRest (by exact hph)]
  exact startCatchUp_clear (s := readyToResume mark s) schOrigin hst he

theorem resumed_trc (mark : Bool) (s : State) : (resumed mark s).trc.st = s.trc.st ∧ (resumed mark s).trc.phase = .catchUp
    ∧ (resumed mark s).trc.resumeBy = schOrigin ∧ (resumed mark s).trc.markDue = (s.trc.markDue || mark) := by
  obtain ⟨c, h⟩ := catchingUp_trc schOrigin (readyToResume mark s)
  rw [resumed, startRun_trc, h]
  exact ⟨rfl, rfl, rfl, rfl⟩

theorem resumed_counter (mark : Bool) (s : State) : (resumed mark s).pos.counter = s.pos.counter :=
  catchingUp_counter schOrigin (readyToResume mark s)

/-- R29: the servo runs forward in catch-up, from rest. -/
theorem resumed_srv {s : State} (mark : Bool) (hst : s.trc.st = .recPause) (hm : s.pins.mainGood = true)
    (hrow : s.srv.row = .rest) : (resumed mark s).srv.row = .catchUp ∧ (resumed mark s).srv.dir = .forward := by
  have hne : (readyToResume mark s).srv.row ≠ .catchUp := by
    show s.srv.row ≠ .catchUp
    rw [hrow]
    decide
  have hsrv := catchingUp_srv (o := schOrigin) (s := readyToResume mark s) hst hm
  have hrow' : (catchingUp schOrigin (readyToResume mark s)).srv.row = .catchUp := by rw [hsrv, drive_row]
  have hdir : (catchingUp schOrigin (readyToResume mark s)).srv.dir = .forward := by rw [hsrv, drive_dir hne]; rfl
  exact ⟨hrow', hdir⟩

/-- R133: the run context of an occurrence that starts at a counter. -/
def startedRun (c : Run) (counter : Int) (s : State) : Run :=
  { c with
    actualStart := some s.clk.time, counterAtStart := counter
    remaining := match c.speed with | some m => s.pos.quote m | none => 0xFFFF }

/-- R133: the status of an entry that starts. -/
@[reducible] def Entry.startedAs (e : Entry) (c : Run) : Entry :=
  { e with
    state := .active, lastRun := some c.date, speed := c.speed, late := c.late, short := c.short
    unknownTape := c.unknownTape, fallback := c.fallback, wait := .none }

/-- R133: the occurrence has started, before PROGRAMME is posted. -/
def occurrenceStarted (c : Run) (counter : Int) (s : State) : State :=
  reportRunning (retain ⟨true, c.entry, c.date, s.clk.time, counter⟩
    (setEntry c.entry ((entry c.entry s).startedAs c) (setRun (startedRun c counter s) s)))

section
variable (c : Run) (counter : Int) (s : State)

theorem occurrenceStarted_frame : SameBut [.sch, .clk] s (occurrenceStarted c counter s) := by
  have hset := ((setRun_frame (startedRun c counter s) s).with
    (setEntry_frame c.entry ((entry c.entry s).startedAs c) _)).mono (qs := [.sch, .clk]) (by simp)
  exact (hset.with ((setClk_frame _ _).mono (by simp))).with ((setClk_frame _ _).mono (by simp))

theorem occurrenceStarted_entry : EntrySet c.entry ((entry c.entry s).startedAs c) s (occurrenceStarted c counter s) :=
  entrySet_of_entries rfl

theorem startEffects_eq : startEffects c counter s =
    writeStatus c.entry (post (evProgramme c.entry .active .none .none) (occurrenceStarted c counter s)) := by
  have hprog : postProgramme c.entry .none .none (occurrenceStarted c counter s)
      = post (evProgramme c.entry .active .none .none) (occurrenceStarted c counter s) := by
    rw [postProgramme, (occurrenceStarted_entry c counter s).1]
  exact congrArg (writeStatus c.entry) hprog

end

/-- R133: with start due and transport ready the scheduler's RESUME is given, and the start effects follow. -/
theorem startRun_ready {s : State} {c : Run} (hrun : s.sch.run = some c) (hdue : c.startDue = true)
    (hready : c.ready = true) (hp : (entry c.entry s).state = .preroll) :
    startRun_ s = startEffects c (s.trc.pausePoint.getD 0) (schResume (progMark s.sch.prog c.entry) s) := by
  have hstart : startReady s = true := by simp [startReady, hrun, hdue, hready, hp]
  simp only [startRun_, hrun, hstart, if_true]

/-- R133: the occurrence starts with the transport in REC_PAUSE at rest. -/
def startedAtRest (c : Run) (point : Int) (s : State) : State :=
  occurrenceStarted c point (resumed (progMark s.sch.prog c.entry) s)

theorem startedAtRest_frame (c : Run) (point : Int) (s : State) :
    SameBut [.trc, .srv, .pos, .sch, .clk] s (startedAtRest c point s) :=
  ((resumed_frame _ s).mono (by simp)).with ((occurrenceStarted_frame c point _).mono (by simp))

theorem startedAtRest_entry (c : Run) (point : Int) (s : State) :
    EntrySet c.entry ((entry c.entry s).startedAs c) s (startedAtRest c point s) := by
  have hsch : (resumed (progMark s.sch.prog c.entry) s).sch = s.sch := resumed_frame _ s .sch (by decide)
  have hsame := entry_congr (congrArg Sch.entries hsch)
  obtain ⟨hset, hothers⟩ := occurrenceStarted_entry c point (resumed (progMark s.sch.prog c.entry) s)
  rw [hsame c.entry] at hset
  exact ⟨hset, fun j hj => (hothers j hj).trans (hsame j)⟩

theorem startedAtRest_clk (c : Run) (point : Int) (s : State) : (startedAtRest c point s).clk =
    { s.clk with running := true, retained := ⟨true, c.entry, c.date, s.clk.time, point⟩ } := by
  have hclk : (resumed (progMark s.sch.prog c.entry) s).clk = s.clk := resumed_frame _ s .clk (by decide)
  rw [startedAtRest]
  generalize resumed (progMark s.sch.prog c.entry) s = u at *
  rw [← hclk]
  rfl

theorem startedAtRest_time (c : Run) (point : Int) (s : State) : (startedAtRest c point s).clk.time = s.clk.time := by
  rw [startedAtRest_clk]

theorem startedAtRest_run {c : Run} {m : Speed} (point : Int) (s : State) (hm : c.speed = some m) :
    (startedAtRest c point s).sch.run = some { c with
      actualStart := some s.clk.time, counterAtStart := point, remaining := (startedAtRest c point s).pos.quote m } := by
  have hclk : (resumed (progMark s.sch.prog c.entry) s).clk = s.clk := resumed_frame _ s .clk (by decide)
  rw [startedAtRest]
  generalize resumed (progMark s.sch.prog c.entry) s = u at *
  have hrun : (occurrenceStarted c point u).sch.run = some (startedRun c point u) := rfl
  rw [hrun, startedRun, hm, hclk]
  rfl

/-- R133: PROGRAMME is posted and the status handed. -/
def startPosted (c : Run) (point : Int) (s : State) : State :=
  enqueue (statusGroup c.entry ((entry c.entry s).startedAs c))
    (post (evProgramme c.entry .active .none .none) (startedAtRest c point s))

theorem startPosted_handing {n : Nat} {s : State} (c : Run) (point : Int) (hr : EventRoom (n + 1) s)
    (hq : s.mpath.queue = []) : Handing [.trc, .srv, .pos, .sch, .clk] [evProgramme c.entry .active .none .none]
      (eventGroups s [evProgramme c.entry .active .none .none]
        ++ [statusGroup c.entry ((entry c.entry s).startedAs c)]) s (startPosted c point s) := by
  exact (((Handing.start _ s).work (startedAtRest_frame c point s)).postsAt _ hr hq (startedAtRest_time c point s)).hand _

/-- R133: the start of an occurrence in REC_PAUSE at rest. -/
theorem startRun_atRest {n : Nat} {s : State} {c : Run} {point : Int} (hr : EventRoom (n + 1) s)
    (hq : s.mpath.queue = []) (hrun : s.sch.run = some c) (hdue : c.startDue = true) (hready : c.ready = true)
    (hp : (entry c.entry s).state = .preroll) (hst : s.trc.st = .recPause) (hph : s.trc.phase = .atRest)
    (hpoint : s.trc.pausePoint = some point) (he : s.pins.endSense = false) : startRun_ s = startPosted c point s := by
  have hposted := ((Handing.start [.trc, .srv, .pos, .sch, .clk] s).work (startedAtRest_frame c point s)).postsAt
    (evProgramme c.entry .active .none .none) hr hq (startedAtRest_time c point s)
  have hstatus := writeStatus_room (k := c.entry) (s := post (evProgramme c.entry .active .none .none)
    (startedAtRest c point s)) (by rw [hposted.mpath, hq]; simp)
  rw [entry_congr (congrArg Sch.entries (post_sch _ _)), (startedAtRest_entry c point s).1] at hstatus
  rw [startRun_ready hrun hdue hready hp, hpoint, schResume_atRest _ hst hph he, startEffects_eq]
  exact hstatus

/-- R133: the occurrence starts, with the event's end. -/
theorem occurrenceStartsAtRest {s : State} {c : Run} {m : Speed} {point : Int} (hu : NothingUntold s) (hp : PowerSteady s)
    (hd : Drained s) (hroom : EventRoom 1 s) (hrun : s.sch.run = some c) (hdue : c.startDue = true)
    (hready : c.ready = true) (hm : c.speed = some m) (hpre : (entry c.entry s).state = .preroll)
    (hst : s.trc.st = .recPause) (hph : s.trc.phase = .atRest) (hpoint : s.trc.pausePoint = some point)
    (hmain : s.pins.mainGood = true) (hend : s.pins.endSense = false) (hrow : s.srv.row = .rest) :
    ∃ t, exec .occurrenceStart s = .next t
      ∧ EntrySet c.entry { entry c.entry s with
          state := .active, lastRun := some c.date, speed := some m, late := c.late, short := c.short,
          unknownTape := c.unknownTape, fallback := c.fallback, wait := .none } s t
      ∧ t.sch.run = some { c with
          actualStart := some s.clk.time, counterAtStart := point, remaining := t.pos.quote m }
      ∧ t.clk = { s.clk with running := true, retained := ⟨true, c.entry, c.date, s.clk.time, point⟩ }
      ∧ t.trc.st = .recPause ∧ t.trc.phase = .catchUp ∧ t.trc.resumeBy = ⟨0, .schedule⟩
      ∧ t.trc.markDue = (s.trc.markDue || progMark s.sch.prog c.entry)
      ∧ t.srv.row = .catchUp ∧ t.srv.dir = .forward ∧ t.pos.counter = s.pos.counter
      ∧ Appended [evProgramme c.entry .active .none .none] s t
      ∧ Handed (eventGroups s [evProgramme c.entry .active .none .none] ++ [statusGroup c.entry (entry c.entry t)]) s t
      ∧ SameBut [.sch, .trc, .srv, .pos, .clk, .mpath, .rqu] s t := by
  have hstart := startRun_atRest hroom hd.queue hrun hdue hready hpre hst hph hpoint hend
  have hhanding := startPosted_handing c point hroom hd.queue
  have hpostsame : SameBut [.rqu, .mpath] (startedAtRest c point s) (startPosted c point s) :=
    ((post_frame _ _).mono (by simp)).with ((enqueue_frame _ _).mono (by simp))
  have hsch : (startPosted c point s).sch = (startedAtRest c point s).sch := hpostsame .sch (by decide)
  have hpos : (startPosted c point s).pos = (startedAtRest c point s).pos := hpostsame .pos (by decide)
  have hclk := (hpostsame .clk (by decide)).trans (startedAtRest_clk c point s)
  have htrc : (startPosted c point s).trc = (resumed (progMark s.sch.prog c.entry) s).trc := hpostsame .trc (by decide)
  have hsrv : (startPosted c point s).srv = (resumed (progMark s.sch.prog c.entry) s).srv := hpostsame .srv (by decide)
  have hcounter : (startPosted c point s).pos.counter = s.pos.counter :=
    (congrArg Pos.counter hpos).trans (resumed_counter (progMark s.sch.prog c.entry) s)
  have hentry : EntrySet c.entry ((entry c.entry s).startedAs c) s (startPosted c point s) := by
    obtain ⟨hset, hothers⟩ := startedAtRest_entry c point s
    have hsame := entry_congr (congrArg Sch.entries hsch)
    exact ⟨(hsame _).trans hset, fun j hj => (hsame j).trans (hothers j hj)⟩
  have hrun' := (congrArg Sch.run hsch).trans (startedAtRest_run point s hm)
  rw [← hpos] at hrun'
  obtain ⟨hst', hph', hby, hmark⟩ := resumed_trc (progMark s.sch.prog c.entry) s
  obtain ⟨hrow', hdir⟩ := resumed_srv (progMark s.sch.prog c.entry) hst hmain hrow
  rw [← htrc] at hst' hph' hby hmark
  rw [← hsrv] at hrow' hdir
  generalize startPosted c point s = v at *
  have hset : settle Config.chainFuel (startRun_ s) = v := by
    rw [hstart]
    refine settle_rest _ ((hhanding.frame .untold (by decide)).1.trans hu.1) (startReady_of_state hrun' ?_)
    rw [hentry.1]
    simp
  obtain ⟨happ, hhand, hsame⟩ := hhanding.ended hu hd.queue (qs := [.sch, .trc, .srv, .pos, .clk, .mpath, .rqu])
  have hentry' : EntrySet c.entry ((entry c.entry s).startedAs c) s (ended (hostRuns s) v) := hentry
  refine ⟨_, hp.command_settles hset (hhanding.frame .pwr (by decide)), hm ▸ hentry', hrun', hclk, hst'.trans hst, hph',
    hby, hmark, hrow', hdir, hcounter, happ, ?_, hsame⟩
  rw [hentry'.1]
  exact hhand

end Sys2Proof.Machine

open Sys2Proof Sys2Proof.Machine

/-- Settles O53: the check of the second finds the one entry due, and it waits, misses or pre-rolls; start due comes with the
clock, and the start is the scheduler's RESUME with the start effects. -/
theorem occurrenceStarts : Obligations.OccurrenceStarts := by
  refine ⟨fun s k start h => ⟨fun ht hv hc htab m hkind hf hm hpos hscan hlock _ =>
      h.prerolls ht hv hc htab hkind hf hm hpos hscan hlock,
    fun reason ht hv hm hr => h.endsMissed ht hv hm hr, fun w hw => h.keepsWaiting hw⟩, ?_, ?_⟩
  · intro s c hu hp hl hrun hlabel hready hpre hstart hstop
    exact startComesDue hu hp hl hrun hlabel hready hpre hstart hstop
  · intro s c m point hu hp hd hroom hrun hdue hready hm hpre _ hst hph hpoint hmain hend hrow
    exact occurrenceStartsAtRest hu hp hd hroom hrun hdue hready hm hpre hst hph hpoint hmain hend hrow

end

section
/-! SUPPORT. The release of a run that ends (R146, step 4), and what SCH is told then. -/

namespace Sys2Proof.Machine

/-! ### An event posted to a full queue -/

/-- R171: with the posted-write queue full, an event is appended and its group held for a slot (R162). -/
def postHeld (e : Event) (s : State) : State :=
  askSlot .rqu (s.setRqu { s.rqu with
    count := s.rqu.count + 1, newest := e, held := s.rqu.held ++ [eventGroupAt s 0 e] })

theorem post_full {e : Event} {s : State} (ho : s.rqu.overflow = none) (hc : s.rqu.count ≤ 30)
    (hq : s.mpath.queue.length = 4) : post e s = postHeld e s := by
  simp [post, ho, hc, appendEvent, offerRqu, queueHasRoom, hq, postHeld, eventGroupAt, tailSlot, tailSeq]
  rfl

theorem postHeld_frame (e : Event) (s : State) : SameBut [.rqu, .mpath] s (postHeld e s) := by
  intro p hp; cases p <;> simp_all [Part.same, postHeld, askSlot]

/-- R169: with the posted-write queue full and no result held, a result is held behind RQU's other groups. -/
theorem makeResult_full {a : Answer} {tag : Byte} {s : State} (hq : s.mpath.queue.length = 4)
    (hh : ∀ g ∈ s.rqu.held, g.start ≠ offResult) : makeResult a tag s =
      askSlot .rqu (s.setRqu { s.rqu with held := s.rqu.held ++ [resultGroup a tag] }) := by
  have hroom : queueHasRoom s = false := decide_eq_false (by rw [hq]; decide)
  have hnone : (s.rqu.held.any fun g => g.start == offResult) = false := by simpa using hh
  simp [makeResult, offerRqu, hroom, hnone, resultGroup]

theorem eventGroupAt_start_ne (s : State) (i : Nat) (e : Event) : (eventGroupAt s i e).start ≠ offResult := by
  have hstart : offResult < (eventGroupAt s i e).start := Nat.lt_of_lt_of_le (by decide) (Nat.le_add_right offRing _)
  exact hstart.ne'

/-! ### The tape stops, and what the run held returns -/

/-- R146: SCH has stopped the tape, before TRC's report of it. -/
def tapeStopped (s : State) : State :=
  postHeld (evTransport .stop schOrigin) (enterCore .stop false (stopWriting s))

/-- R16: SCH's STOP of a recording, where TRANSPORT finds the posted-write queue full. -/
theorem schStop_record {s : State} (ho : s.trc.owner = .schedule) (hst : s.trc.st = .record)
    (hov : s.rqu.overflow = none) (hc : s.rqu.count ≤ 30) (hq : s.mpath.queue.length = 4) :
    schStop s = notify (.transport .stop) (tapeStopped s) := by
  have hstop : schStop s = stopTape schOrigin false s := by simp [schStop, ho, hst, TransportState.threaded]
  have hsearch : stopSearch (stopWriting s) = stopWriting s := stopSearch_of_ne (by simp [hst])
  have hframe : SameBut [.trc, .srv, .pos] s (enterCore .stop false (stopWriting s)) :=
    ((stopWriting_frame s).mono (by simp)).with (enterCore_frame _ _ _)
  have hpost : post (evTransport .stop schOrigin) (enterCore .stop false (stopWriting s)) = tapeStopped s :=
    post_full (by rwa [hframe .rqu (by decide)]) (by rwa [hframe .rqu (by decide)]) (by rwa [hframe .mpath (by decide)])
  have howner : (tapeStopped s).trc.owner = .schedule := by
    rw [tapeStopped, postHeld_frame _ _ .trc (by decide), enterCore_owner, stopWriting_trc, ho]
  have hstate : (tapeStopped s).trc.st = .stop := by
    rw [tapeStopped, postHeld_frame _ _ .trc (by decide), enterCore_st]
  rw [hstop, stopTape, if_neg (by simp [hst]), hsearch, enter_loud, hpost, reportState, howner, hstate]

theorem tapeStopped_frame (s : State) : SameBut [.trc, .srv, .pos, .rqu, .mpath] s (tapeStopped s) :=
  (((stopWriting_frame s).mono (by simp)).with ((enterCore_frame _ _ _).mono (by simp))).with
    ((postHeld_frame _ _).mono (by simp))

/-- R16, R146: the transport in STOP, writing nothing. -/
theorem tapeStopped_trc (s : State) : (tapeStopped s).trc.st = .stop ∧ (tapeStopped s).trc.owner = s.trc.owner
    ∧ (tapeStopped s).trc.pending = s.trc.pending ∧ (tapeStopped s).trc.writing = false
    ∧ (tapeStopped s).trc.rewindDue = false := by
  rw [tapeStopped, postHeld_frame _ _ .trc (by decide)]
  simp

/-- R8, R171: TRANSPORT is appended, and its group held. -/
theorem tapeStopped_rqu (s : State) : (tapeStopped s).rqu = { s.rqu with
    count := s.rqu.count + 1, newest := evTransport .stop schOrigin
    held := s.rqu.held ++ [eventGroupAt s 0 (evTransport .stop schOrigin)] } := by
  have hframe : SameBut [.trc, .srv, .pos] s (enterCore .stop false (stopWriting s)) :=
    ((stopWriting_frame s).mono (by simp)).with (enterCore_frame _ _ _)
  have hrqu : (enterCore .stop false (stopWriting s)).rqu = s.rqu := hframe .rqu (by decide)
  have hclk : (enterCore .stop false (stopWriting s)).clk = s.clk := hframe .clk (by decide)
  rw [tapeStopped]
  generalize enterCore .stop false (stopWriting s) = u at *
  simp only [postHeld, askSlot, eventGroupAt, State.setMpath_rqu, State.setRqu_rqu, hrqu, hclk]

theorem tapeStopped_mpath (s : State) :
    (tapeStopped s).mpath = { s.mpath with grants := s.mpath.grants ++ [.rqu] } := by
  have hframe : SameBut [.trc, .srv, .pos] s (enterCore .stop false (stopWriting s)) :=
    ((stopWriting_frame s).mono (by simp)).with (enterCore_frame _ _ _)
  have hmpath : (enterCore .stop false (stopWriting s)).mpath = s.mpath := hframe .mpath (by decide)
  rw [← hmpath]
  rfl

theorem tapeStopped_counter (s : State) : (tapeStopped s).pos.counter = s.pos.counter := by
  rw [tapeStopped, postHeld_frame _ _ .pos (by decide), enterCore_counter, stopWriting_counter]

theorem tapeStopped_row (s : State) : (tapeStopped s).srv.row = .still := by
  rw [tapeStopped, postHeld_frame _ _ .srv (by decide), enterCore_row]
  simp [rowOf]

/-- R146: SCH returns a transport in STOP that holds no target and owes no rewind. -/
theorem returnTransport_stop {s : State} (ho : s.trc.owner = .schedule) (hst : s.trc.st = .stop)
    (hp : s.trc.pending = none) (hr : s.trc.rewindDue = false) :
    returnTransport s = s.setTrc { s.trc with owner := .panel, idle := some s.now, pauseT := none } := by
  simp [returnTransport, ownerToPanel, takeRewind, idleState, pauseState, ho, hst, hp, hr]

/-- R114: with no step deferred, SCH reports not running. -/
theorem reportNotRunning_clear {s : State} (hd : s.clk.deferred = none) :
    reportNotRunning s = s.setClk { s.clk with running := false } := by
  unfold reportNotRunning
  split
  · simp [hd]
  · next hrun =>
    have hnot : s.clk.running = false := by simpa using hrun
    rw [← hnot]
    rfl

/-- R146: the transport, the tuner and the run are returned, and CLK's report and record cleared. -/
def handedBack (s : State) : State :=
  (((s.setTrc { s.trc with owner := .panel, idle := some s.now, pauseT := none }).setTun { s.tun with owner := .panel }).setClk
    { s.clk with running := false, retained := { s.clk.retained with valid := false } }).setSch { s.sch with run := none }

theorem handedBack_frame (s : State) : SameBut [.trc, .tun, .clk, .sch] s (handedBack s) := by
  intro p hp; cases p <;> simp_all [Part.same, handedBack]

/-- R146, step 4, of a recording with nothing held, owed or deferred. -/
theorem releaseRun_record {s : State} (ho : s.trc.owner = .schedule) (hst : s.trc.st = .record)
    (hp : s.trc.pending = none) (hd : s.clk.deferred = none) (hov : s.rqu.overflow = none) (hc : s.rqu.count ≤ 30)
    (hq : s.mpath.queue.length = 4) :
    releaseRun true s = notify (.transport .stop) (handedBack (tapeStopped s)) := by
  obtain ⟨hst', howner, hpending, -, hrewind⟩ := tapeStopped_trc s
  have hclk : (tapeStopped s).clk = s.clk := tapeStopped_frame s .clk (by decide)
  have hstop := schStop_record ho hst hov hc hq
  generalize tapeStopped s = w at *
  have hback : returnTransport (notify (.transport .stop) w) =
      (notify (.transport .stop) w).setTrc { w.trc with owner := .panel, idle := some w.now, pauseT := none } :=
    returnTransport_stop (s := notify (.transport .stop) w) (howner.trans ho) hst' (hpending.trans hp) hrewind
  simp only [releaseRun, hstop, hback, if_true]
  exact reportNotRunning_clear (s := (clearRetained (returnTuner ((notify (.transport .stop) w).setTrc
    { w.trc with owner := .panel, idle := some w.now, pauseT := none }))).setSch { w.sch with run := none })
    ((congrArg Clk.deferred hclk).trans hd)

/-! ### What SCH is told of an end -/

/-- SCH takes a notice that changes nothing. -/
theorem settle_takes {n : Nat} {s w : State} {x : Notice} {rest : List Notice} (hn : nextNotice s.notices = some (x, rest))
    (hx : takeNotice x (s.setNotices rest) = w) : settle (n + 1) s = settle n w := by
  rw [settle, hn]
  dsimp only
  rw [hx]

/-- R132, R146, R149: after an end with nothing in the timer queue and no auto-off, SCH comes to rest. -/
theorem settle_afterEnd (n : Nat) {s : State} (hn : s.notices = []) (hr : s.sch.run = none) (hq : s.sch.queue = [])
    (ha : setAutoOff s.mpath.settings = false) :
    settle (n + 3) (notify .autoOff (notify .check (notify (.transport .stop) s))) = s := by
  have hstop : takeNotice (.transport .stop) (s.setNotices [.check, .autoOff]) = s.setNotices [.check, .autoOff] := by
    have hrun : (s.setNotices [.check, .autoOff]).sch.run = none := hr
    rw [takeNotice, transportReport, hrun]
  have hcheck : takeNotice .check (s.setNotices [.autoOff]) = s.setNotices [.autoOff] := prerollCheck_idle hr hq
  have hauto : takeNotice .autoOff (s.setNotices []) = s := by
    rw [State.setNotices_self hn, takeNotice, testAutoOff, ha]
    rfl
  have htold : (notify .autoOff (notify .check (notify (.transport .stop) s))).notices
      = [.transport .stop, .check, .autoOff] := by simp [notify, hn]
  calc settle (n + 3) (notify .autoOff (notify .check (notify (.transport .stop) s)))
      = settle (n + 2) (s.setNotices [.check, .autoOff]) := settle_takes (by rw [htold]; rfl) hstop
    _ = settle (n + 1) (s.setNotices [.autoOff]) := settle_takes rfl hcheck
    _ = settle n s := settle_takes rfl hauto
    _ = s := settle_idle n hn hr

end Sys2Proof.Machine
end

section
/-! LEMMA. A run that is ACTIVE ends (R125, R134, R139, R146). -/

namespace Sys2Proof.Machine

/-- The run of `c`, a once entry's, is ACTIVE and records, and nothing else stands in SCH's way. -/
structure OnceRecording (c : Run) (s : State) : Prop where
  run : s.sch.run = some c
  active : (entry c.entry s).state = .active
  once : progMask s.sch.prog c.entry = 0
  queue : s.sch.queue = []
  idle : NoneWaiting s
  owner : s.trc.owner = .schedule
  record : s.trc.st = .record
  pending : s.trc.pending = none
  autoOff : setAutoOff s.mpath.settings = false
  deferred : s.clk.deferred = none
  untold : NothingUntold s
  room : EventRoom 3 s
  drained : s.mpath.queue = []
  held : s.rqu.held = []

/-- R146: what the end of the run of `c` leaves, with `late` held by RQU behind TRANSPORT. -/
structure RunOver (c : Run) (o : EndOutcome) (r : Reason) (late : List WriteGroup) (s t : State) : Prop where
  sch : t.sch = { (setEntry c.entry ((entry c.entry s).over.concluded o) s).sch.logMoved with run := none }
  st : t.trc.st = .stop
  owner : t.trc.owner = .panel
  writing : t.trc.writing = false
  tun : t.tun = { s.tun with owner := .panel }
  clk : t.clk = { s.clk with running := false, retained := { s.clk.retained with valid := false } }
  counter : t.pos.counter = s.pos.counter
  row : t.srv.row = .still
  queue : t.mpath.queue =
    [eventGroupAt s 0 (evProgramme c.entry .ended o r), logGroup c.entry (runFacts c o r 0 s) s,
     eventGroupAt s 1 (evLogged s.sch.logSlot s.sch.logSeq c.entry),
     statusGroup c.entry ((entry c.entry s).over.concluded o)]
  settings : t.mpath.settings = s.mpath.settings
  held : t.rqu.held = eventGroupAt s 2 (evTransport .stop schOrigin) :: late
  count : t.rqu.count = s.rqu.count + 3
  newest : t.rqu.newest = evTransport .stop schOrigin
  frame : SameBut [.sch, .trc, .srv, .pos, .tun, .clk, .mem, .mpath, .rqu] s t

theorem setRqu_frame (s : State) (x : Rqu) : SameBut [.rqu] s (s.setRqu x) := by
  intro p hp; cases p <;> simp_all [Part.same]

section
variable {c : Run} {o : EndOutcome} {r : Reason} {late : List WriteGroup} {s t : State} (h : RunOver c o r late s t)
include h

theorem RunOver.entrySet : EntrySet c.entry ((entry c.entry s).over.concluded o) s t :=
  entrySet_of_entries (by rw [h.sch])

/-- R127: with no entry waiting, the timer queue is empty. -/
theorem RunOver.queueNil (hn : NoneWaiting s) : t.sch.queue = [] := by
  have hset : EntrySet c.entry ((entry c.entry s).over.concluded o) s
      (setEntry c.entry ((entry c.entry s).over.concluded o) s) := entrySet_of_entries rfl
  rw [h.sch]
  exact (setEntry_sorted c.entry _ s).queue_nil (hset.noneWaiting fun j _ => hn j)

/-- The end of the event changes nothing of it. -/
theorem RunOver.ended (hu : NothingUntold s) (ran : Bool) : RunOver c o r late s (Machine.ended ran t) :=
  { h with frame := (ended_frame hu h.frame (by decide) (by decide)).mono (by simp) }

/-- The same of the end of a host cycle. -/
theorem RunOver.closed : RunOver c o r late s (closeCycle t) :=
  { h with frame := h.frame.with ((closeCycle_frame t).mono (by simp)) }

/-- R169: the result is held behind TRANSPORT. -/
theorem RunOver.answered (hl : late = []) (a : Answer) (tag : Byte) :
    RunOver c o r [resultGroup a tag] s (makeResult a tag t) := by
  subst hl
  rw [makeResult_full (by rw [h.queue]; rfl) (by rw [h.held]; simpa using eventGroupAt_start_ne _ _ _)]
  exact
    { h with
      held := by
        show t.rqu.held ++ _ = _
        rw [h.held]
        rfl
      frame := (h.frame.with ((setRqu_frame t _).mono (by simp))).with ((setMpath_frame _ _).mono (by simp)) }

end

/-- R146: the state in which SCH has told the end of the run, and the tape still moves. -/
def runConcluded (c : Run) (o : EndOutcome) (r : Reason) (s : State) : State :=
  conclude c.entry (entry c.entry s).over (runFacts c o r 0 s) s

section
variable {c : Run} {s : State} (h : OnceRecording c s) (o : EndOutcome) (r : Reason)
include h

/-- R146, steps 1 to 3: what the end of the run posts and hands. -/
theorem OnceRecording.concluded :
    Handing [.sch] [evProgramme c.entry .ended o r, evLogged s.sch.logSlot s.sch.logSeq c.entry]
        [eventGroupAt s 0 (evProgramme c.entry .ended o r), logGroup c.entry (runFacts c o r 0 s) s,
         eventGroupAt s 1 (evLogged s.sch.logSlot s.sch.logSeq c.entry),
         statusGroup c.entry ((entry c.entry s).over.concluded o)] s (runConcluded c o r s)
      ∧ (runConcluded c o r s).sch = (setEntry c.entry ((entry c.entry s).over.concluded o) s).sch.logMoved := by
  obtain ⟨hw, hsch, -⟩ := (Handing.start [.sch] s).concludes c.entry (entry c.entry s).over (runFacts c o r 0 s)
    h.room h.drained rfl
  exact ⟨hw, hsch⟩

/-- R146: the end of the run is its conclusion, the release, and what SCH is told of them. -/
theorem OnceRecording.endRun : Machine.endRun o r 0 s =
    notify .autoOff (notify .check (notify (.transport .stop) (handedBack (tapeStopped (runConcluded c o r s))))) := by
  obtain ⟨hw, -⟩ := h.concluded o r
  have hconclude : concludeRun c o r 0 s = runConcluded c o r s := by
    rw [concludeRun, movedOn_once h.once]
    rfl
  have hend : Machine.endRun o r 0 s =
      notify .autoOff (notify .check (releaseRun (started (entry c.entry s).state) (concludeRun c o r 0 s))) := by
    rw [Machine.endRun, h.run]
  have hstarted : started (entry c.entry s).state = true := by rw [h.active]; rfl
  have htrc : (runConcluded c o r s).trc = s.trc := hw.frame .trc (by decide)
  have hclk : (runConcluded c o r s).clk = s.clk := hw.frame .clk (by decide)
  have hcount := h.room.count
  rw [hend, hstarted, hconclude, releaseRun_record (by rw [htrc, h.owner]) (by rw [htrc, h.record])
    (by rw [htrc, h.pending]) (by rw [hclk, h.deferred]) (by rw [hw.rqu]; exact h.room.overflow)
    (by rw [hw.rqu]; simp only [List.length_cons, List.length_nil]; omega)
    (by rw [hw.mpath, h.drained]; rfl)]

/-- R146: what the end of the run leaves. -/
theorem OnceRecording.over : RunOver c o r [] s (handedBack (tapeStopped (runConcluded c o r s))) := by
  obtain ⟨hw, hsch⟩ := h.concluded o r
  generalize runConcluded c o r s = u at *
  obtain ⟨hst, -, -, hwriting, -⟩ := tapeStopped_trc u
  have hcounter := tapeStopped_counter u
  have hrow := tapeStopped_row u
  have hrqu := tapeStopped_rqu u
  have hmpath := tapeStopped_mpath u
  have hstopped := tapeStopped_frame u
  generalize tapeStopped u = w at *
  have hwsch : w.sch = _ := (hstopped .sch (by decide)).trans hsch
  have hwtun : w.tun = s.tun := (hstopped .tun (by decide)).trans (hw.frame .tun (by decide))
  have hwclk : w.clk = s.clk := (hstopped .clk (by decide)).trans (hw.frame .clk (by decide))
  have hupos : u.pos = s.pos := hw.frame .pos (by decide)
  have huclk : u.clk = s.clk := hw.frame .clk (by decide)
  have hgroup : eventGroupAt u 0 (evTransport .stop schOrigin) = eventGroupAt s 2 (evTransport .stop schOrigin) := by
    simp [eventGroupAt, hw.rqu, huclk]
  have hrqu' : (handedBack w).rqu = w.rqu := rfl
  have hmpath' : (handedBack w).mpath = w.mpath := rfl
  exact
    { sch := by rw [← hwsch]; rfl
      st := hst
      owner := rfl
      writing := hwriting
      tun := by rw [← hwtun]; rfl
      clk := by rw [← hwclk]; rfl
      counter := hcounter.trans (by rw [hupos])
      row := hrow
      queue := by rw [hmpath', hmpath, hw.mpath, h.drained]; rfl
      settings := by rw [hmpath', hmpath, hw.mpath]
      held := by rw [hrqu', hrqu, hw.rqu, ← hgroup]; simp [h.held]
      count := by rw [hrqu', hrqu, hw.rqu]; rfl
      newest := by rw [hrqu', hrqu]
      frame := ((hw.frame.mono (by simp)).with (hstopped.mono (by simp))).with ((handedBack_frame w).mono (by simp)) }

/-- R132, R149: what SCH is told of the end moves nothing more. -/
theorem OnceRecording.settles : settle Config.chainFuel (Machine.endRun o r 0 s)
    = handedBack (tapeStopped (runConcluded c o r s)) := by
  have hover := h.over o r
  rw [h.endRun]
  generalize handedBack (tapeStopped (runConcluded c o r s)) = v at *
  exact settle_afterEnd 125 ((hover.frame .untold (by decide)).1.trans h.untold.1) (by rw [hover.sch])
    (hover.queueNil h.idle) (by rw [hover.settings, h.autoOff])

end

end Sys2Proof.Machine
end

section
/-! LEMMA. The ends of a run: ABORT, its stop and the label overrun limit (R125, R134, R139, R146). -/

namespace Sys2Proof.Machine

theorem HostRuns.steady {s : State} (h : HostRuns s) : PowerSteady s :=
  ⟨by rw [h.power]; decide, by rw [h.phase]; decide, by rw [h.phase]; decide⟩

theorem makeResult_frame (a : Answer) (tag : Byte) (s : State) : SameBut [.rqu, .mpath] s (makeResult a tag s) := by
  intro p hp
  unfold makeResult offerRqu
  dsimp only
  split
  · cases p <;> simp_all [Part.same, enqueue]
  · split <;> cases p <;> simp_all [Part.same, askSlot]

/-! ### The rows -/

section
variable {c : Run} {s : State} (h : OnceRecording c s)
include h

theorem OnceRecording.over_mem (o : EndOutcome) (r : Reason) :
    (handedBack (tapeStopped (runConcluded c o r s))).mem = s.mem := by
  obtain ⟨hw, -⟩ := h.concluded o r
  exact ((handedBack_frame _ .mem (by decide)).trans (tapeStopped_frame _ .mem (by decide))).trans (hw.frame .mem (by decide))

/-- R134: at its stop the run of a full occurrence that nothing continues ends COMPLETE. -/
theorem OnceRecording.exec_stop (hl : c.label = false) (hs : c.stop ≤ clockNow s) (hshort : c.short = false) :
    exec .occurrenceStopReached s = command (fun _ => Machine.endRun .complete .none 0 s) s := by
  have hcontinues : continues c s = none := by rw [continues, h.queue]; rfl
  have hend : endWell s = Machine.endRun .complete .none 0 s := by
    simp only [endWell, h.run, hshort, Bool.false_eq_true, if_false]
  have htests : clockTests c s = Machine.endRun .complete .none 0 s := by
    rw [clockTests, h.active, hcontinues, ← hend]
    exact if_pos hs
  refine command_of ?_
  simp only [h.run, htests]
  exact if_pos (by simp [hl, hs])

/-- R139: at the label overrun limit the run ends TRUNCATED, OVERRUN. -/
theorem OnceRecording.exec_overrun (hl : c.label = true) (hs : c.stop + 10800 ≤ clockNow s) :
    exec .labelOverrunLimit s = command (fun _ => Machine.endRun .truncated .overrun 0 s) s := by
  have hlate : c.stop + Config.overrunLimit ≤ clockNow s := hs
  have htests : labelTests c s = Machine.endRun .truncated .overrun 0 s := by
    rw [labelTests, h.active]
    exact if_pos (decide_eq_true hlate)
  refine command_of ?_
  simp only [h.run, htests]
  exact if_pos (by simp [hl, hlate])

/-! ### The ends -/

/-- R146: a command that ends the run. -/
theorem OnceRecording.ends {cmd : Instr} {o : EndOutcome} {r : Reason} (hh : HostRuns s)
    (hx : exec cmd s = command (fun _ => Machine.endRun o r 0 s) s) :
    ∃ t, exec cmd s = .next t ∧ RunOver c o r [] s t ∧ t.mem = s.mem := by
  have hover := h.over o r
  have hset := h.settles o r
  have hmem := h.over_mem o r
  generalize handedBack (tapeStopped (runConcluded c o r s)) = v at *
  have hpwr : v.pwr = s.pwr := hover.frame .pwr (by decide)
  exact ⟨_, hx.trans (hh.steady.command_settles (f := fun _ => Machine.endRun o r 0 s) hset hpwr),
    hover.ended h.untold _, hmem⟩

/-- R125: ABORT ends the run ABORTED, HOST; DONE. -/
theorem OnceRecording.aborts (hh : HostRuns s) : ∃ t, exec .abort s = .next t
    ∧ RunOver c .aborted .host [resultGroup (answer .done) s.rqu.tag] s t
    ∧ RamWritten (windowBase s + 0x017) 0x45 s t := by
  have ha : OnceRecording c (atRequest 0x45 s) :=
    { h with
      untold := ⟨h.untold.1, h.untold.2⟩
      room := ⟨h.room.overflow, h.room.count⟩
      drained := h.drained }
  have hover := ha.over .aborted .host
  have hset := ha.settles .aborted .host
  have hmem := ha.over_mem .aborted .host
  generalize handedBack (tapeStopped (runConcluded c .aborted .host (atRequest 0x45 s))) = v at *
  have hacts : ownerActs 0x45 (atRequest 0x45 s) =
      some (Machine.endRun .aborted .host 0 (atRequest 0x45 s), answer .done) := by
    have habort : requestAbort (atRequest 0x45 s) =
        (Machine.endRun .aborted .host 0 (atRequest 0x45 s), answer .done) := by rw [requestAbort, ha.run]
    exact congrArg some habort
  have hrequest : request 0x45 (atRequest 0x45 s) = makeResult (answer .done) s.rqu.tag v := by
    have hcode : isTransportCode 0x45 = false := by decide
    simp only [request, hacts, hcode, Bool.false_and, Bool.false_eq_true, if_false]
    rw [hset, atRequest_rqu]
  have hdone := hover.answered rfl (answer .done) s.rqu.tag
  have hwmem : (makeResult (answer .done) s.rqu.tag v).mem = (atRequest 0x45 s).mem :=
    (makeResult_frame _ _ v .mem (by decide)).trans hmem
  have hcycle := hostCycle_request hh 0x45
  rw [hrequest] at hcycle
  generalize makeResult (answer .done) s.rqu.tag v = w at *
  have hphase : w.pwr.phase = .running := (congrArg Pwr.phase (hdone.frame .pwr (by decide))).trans hh.phase
  have hrest : settle Config.chainFuel w = w :=
    settle_idle _ ((hdone.frame .untold (by decide)).1.trans h.untold.1) (by rw [hdone.sch])
  rw [hrest, finish_steady (by rw [hphase]; decide) (by rw [hphase]; decide)] at hcycle
  have hend := (hdone.ended ha.untold true).closed
  refine ⟨closeCycle (Machine.ended true w), hcycle, { hend with
    frame := ((atRequest_frame 0x45 s).mono (by simp)).with hend.frame }, ?_, fun x hx => ?_⟩
  · show w.mem.read _ = _
    rw [hwmem]
    exact Memory.read_write_same hh.ram _ _
  · show w.mem.read x = _
    rw [hwmem]
    exact Memory.read_write_other _ _ hx

end

end Sys2Proof.Machine

open Sys2Proof Sys2Proof.Machine

/-- Settles O54: each of the three rows is the end of the run, whose conclusion fills the posted-write queue, so that TRANSPORT
and ABORT's result wait in RQU; what SCH is told of the end then moves nothing more. -/
theorem runsEndWithTheirOutcome : Obligations.RunsEndWithTheirOutcome := by
  intro cmd o r s c hcmd hh hu hroom hheld hrun hactive honce hqueue hidle howner hst hpending _ hauto hdeferred hshort
    hstop hover
  have h : OnceRecording c s := ⟨hrun, hactive, honce, hqueue, hidle, howner, hst, hpending, hauto, hdeferred, hu, hroom,
    hh.drained.queue, hheld⟩
  have hend : ∃ t, exec cmd s = .next t
      ∧ RunOver c o r (if cmd = .abort then [resultGroup (answer .done) s.rqu.tag] else []) s t
      ∧ (cmd ≠ .abort → t.mem = s.mem) ∧ (cmd = .abort → RamWritten (windowBase s + 0x017) 0x45 s t) := by
    simp only [List.mem_cons, Prod.mk.injEq, List.not_mem_nil, or_false] at hcmd
    rcases hcmd with ⟨rfl, rfl, rfl⟩ | ⟨rfl, rfl, rfl⟩ | ⟨rfl, rfl, rfl⟩
    · obtain ⟨t, hx, ht, hmem⟩ := h.aborts hh
      exact ⟨t, hx, ht, fun hne => absurd rfl hne, fun _ => hmem⟩
    · obtain ⟨hl, hs⟩ := hstop rfl
      obtain ⟨t, hx, ht, hmem⟩ := h.ends hh (h.exec_stop hl hs hshort)
      exact ⟨t, hx, ht, fun _ => hmem, nofun⟩
    · obtain ⟨hl, hs⟩ := hover rfl
      obtain ⟨t, hx, ht, hmem⟩ := h.ends hh (h.exec_overrun hl hs)
      exact ⟨t, hx, ht, fun _ => hmem, nofun⟩
  obtain ⟨t, hx, ht, hkept, hwritten⟩ := hend
  refine ⟨t, hx, by rw [ht.sch], ht.queueNil hidle, ?_, ht.entrySet, ?_, ?_, ht.st, ht.owner, ht.writing, ht.tun, ht.clk,
    ht.counter, ht.row, ?_, ht.held, ht.count, ht.newest, hkept, hwritten, ht.frame⟩
  iterate 3
    · rw [ht.sch]
      rfl
  · rw [ht.queue, ht.entrySet.1]
    rfl

end

section
/-! SUPPORT. R151, R154, R162, R163, R167, R171, R172: what keeps the RAM and the shadows canonical and the queues within their
sizes, and each shared operation over them. -/

namespace Sys2Proof.Machine

/-! ### What `MemoriesWf` and `QueuesWf` speak of -/

/-- The RAM and the shadows. -/
structure Memories where
  mem : Memory
  settings : Memory
  profiles : Memory
  presets : Memory
  prog : Memory

/-- The posted-write queue and the event queue. -/
structure Queues where
  posted : List WriteGroup
  head : Nat
  headSeq : Nat
  count : Nat
  overflow : Option Nat
  refused : Nat

/-- The RAM and the shadows of a machine. -/
def State.memories (s : State) : Memories := ⟨s.mem, s.mpath.settings, s.pos.profiles, s.tun.presets, s.sch.prog⟩

/-- The queues of a machine. -/
def State.queues (s : State) : Queues :=
  ⟨s.mpath.queue, s.rqu.head, s.rqu.headSeq, s.rqu.count, s.rqu.overflow, s.rqu.refused⟩

/-- Both. -/
def State.stores (s : State) : Memories × Queues := (s.memories, s.queues)

theorem MemoriesWf.of_eq {s t : State} (h : MemoriesWf s) (e : t.memories = s.memories) : MemoriesWf t := by
  have hm : t.mem = s.mem := congrArg Memories.mem e
  have hs : t.mpath.settings = s.mpath.settings := congrArg Memories.settings e
  have hf : t.pos.profiles = s.pos.profiles := congrArg Memories.profiles e
  have hp : t.tun.presets = s.tun.presets := congrArg Memories.presets e
  have hg : t.sch.prog = s.sch.prog := congrArg Memories.prog e
  exact ⟨hm ▸ h.mem, hs ▸ h.settings, hf ▸ h.profiles, hp ▸ h.presets, hg ▸ h.prog⟩

theorem QueuesWf.of_eq {s t : State} (h : QueuesWf s) (e : t.queues = s.queues) : QueuesWf t := by
  have hp : t.mpath.queue = s.mpath.queue := congrArg Queues.posted e
  have hh : t.rqu.head = s.rqu.head := congrArg Queues.head e
  have hs : t.rqu.headSeq = s.rqu.headSeq := congrArg Queues.headSeq e
  have hc : t.rqu.count = s.rqu.count := congrArg Queues.count e
  have ho : t.rqu.overflow = s.rqu.overflow := congrArg Queues.overflow e
  have hr : t.rqu.refused = s.rqu.refused := congrArg Queues.refused e
  exact ⟨hp ▸ h.posted, hh ▸ h.head, hs ▸ h.headSeq, hc ▸ h.count, fun hn => hc ▸ h.full (ho ▸ hn), hr ▸ h.refused⟩

/-- R167, R171, R172: what `QueuesWf` says of the event queue. -/
structure Rqu.Wf (q : Rqu) : Prop where
  head : q.head < 32
  headSeq : q.headSeq < 256
  count : q.count ≤ 32
  full : q.overflow = none → q.count ≤ 31
  refused : q.refused ≤ 255

theorem queuesWf_iff (s : State) : QueuesWf s ↔ s.mpath.queue.length ≤ 4 ∧ s.rqu.Wf :=
  ⟨fun h => ⟨h.posted, h.head, h.headSeq, h.count, h.full, h.refused⟩,
    fun ⟨hp, hr⟩ => ⟨hp, hr.head, hr.headSeq, hr.count, hr.full, hr.refused⟩⟩

/-! ### What is kept -/

/-- Between the machines `r` and `s` canonical memories are kept, and queues within their sizes. -/
structure Kept (r s : State) : Prop where
  memories : MemoriesWf r → MemoriesWf s
  queues : QueuesWf r → QueuesWf s

protected theorem Kept.refl (s : State) : Kept s s := ⟨id, id⟩

section
variable {r s t : State}

/-- Work on anything but the memories and the queues. (A use gives the equation as `by rfl`, which waits until `t` is known.) -/
protected theorem Kept.same (h : Kept r s) (e : t.stores = s.stores) : Kept r t :=
  ⟨fun hr => (h.memories hr).of_eq (congrArg Prod.fst e), fun hr => (h.queues hr).of_eq (congrArg Prod.snd e)⟩

/-- Work on the memories. -/
protected theorem Kept.written (h : Kept r s) (eq : t.queues = s.queues) (hm : MemoriesWf s → MemoriesWf t) : Kept r t :=
  ⟨fun hr => hm (h.memories hr), fun hr => (h.queues hr).of_eq eq⟩

/-- Work on the queues. -/
protected theorem Kept.queued (h : Kept r s) (em : t.memories = s.memories) (hq : QueuesWf s → QueuesWf t) : Kept r t :=
  ⟨fun hr => (h.memories hr).of_eq em, fun hr => hq (h.queues hr)⟩

/-- An operation whose frame holds every part with a memory or a queue in it; of POS, the profile shadow. -/
protected theorem Kept.frame {ps : List Part} (h : Kept r s) (hf : SameBut ps s t) (hpos : t.pos.profiles = s.pos.profiles)
    (hp : .mem ∉ ps ∧ .tun ∉ ps ∧ .sch ∉ ps ∧ .mpath ∉ ps ∧ .rqu ∉ ps) : Kept r t := by
  obtain ⟨hmem, htun, hsch, hmpath, hrqu⟩ := hp
  have emem : t.mem = s.mem := hf .mem hmem
  have etun : t.tun = s.tun := hf .tun htun
  have esch : t.sch = s.sch := hf .sch hsch
  have empath : t.mpath = s.mpath := hf .mpath hmpath
  have erqu : t.rqu = s.rqu := hf .rqu hrqu
  refine h.same ?_
  simp only [State.stores, State.memories, State.queues, emem, etun, esch, empath, erqu, hpos]

/-- An operation of two branches. -/
protected theorem Kept.ite {c : Prop} [Decidable c] (hs : Kept r s) (ht : Kept r t) : Kept r (if c then s else t) :=
  iteInduction (motive := Kept r) (fun _ => hs) fun _ => ht

/-- The same, with the condition that each branch stands under. -/
protected theorem Kept.ite_of {c : Prop} [Decidable c] (hs : c → Kept r s) (ht : ¬ c → Kept r t) :
    Kept r (if c then s else t) := iteInduction (motive := Kept r) hs ht

/-- An operation of two branches that answers. -/
protected theorem Kept.ite_fst {α : Type} {c : Prop} [Decidable c] {p q : State × α} (hp : Kept r p.1) (hq : Kept r q.1) :
    Kept r (if c then p else q).1 := iteInduction (motive := fun x : State × α => Kept r x.1) (fun _ => hp) fun _ => hq

/-- An operation that answers. -/
protected theorem Kept.answers {α : Type} {a : α} (h : Kept r s) : Kept r (s, a).1 := h

/-! ### One memory or one queue is written -/

protected theorem Kept.setMem {m : Memory} (h : Kept r s) (hm : MemoriesWf s → m.wf = true) : Kept r (s.setMem m) :=
  h.written rfl fun hs => ⟨hm hs, hs.settings, hs.profiles, hs.presets, hs.prog⟩

protected theorem Kept.setSettings {m : Memory} (h : Kept r s) (hm : MemoriesWf s → m.wf = true) :
    Kept r (s.setMpath { s.mpath with settings := m }) :=
  h.written rfl fun hs => ⟨hs.mem, hm hs, hs.profiles, hs.presets, hs.prog⟩

protected theorem Kept.setPos {x : Pos} (h : Kept r s) (hx : MemoriesWf s → x.profiles.wf = true) : Kept r (s.setPos x) :=
  h.written rfl fun hs => ⟨hs.mem, hs.settings, hx hs, hs.presets, hs.prog⟩

protected theorem Kept.setTun {x : Tun} (h : Kept r s) (hx : MemoriesWf s → x.presets.wf = true) : Kept r (s.setTun x) :=
  h.written rfl fun hs => ⟨hs.mem, hs.settings, hs.profiles, hx hs, hs.prog⟩

protected theorem Kept.setSch {x : Sch} (h : Kept r s) (hx : MemoriesWf s → x.prog.wf = true) : Kept r (s.setSch x) :=
  h.written rfl fun hs => ⟨hs.mem, hs.settings, hs.profiles, hs.presets, hx hs⟩

/-- Groups leave the queue. -/
protected theorem Kept.setQueue {q : List WriteGroup} (h : Kept r s) (hq : q.length ≤ s.mpath.queue.length) :
    Kept r (s.setMpath { s.mpath with queue := q }) :=
  h.queued rfl fun hs => ⟨hq.trans hs.posted, hs.head, hs.headSeq, hs.count, hs.full, hs.refused⟩

/-- R162: a group joins a queue that has room. -/
protected theorem Kept.enqueue {g : WriteGroup} (h : Kept r s) (hroom : queueHasRoom s = true) : Kept r (enqueue g s) := by
  have hlt : s.mpath.queue.length < 4 := of_decide_eq_true hroom
  refine h.queued rfl fun hs => ⟨?_, hs.head, hs.headSeq, hs.count, hs.full, hs.refused⟩
  simpa using hlt

protected theorem Kept.setRqu {q : Rqu} (h : Kept r s) (hq : s.rqu.Wf → q.Wf) : Kept r (s.setRqu q) :=
  h.queued rfl fun hs =>
    have ⟨hp, hr⟩ := (queuesWf_iff s).1 hs
    (queuesWf_iff _).2 ⟨hp, hq hr⟩

/-! ### Other blocks are written, and SCH is told -/

protected theorem Kept.setNow {x : Nat} (h : Kept r s) : Kept r (s.setNow x) := h.same (by rfl)
protected theorem Kept.setTrc {x : Trc} (h : Kept r s) : Kept r (s.setTrc x) := h.same (by rfl)
protected theorem Kept.setSrv {x : Srv} (h : Kept r s) : Kept r (s.setSrv x) := h.same (by rfl)
protected theorem Kept.setClk {x : Clk} (h : Kept r s) : Kept r (s.setClk x) := h.same (by rfl)
protected theorem Kept.setPins {x : Pins} (h : Kept r s) : Kept r (s.setPins x) := h.same (by rfl)
protected theorem Kept.setLds {x : Lds} (h : Kept r s) : Kept r (s.setLds x) := h.same (by rfl)
protected theorem Kept.setPwr {x : Pwr} (h : Kept r s) : Kept r (s.setPwr x) := h.same (by rfl)
protected theorem Kept.notify {n : Notice} (h : Kept r s) : Kept r (notify n s) := h.same (by rfl)

/-! ### The RAM and the posted-write queue -/

protected theorem Kept.writeRegion {off : Nat} {v : Byte} (h : Kept r s) : Kept r (writeRegion off v s) :=
  h.setMem fun hs => Memory.wf_write hs.mem _ _

protected theorem Kept.groupLeft {g : WriteGroup} (h : Kept r s) : Kept r (groupLeft g s) := .ite (h.same (by rfl)) h

protected theorem Kept.groupsLeft {gs : List WriteGroup} (h : Kept r s) : Kept r (groupsLeft gs s) := by
  induction gs generalizing s with
  | nil => exact h
  | cons g rest ih => exact ih h.groupLeft

/-- R164: no group joins while pending marks are cleared. -/
protected theorem Kept.clearPending {off : Nat} (h : Kept r s) : Kept r (clearPending off s) :=
  (h.setQueue ((List.length_filter_le _ _).trans (List.length_map _).le)).groupsLeft

/-- R163: the queue keeps its groups or loses the oldest. -/
protected theorem Kept.drainByte (h : Kept r s) : Kept r (drainByte s) := by
  unfold drainByte
  split
  · exact h
  · rename_i g rest hqueue
    have hlost : rest.length ≤ s.mpath.queue.length := by rw [hqueue]; exact Nat.le_succ _
    split
    · exact (h.setQueue hlost).groupLeft
    · exact .ite (h.writeRegion.setQueue (by rw [show (writeRegion _ _ s).mpath.queue = _ from hqueue]; rfl))
        (h.writeRegion.setQueue hlost).groupLeft

/-! ### The event queue -/

protected theorem Kept.offerRqu {g : WriteGroup} (h : Kept r s) : Kept r (offerRqu g s) :=
  .ite_of h.enqueue fun _ => h.same (by rfl)

/-- R172: the OVERFLOW may be marked before its entry is handed. -/
theorem offerRqu_overflow (g : WriteGroup) (slot : Nat) (s : State) :
    (offerRqu g s).setRqu { (offerRqu g s).rqu with overflow := some slot, refused := 1 }
      = offerRqu g (s.setRqu { s.rqu with overflow := some slot, refused := 1 }) := by
  have hsame (q : Rqu) : queueHasRoom (s.setRqu q) = queueHasRoom s := rfl
  simp only [offerRqu, hsame]
  split <;> rfl

/-- R171, R172: an event joins at the tail; the 32nd entry is the OVERFLOW. -/
protected theorem Kept.post {e : Event} (h : Kept r s) : Kept r (post e s) := by
  unfold Machine.post
  split
  · exact h.setRqu fun hq => ⟨hq.head, hq.headSeq, hq.count, hq.full, Nat.min_le_left _ _⟩
  · rename_i hover
    split
    · rename_i hcount
      have hlt : s.rqu.count + 1 ≤ 31 := Nat.succ_le_succ hcount
      exact Kept.offerRqu (h.setRqu fun hq => ⟨hq.head, hq.headSeq, Nat.le_succ_of_le hlt, fun _ => hlt, hq.refused⟩)
    · dsimp only [appendEvent]
      rw [offerRqu_overflow]
      exact Kept.offerRqu (h.setRqu fun hq =>
        ⟨hq.head, hq.headSeq, Nat.succ_le_succ (hq.full hover), nofun, (by decide : 1 ≤ 255)⟩)

/-- R173: an acknowledgement moves the head on; with the OVERFLOW entry the overflow goes. -/
protected theorem Kept.acknowledge {seq : Byte} (h : Kept r s) : Kept r (acknowledge seq s) := by
  refine .ite (h.setRqu fun hq => ⟨Nat.mod_lt _ (by decide), Nat.mod_lt _ (by decide), ?_, fun _ => ?_, ?_⟩) h
  · exact (Nat.sub_le _ _).trans hq.count
  · exact Nat.sub_le_of_le_add hq.count
  · dsimp only
    split
    · exact Nat.zero_le _
    · exact hq.refused

protected theorem Kept.makeResult {a : Answer} {tag : Byte} (h : Kept r s) : Kept r (makeResult a tag s) :=
  .ite_of h.enqueue fun _ => .ite (h.same (by rfl)) h.offerRqu

end

end Sys2Proof.Machine
end

section
/-! SUPPORT. R151, R154, R162, R163, R171: every operation of CLK, TUN, TRC and PWR keeps the memories canonical and the queues
within their sizes (`Kept`). One lemma per operation, in the order of the model's definitions. -/

namespace Sys2Proof.Machine

section
variable {r s : State} (h : Kept r s)
include h

/-! ### The clock -/

protected theorem Kept.applyStep {subject source : Byte} {new : DateTime} {limit : Bool} :
    Kept r (applyStep subject source new limit s) := h.setClk.post.notify

protected theorem Kept.broadcastStep {subject : Byte} {d : Int} : Kept r (broadcastStep subject d s) := by
  unfold Machine.broadcastStep
  exact .ite h.applyStep h.applyStep

@[simp] protected theorem Kept.requestSetTime : Kept r (requestSetTime s).1 := by
  unfold Machine.requestSetTime
  split
  · exact h
  · exact .ite_fst h h.setClk.applyStep

protected theorem Kept.deferStep {d : Int} : Kept r (deferStep d s) := .ite h (Kept.post (h.same (by rfl)))

protected theorem Kept.confirm {d code : Int} : Kept r (confirm d code s) :=
  have hs : Kept r (s.setClk { s.clk with code := some code, sample := none }) := h.same (by rfl)
  .ite hs.broadcastStep (.ite (hs.same (by rfl)) (.ite hs.deferStep hs.broadcastStep))

protected theorem Kept.meetSample {d code : Int} : Kept r (meetSample d code s) := by
  unfold Machine.meetSample
  split
  · exact h.same (by rfl)
  · exact .ite h.confirm (h.same (by rfl))

protected theorem Kept.timePacket {year month day hour minute second code : Byte} :
    Kept r (timePacket year month day hour minute second code s) := .ite (h.same (by rfl)) (.ite h.meetSample h)

protected theorem Kept.reportNotRunning : Kept r (reportNotRunning s) := by
  unfold Machine.reportNotRunning
  refine .ite ?_ h
  dsimp only
  split
  · exact h.same (by rfl)
  · exact Kept.broadcastStep (h.same (by rfl))

protected theorem Kept.postInvalid : Kept r (postInvalid s) := .ite h h.post

/-! ### The tuner: words, tunes and scans -/

protected theorem Kept.sendWord : Kept r (sendWord s) := by
  unfold Machine.sendWord
  refine .ite h ?_
  dsimp only
  split <;> exact h.same (by rfl)

protected theorem Kept.tunEnter {st : TunerState} : Kept r (tunEnter st s) :=
  .ite (h.same (by rfl)) (.ite (h.same (by rfl)) (h.same (by rfl)))

protected theorem Kept.settleOrHold : Kept r (settleOrHold s) := .ite h.tunEnter.sendWord h.tunEnter

protected theorem Kept.tuneDirect {n : Nat} {tag : Byte} : Kept r (tuneDirect n tag s) := Kept.settleOrHold (h.same (by rfl))

protected theorem Kept.tunePreset {n : Nat} {tag : Byte} : Kept r (tunePreset n tag s) := Kept.settleOrHold (h.same (by rfl))

protected theorem Kept.tuneLine : Kept r (tuneLine s) := Kept.tunEnter (h.same (by rfl))

protected theorem Kept.dropStation : Kept r (dropStation s) := .ite (h.same (by rfl)) h

protected theorem Kept.closeScan {code : Byte} : Kept r (closeScan code s) := by
  unfold Machine.closeScan
  split
  · exact h
  · exact (Kept.dropStation (h.same (by rfl))).post

protected theorem Kept.endScan {code : Byte} : Kept r (endScan code s) := h.closeScan.tuneDirect

protected theorem Kept.railScan : Kept r (railScan s) := Kept.tunEnter (h.closeScan.same (by rfl))

protected theorem Kept.scanTo {n : Int} : Kept r (scanTo n s) := by
  unfold Machine.scanTo
  split
  · exact h
  · exact .ite (Kept.tunEnter (h.same (by rfl))).sendWord h.endScan

protected theorem Kept.scanNext : Kept r (scanNext s) := by
  unfold Machine.scanNext
  split
  · exact h
  · exact h.scanTo

protected theorem Kept.scanResume {l : Int} : Kept r (scanResume l s) := by
  unfold Machine.scanResume
  split
  · exact h
  · exact h.scanTo

/-! ### The tuner: writes to the preset table -/

/-- R77, R83, R85: the shadow takes what TUN hands. -/
protected theorem Kept.handTun {w : TunHeld} (hroom : queueHasRoom s = true) : Kept r (handTun w s) := by
  have hg (g : WriteGroup) := h.enqueue (g := g) hroom
  unfold Machine.handTun
  split
  · exact (hg _).setTun fun hs => Memory.wf_write hs.presets _ _
  · exact (hg _).setTun fun hs => Memory.wf_writeAll hs.presets _ _
  · split
    · exact h
    · exact h.endScan
    · exact ((hg _).setTun fun hs => Memory.wf_writeAll hs.presets _ _).post.scanResume

protected theorem Kept.offerTun {w : TunHeld} : Kept r (offerTun w s) := .ite_of h.handTun fun _ => h.same (by rfl)

protected theorem Kept.offerOffset {n : Nat} {v : Byte} : Kept r (offerOffset n v s) := .ite (h.same (by rfl)) h.offerTun

protected theorem Kept.writeOffset : Kept r (writeOffset s) := by
  unfold Machine.writeOffset
  split
  · exact .ite h.offerOffset h
  · exact h

protected theorem Kept.dropHeldOffset {n : Nat} : Kept r (dropHeldOffset n s) := .ite (h.same (by rfl)) h

protected theorem Kept.makeStation {net : Nat} {name : List Byte} : Kept r (makeStation net name s) := by
  unfold Machine.makeStation
  split
  · exact h
  · exact Kept.offerTun (h.same (by rfl))

/-! ### The tuner: acquisition and tracking -/

protected theorem Kept.acquireFail {sync : Bool} : Kept r (acquireFail sync s) := by
  unfold Machine.acquireFail
  split
  · exact h.scanNext
  · exact .ite (Kept.tunEnter (h.same (by rfl))) (Kept.tunEnter (h.same (by rfl))).post

protected theorem Kept.acquireLock : Kept r (acquireLock s) := by
  unfold Machine.acquireLock
  split
  · exact .ite h.scanResume (Kept.tunEnter (h.same (by rfl)))
  · exact (Kept.tunEnter (h.same (by rfl))).writeOffset.post

protected theorem Kept.lastSample {x : Reading} : Kept r (lastSample x s) := .ite h.acquireFail h

protected theorem Kept.afcSample {x : Reading} : Kept r (afcSample x s) := by
  unfold Machine.afcSample
  dsimp only
  split
  · exact .ite (Kept.sendWord (h.same (by rfl))).lastSample (Kept.acquireFail (h.same (by rfl)))
  · exact .ite (.ite (Kept.acquireLock (h.same (by rfl))) (Kept.lastSample (h.same (by rfl))))
      (Kept.lastSample (h.same (by rfl)))

protected theorem Kept.startAcquire {x : Reading} : Kept r (startAcquire x s) := (Kept.tunEnter (h.same (by rfl))).afcSample

protected theorem Kept.signalLost {x : Reading} : Kept r (signalLost x s) := by
  unfold Machine.signalLost
  split
  · have hs : Kept r (post (evTune 4 0 s.tun.preset s.tun.offset) s) := h.post
    exact .ite (Kept.tunEnter (hs.same (by rfl))).tunEnter.makeStation (Kept.tunEnter (hs.same (by rfl))).tunEnter
  · have hs : Kept r (post (evTune 4 0 s.tun.preset s.tun.offset) s) := h.post
    exact Kept.startAcquire (hs.same (by rfl))

protected theorem Kept.trackStep {x : Reading} : Kept r (trackStep x s) := by
  unfold Machine.trackStep
  split
  · exact h
  · exact .ite (Kept.sendWord (h.same (by rfl))).writeOffset h

protected theorem Kept.trackSample {x : Reading} : Kept r (trackSample x s) :=
  .ite (.ite (Kept.signalLost (h.same (by rfl))) (h.same (by rfl))) <| .ite (h.same (by rfl)) <| .ite (h.same (by rfl)) <|
    .ite (Kept.trackStep (h.same (by rfl))) (h.same (by rfl))

/-! ### The tuner: requests, the rail and the tuner's own events -/

protected theorem Kept.takeTune {k : TuneKind} {value : Nat} {tag : Byte} : Kept r (takeTune k value tag s) := by
  cases k with
  | preset => exact h.closeScan.tunePreset
  | direct => exact h.closeScan.tuneDirect
  | line => exact h.closeScan.tuneLine

@[simp] protected theorem Kept.requestTune : Kept r (requestTune s).1 := by
  unfold Machine.requestTune
  split
  · exact h
  · split
    · exact h
    · exact h.takeTune

protected theorem Kept.takeScan {dir : ScanDir} {base : Nat} : Kept r (takeScan dir base s) :=
  .ite (Kept.tunEnter (h.same (by rfl))).sendWord (Kept.railScan (h.same (by rfl)))

@[simp] protected theorem Kept.requestScan : Kept r (requestScan s).1 := by
  unfold Machine.requestScan
  dsimp only
  split
  · exact h
  · exact .ite_fst h <| .ite_fst h <| .ite_fst h <| .ite_fst h h.takeScan

@[simp] protected theorem Kept.requestScanStop : Kept r (requestScanStop s).1 := .ite_fst h.endScan h

@[simp] protected theorem Kept.requestStore : Kept r (requestStore s).1 :=
  .ite_fst h <| .ite_fst h <| .ite_fst h <| .ite_fst h (h.offerTun.same (by rfl))

protected theorem Kept.takeFine {d : Int} : Kept r (takeFine d s) :=
  .ite (Kept.sendWord (h.same (by rfl))).writeOffset (h.same (by rfl))

@[simp] protected theorem Kept.requestFine : Kept r (requestFine s).1 := by
  unfold Machine.requestFine
  dsimp only
  split
  · exact h
  · exact .ite_fst h <| .ite_fst h <| .ite_fst h h.takeFine

protected theorem Kept.takeTuner : Kept r (takeTuner s) := Kept.closeScan (h.same (by rfl))

protected theorem Kept.tunerRailLost : Kept r (tunerRailLost s) := by
  unfold Machine.tunerRailLost
  refine .ite (Kept.railScan (h.same (by rfl))) ?_
  dsimp only
  split
  · exact Kept.railScan (h.same (by rfl))
  · exact Kept.tunEnter (h.same (by rfl))
  · exact Kept.tunEnter (h.same (by rfl))
  · exact h.same (by rfl)
  · exact h.same (by rfl)

protected theorem Kept.tunerRailGood : Kept r (tunerRailGood s) := .ite (Kept.settleOrHold (h.same (by rfl))) h

protected theorem Kept.wordEnd : Kept r (wordEnd s) := by
  unfold Machine.wordEnd
  split
  · exact h
  · exact h.same (by rfl)

protected theorem Kept.settleEnd {x : Reading} : Kept r (settleEnd x s) := .ite (Kept.startAcquire (h.same (by rfl))) h

protected theorem Kept.afcEvent {x : Reading} : Kept r (afcEvent x s) := .ite (Kept.afcSample (h.same (by rfl))) h

protected theorem Kept.trackEvent {x : Reading} : Kept r (trackEvent x s) := .ite (Kept.trackSample (h.same (by rfl))) h

protected theorem Kept.watchEvent {x : Reading} : Kept r (watchEvent x s) :=
  .ite (.ite (Kept.startAcquire (h.same (by rfl))) (h.same (by rfl))) h

protected theorem Kept.stepTest {x : Reading} : Kept r (stepTest x s) := by
  unfold Machine.stepTest
  split
  · exact h
  · exact .ite (.ite (Kept.startAcquire (h.same (by rfl))) (Kept.scanNext (h.same (by rfl)))) h

protected theorem Kept.dwellEnd : Kept r (dwellEnd s) := .ite h.makeStation h

protected theorem Kept.nameTake : Kept r (nameTake s) := by
  unfold Machine.nameTake
  refine .ite h ?_
  dsimp only
  split
  · exact .ite (Kept.makeStation (h.same (by rfl))) (h.same (by rfl))
  · exact h.same (by rfl)

end

end Sys2Proof.Machine
end

section
/-! SUPPORT. R151, R154, R162, R163, R171: every operation of TRC and PWR keeps the memories canonical and the queues within their
sizes. They touch no memory but the settings shadow, and post events. -/

namespace Sys2Proof.Machine

/-! ### POS keeps its profile shadow -/

section
variable (p : Pos)

@[simp] theorem Pos.capGained_profiles (now : Nat) : (p.capGained now).profiles = p.profiles := rfl
@[simp] theorem Pos.capLost_profiles (now : Nat) : (p.capLost now).profiles = p.profiles := rfl

@[simp] theorem Pos.count_profiles (limit d : Int) : (p.count limit d).profiles = p.profiles := by
  unfold Pos.count
  dsimp only
  split_ifs <;> rfl

@[simp] theorem Pos.beginWriting_profiles (limit : Int) (markDue : Bool) :
    (p.beginWriting limit markDue).profiles = p.profiles := rfl

@[simp] theorem Pos.pulseBlank_profiles (at_ : Nat) (row : Row) (capLock : Bool) :
    (p.pulseBlank at_ row capLock).profiles = p.profiles := by
  unfold Pos.pulseBlank
  split_ifs <;> rfl

@[simp] theorem Pos.forwardMark_profiles : p.forwardMark.1.profiles = p.profiles := by
  unfold Pos.forwardMark
  split
  · split <;> rfl
  · rfl

@[simp] theorem Pos.backwardMark_profiles (pulse : ReadPulse) : (p.backwardMark pulse).1.profiles = p.profiles := by
  unfold Pos.backwardMark
  split <;> split_ifs <;> rfl

@[simp] theorem Pos.readPulse_profiles (limit : Int) (dir : Dir) (rise high : Nat) (row : Row) (capLock : Bool) :
    (p.readPulse limit dir rise high row capLock).1.profiles = p.profiles := by
  cases dir <;> simp [Pos.readPulse]

@[simp] theorem Pos.writeFrame_profiles (limit : Int) (fr30 : Bool) : (p.writeFrame limit fr30).1.profiles = p.profiles := by
  unfold Pos.writeFrame
  dsimp only
  split
  · simp
  · split <;> simp

@[simp] theorem Pos.evaluate_profiles (m : Speed) (ts tt : Nat) : (p.evaluate m ts tt).profiles = p.profiles := by
  unfold Pos.evaluate
  dsimp only
  split <;> split_ifs <;> rfl

@[simp] theorem Pos.compute_profiles (m : Speed) (ts tt : Nat) : (p.compute m ts tt).profiles = p.profiles := by
  unfold Pos.compute
  split <;> rfl

@[simp] theorem Pos.takePeriod_profiles (n : ReelName) (st : TransportState) (phase : Option SearchPhase) (m : Speed)
    (capLock windSettled : Bool) (supply takeup : Option Nat) :
    (p.takePeriod n st phase m capLock windSettled supply takeup).profiles = p.profiles := by
  unfold Pos.takePeriod
  split
  · dsimp only
    split_ifs <;> simp
  · rfl

/-- R58: what POS forgets of an identified profile leaves the shadow. -/
@[simp] theorem Pos.profileWritten_profiles (m : Speed) (before : Memory) :
    (p.profileWritten m before).profiles = p.profiles := by
  unfold Pos.profileWritten
  split
  · rfl
  · dsimp only
    split_ifs <;> rfl

end

section
variable {r s : State} (h : Kept r s)
include h

/-- POS is written but for its profile shadow. -/
protected theorem Kept.place {x : Pos} (hx : x.profiles = s.pos.profiles) : Kept r (s.setPos x) :=
  h.setPos fun hs => hx ▸ hs.profiles

/-! ### TRC: entries, faults and limits -/

protected theorem Kept.applyRow {on : Bool} : Kept r (applyRow on s) :=
  h.frame (applyRow_frame on s) (applyRow_place on s).profiles (by decide)

protected theorem Kept.useSpeed {m : Speed} {o : SpeedOrigin} : Kept r (useSpeed m o s) :=
  h.frame (useSpeed_frame m o s) (useSpeed_place m o s).profiles (by decide)

protected theorem Kept.enterCore {st : TransportState} {on : Bool} : Kept r (enterCore st on s) :=
  h.frame (enterCore_frame st on s) (enterCore_place st on s).profiles (by decide)

protected theorem Kept.reportState : Kept r (reportState s) := by
  unfold Machine.reportState
  split
  · exact h.same (by rfl)
  · exact h.same (by rfl)

protected theorem Kept.enterPosting {st : TransportState} {o : Origin} {on : Bool} : Kept r (enterPosting st o on s) :=
  h.enterCore.post.reportState

protected theorem Kept.enter {st : TransportState} {o : Origin} {quiet on : Bool} : Kept r (enter st o quiet on s) :=
  .ite h.enterCore.reportState h.enterPosting

protected theorem Kept.stopWriting : Kept r (stopWriting s) := .ite (h.same (by rfl)) h

protected theorem Kept.beginWriting : Kept r (beginWriting s) := h.same (by rfl)

protected theorem Kept.tryWriting : Kept r (tryWriting s) := .ite h.beginWriting h

protected theorem Kept.latchFault {code : FaultCode} {detail : Nat} : Kept r (latchFault code detail s) := by
  unfold Machine.latchFault
  refine .ite h ?_
  dsimp only
  split
  · exact h.stopWriting.setTrc.enterCore.post.notify
  · exact h.stopWriting.setTrc.enterCore.post.notify

protected theorem Kept.limitCore {e : TapeEnd} {stall : Bool} : Kept r (limitCore e stall s) := by
  unfold Machine.limitCore
  extract_lets search due stopped searched latest reported
  clear_value search
  have hstopped : Kept r stopped := h.stopWriting.enterCore.post
  have hsearched : Kept r searched := by
    dsimp only [searched]
    split
    · exact hstopped.post
    · exact hstopped
  have hreported : Kept r reported := hsearched.setTrc.post.reportState
  split
  · exact hreported.notify
  · exact hreported

protected theorem Kept.takeRewind : Kept r (takeRewind s) := .ite (.ite h.enterPosting.limitCore h.enterPosting) h

protected theorem Kept.tapeLimit {e : TapeEnd} {stall : Bool} : Kept r (tapeLimit e stall s) := h.limitCore.takeRewind

protected theorem Kept.meetLimit : Kept r (meetLimit s) := by
  unfold Machine.meetLimit
  split
  · exact h.tapeLimit
  · exact h

/-! ### TRC: motions, pause and record -/

protected theorem Kept.enterMotion {st : TransportState} {o : Origin} {quiet : Bool} : Kept r (enterMotion st o quiet s) :=
  h.enter.meetLimit

protected theorem Kept.enterPhase {p : RecPhase} : Kept r (enterPhase p s) := h.setTrc.applyRow.setTrc

protected theorem Kept.beginPause {o : Origin} {quiet : Bool} : Kept r (beginPause o quiet s) :=
  h.stopWriting.setTrc.enter.setSrv.meetLimit

protected theorem Kept.startCatchUp {o : Origin} : Kept r (startCatchUp o s) := h.setTrc.enterPhase.setSrv.meetLimit

protected theorem Kept.backSpaceDone : Kept r (backSpaceDone s) := by
  unfold Machine.backSpaceDone
  split
  · exact h.startCatchUp
  · exact h.enterPhase

protected theorem Kept.reverseCatchUp : Kept r (reverseCatchUp s) :=
  .ite h.enterPhase.backSpaceDone.meetLimit h.enterPhase.setSrv.meetLimit

protected theorem Kept.catchUpDone : Kept r (catchUpDone s) := h.enterCore.beginWriting.post.reportState

protected theorem Kept.runDone : Kept r (runDone s) := by
  unfold Machine.runDone
  refine .ite ?_ h
  split
  · exact h.backSpaceDone
  · exact h.catchUpDone
  · exact h

protected theorem Kept.enterRecord {m : Speed} {mark paused : Bool} {o : Origin} {quiet : Bool} :
    Kept r (enterRecord m mark paused o quiet s) :=
  .ite h.setTrc.useSpeed.beginPause h.setTrc.useSpeed.enter.tryWriting.meetLimit

/-! ### TRC: searches -/

protected theorem Kept.stopSearch : Kept r (stopSearch s) := by
  unfold Machine.stopSearch
  split
  · exact h.post
  · exact h

@[simp] protected theorem Kept.startGoto {target : Int} {o : Origin} {quiet : Bool} :
    Kept r (startGoto target o quiet s) := by
  have hhere : Kept r (if s.trc.st == .stop then s else reportState (enterCore .stop false s)) :=
    .ite h h.enterCore.reportState
  exact .ite (.ite hhere.post hhere.post.post) h.setTrc.enter.meetLimit

@[simp] protected theorem Kept.startIndex {dir : Dir} {count : Nat} {o : Origin} {quiet : Bool} :
    Kept r (startIndex dir count o quiet s) := h.setTrc.enter.meetLimit

protected theorem Kept.searchFound {k : Search} : Kept r (searchFound k s) := h.enterCore.post.post.reportState.meetLimit

protected theorem Kept.counterChanged : Kept r (counterChanged s) := by
  unfold Machine.counterChanged
  split
  · exact .ite h.searchFound (.ite h.setTrc.applyRow (h.same (by rfl)))
  · exact h

protected theorem Kept.markReported {m : Int} : Kept r (markReported m s) := by
  unfold Machine.markReported
  split
  · exact .ite (.ite (h.same (by rfl)) (.ite h.searchFound h.setTrc.applyRow.meetLimit)) h
  · exact h

protected theorem Kept.searchTimeout : Kept r (searchTimeout s) := by
  unfold Machine.searchTimeout
  split
  · exact .ite h.setNow.enterCore.post.post.reportState h
  · exact h

/-! ### TRC: threading, unthreading and eject -/

protected theorem Kept.beginThread {p : Target} : Kept r (beginThread p s) := h.setTrc.enterCore.reportState

protected theorem Kept.beginUnthread {pending : Option Target} {o : Origin} : Kept r (beginUnthread pending o s) :=
  (Kept.enterCore (h.stopWriting.same (by rfl))).reportState

protected theorem Kept.beginEject {o : Origin} : Kept r (beginEject o s) := h.setTrc.enterCore.reportState

protected theorem Kept.serveTarget {p : Target} : Kept r (serveTarget p s) := by
  have hs : Kept r (s.setTrc { s.trc with pending := none }) := h.same (by rfl)
  unfold Machine.serveTarget
  dsimp only
  split
  · exact hs.enterMotion
  · exact hs.enterMotion
  · exact hs.enterMotion
  · exact hs.enterMotion
  · exact hs.enterMotion
  · exact hs.enter
  · exact hs.beginUnthread
  · exact hs.enterRecord
  · exact hs.startGoto
  · exact hs.startIndex

protected theorem Kept.threadingDone : Kept r (threadingDone s) := by
  have hs : Kept r (s.setTrc { s.trc with loadMotor := .off, loadTimer := none }) := h.same (by rfl)
  unfold Machine.threadingDone
  dsimp only
  split
  · exact hs.enter
  · exact .ite (hs.enter.same (by rfl)) hs.serveTarget

protected theorem Kept.threadFailure : Kept r (threadFailure s) := .ite (h.same (by rfl)) h.latchFault

protected theorem Kept.unthreadedSwitch : Kept r (unthreadedSwitch s) := by
  unfold Machine.unthreadedSwitch
  split
  · split
    · exact h.beginEject
    · exact h.enter
  · refine .ite ?_ h
    split
    · exact h.beginEject
    · exact h.same (by rfl)
  · exact h

/-! ### TRC: requests -/

@[simp] protected theorem Kept.requestMotion {st : TransportState} {req : TargetRequest} :
    Kept r (requestMotion st req s).1 := by
  unfold Machine.requestMotion
  refine .ite_fst h ?_
  split
  · exact h
  · exact h.setTrc.beginThread
  · exact h.same (by rfl)
  · exact .ite_fst (h.same (by rfl)) h.setTrc.stopSearch.enterMotion

protected theorem Kept.requestSearch {req : TargetRequest} {start : State → State}
    (hs : ∀ {u : State}, Kept r u → Kept r (start u)) : Kept r (requestSearch req start s).1 := by
  unfold Machine.requestSearch
  refine .ite_fst h ?_
  split
  · exact h
  · exact h.setTrc.beginThread
  · exact h.same (by rfl)
  · exact hs h.setTrc.stopSearch

@[simp] protected theorem Kept.requestGoto : Kept r (requestGoto s).1 :=
  .ite_fst h (h.requestSearch fun hu => hu.startGoto)

@[simp] protected theorem Kept.requestIndex : Kept r (requestIndex s).1 := by
  unfold Machine.requestIndex
  dsimp only
  split
  · exact h
  · exact .ite_fst h (h.requestSearch fun hu => hu.startIndex)

protected theorem Kept.takeRecord {m : Speed} {mark paused : Bool} {o : Origin} {quiet : Bool} :
    Kept r (takeRecord m mark paused o quiet s).1 := by
  unfold Machine.takeRecord
  dsimp only
  split
  · exact h.beginThread
  · exact h.same (by rfl)
  · exact .ite_fst (h.same (by rfl)) h.enterRecord

protected theorem Kept.recordTune {src : RecordSource} : Kept r (recordTune src s).1 := by
  unfold Machine.recordTune
  split
  · exact h
  · split
    · exact h
    · exact h.takeTune

@[simp] protected theorem Kept.requestRecord : Kept r (requestRecord s).1 := by
  have htune := h.recordTune (src := (recordSource s.rqu.arg0).getD .current)
  unfold Machine.requestRecord
  split
  · exact h
  · refine .ite_fst h ?_
    split
    · exact h
    · dsimp only
      split
      · exact h
      · rename_i hr
        rw [hr] at htune
        exact Kept.takeRecord (htune.same (by rfl))

protected theorem Kept.dropHeld : Kept r (dropHeld s) := .ite (h.same (by rfl)) h

protected theorem Kept.stopTape {o : Origin} {quiet : Bool} : Kept r (stopTape o quiet s) :=
  .ite h.dropHeld h.stopWriting.stopSearch.enter

protected theorem Kept.stopByTable : Kept r (stopByTable s).1 := by
  unfold Machine.stopByTable
  split
  · exact h.same (by rfl)
  · exact h.same (by rfl)
  · exact h.same (by rfl)
  · exact h
  · exact h
  · exact h
  · exact h.setTrc.stopTape

protected theorem Kept.ownerToPanel : Kept r (ownerToPanel s) := h.setTrc.takeRewind

protected theorem Kept.stopOverride : Kept r (stopOverride s).1 := by
  unfold Machine.stopOverride
  split
  · exact h
  · exact h.setTrc.ownerToPanel.notify
  · exact h.setTrc.ownerToPanel.notify
  · exact h.setTrc.ownerToPanel.notify
  · exact h.setTrc.ownerToPanel.notify
  · exact h.setTrc.ownerToPanel.notify
  · exact h.setTrc.stopTape.ownerToPanel.notify

@[simp] protected theorem Kept.requestStop : Kept r (requestStop s).1 :=
  .ite_fst h <| .ite_fst h.stopByTable <| .ite_fst h.stopOverride h

protected theorem Kept.pauseInPause : Kept r (pauseInPause s).1 := by
  unfold Machine.pauseInPause
  split
  · exact h
  · exact .ite_fst (h.same (by rfl)) h
  · exact h.setTrc.reverseCatchUp

@[simp] protected theorem Kept.requestPause : Kept r (requestPause s).1 := by
  unfold Machine.requestPause
  refine .ite_fst h ?_
  split
  · exact h
  · exact h
  · exact Kept.answers h.setTrc.enter
  · exact Kept.answers h.setTrc.enter
  · exact Kept.answers h.setTrc.enter
  · exact h.setTrc.beginPause
  · exact h.pauseInPause
  · exact h

protected theorem Kept.resumeInPause {o : Origin} : Kept r (resumeInPause o s).1 := by
  unfold Machine.resumeInPause
  split
  · exact h.setTrc.startCatchUp
  · exact h.same (by rfl)
  · exact h

@[simp] protected theorem Kept.requestResume : Kept r (requestResume s).1 := by
  unfold Machine.requestResume
  refine .ite_fst h ?_
  split
  · exact h
  · exact h
  · exact h.setTrc.enterMotion
  · exact h.resumeInPause
  · exact h

protected theorem Kept.ejectByTable {o : Origin} : Kept r (ejectByTable o s).1 := by
  unfold Machine.ejectByTable
  split
  · exact h
  · exact h.setTrc.beginEject
  · exact h.same (by rfl)
  · exact h.same (by rfl)
  · exact h
  · exact h
  · exact h.setTrc.stopSearch.beginUnthread

@[simp] protected theorem Kept.requestEject : Kept r (requestEject s).1 := .ite_fst h h.ejectByTable

@[simp] protected theorem Kept.requestReset : Kept r (requestReset s).1 := by
  unfold Machine.requestReset
  refine .ite_fst h ?_
  split
  · exact h
  · exact h
  · exact h
  · exact h.same (by rfl)

@[simp] protected theorem Kept.requestRecover : Kept r (requestRecover s).1 := by
  unfold Machine.requestRecover
  refine .ite_fst h ?_
  split
  · exact h
  · exact h
  · exact .ite_fst h (.ite_fst (.answers h.setTrc.enter) h.setTrc.beginUnthread)
  · exact h

/-! ### TRC: the cassette, the scheduler's operations, the main rail and the locks -/

protected theorem Kept.defaultSpeed : Kept r (defaultSpeed s) := h.useSpeed

protected theorem Kept.cassetteIn {tab : Bool} : Kept r (cassetteIn tab s) := Kept.defaultSpeed (h.same (by rfl))

protected theorem Kept.cassetteGone : Kept r (cassetteGone s) := Kept.defaultSpeed (h.same (by rfl))

protected theorem Kept.insertCassette {tab : Bool} : Kept r (insertCassette tab s).1 := by
  unfold Machine.insertCassette
  split
  · exact h.cassetteIn.enterCore.post.post.reportState
  · exact h.cassetteIn.post
  · exact h.cassetteIn.post
  · exact h

protected theorem Kept.removeCassette : Kept r (removeCassette s) := by
  unfold Machine.removeCassette
  split
  · exact h
  · exact h.cassetteGone.enterCore.post.post.reportState
  · exact h.cassetteGone.enterCore.post.post.reportState
  · exact h.cassetteGone.post
  · exact h.latchFault.cassetteGone.post

protected theorem Kept.returnTransport : Kept r (returnTransport s) := .ite (Kept.ownerToPanel (.ite (h.same (by rfl)) h)) h

protected theorem Kept.schRecord {m : Speed} : Kept r (schRecord m s) := by
  unfold Machine.schRecord
  split
  · exact h.takeRecord
  · exact h.takeRecord
  · exact h.takeRecord
  · exact h

protected theorem Kept.schResume {mark : Bool} : Kept r (schResume mark s) := .ite h.setTrc.resumeInPause h

protected theorem Kept.schPause : Kept r (schPause s) := by
  unfold Machine.schPause
  split
  · exact h.beginPause
  · exact h.pauseInPause
  · exact h

protected theorem Kept.schStop : Kept r (schStop s) := by
  unfold Machine.schStop
  refine .ite ?_ h
  split
  · exact h.same (by rfl)
  · exact h
  · exact .ite h.stopTape h

protected theorem Kept.unthreadForPowerOff {o : Origin} : Kept r (unthreadForPowerOff o s) := .ite h.stopSearch.beginUnthread h

protected theorem Kept.stopDrumAllowance : Kept r (stopDrumAllowance s) := .ite (h.same (by rfl)) h

protected theorem Kept.transportRailLost : Kept r (transportRailLost s) :=
  .ite (Kept.post (h.dropHeld.same (by rfl))) (.ite h.stopWriting.stopSearch.enterPosting (h.same (by rfl)))

protected theorem Kept.transportRailGood : Kept r (transportRailGood s) := by
  have hs : Kept r (if waitsForRail s.trc.st then restartDrum s else s) := .ite (h.same (by rfl)) h
  unfold Machine.transportRailGood
  dsimp only
  split
  · exact hs.serveTarget
  · exact hs

protected theorem Kept.startRecordCapstan : Kept r (startRecordCapstan s) := .ite (h.applyRow.same (by rfl)) h

protected theorem Kept.drumReported {x : LockReport} : Kept r (drumReported x s) := by
  cases x with
  | same => exact h
  | gained => exact (Kept.startRecordCapstan (.ite h (h.same (by rfl)))).tryWriting
  | lost => exact .ite (h.same (by rfl)) h

protected theorem Kept.capReported {x : LockReport} : Kept r (capReported x s) := by
  cases x with
  | same => exact h
  | gained =>
    have hs : Kept r (if s.srv.row == .play then s.setPos (s.pos.capGained s.now) else s) := .ite (h.place rfl) h
    exact Kept.tryWriting (hs.same (by rfl))
  | lost =>
    have hs : Kept r (if s.srv.row == .play then (s.setPos (s.pos.capLost s.now)).setSrv s.srv.detectorNone else s) :=
      .ite ((h.place (x := s.pos.capLost s.now) rfl).same (by rfl)) h
    exact hs.same (by rfl)

/-! ### PWR -/

protected theorem Kept.wake {c : WakeCause} : Kept r (wake c s) := .ite (h.same (by rfl)) h

protected theorem Kept.cancelOff : Kept r (cancelOff s) := .ite h.setPwr.post h

protected theorem Kept.beginOff {off : PowerOff} {o : Origin} : Kept r (beginOff off o s) := h.setPwr.unthreadForPowerOff

protected theorem Kept.autoOff : Kept r (autoOff s) := .ite h.beginOff h

protected theorem Kept.completeOff : Kept r (completeOff s) := .ite (h.same (by rfl)) h

protected theorem Kept.releaseHost : Kept r (releaseHost s) := by
  unfold Machine.releaseHost
  refine .ite ?_ h
  dsimp only
  split
  · exact h.setPwr.post
  · exact h.same (by rfl)

protected theorem Kept.railLost : Kept r (railLost s) := h.setPwr.post.notify

/-- R194: the settings shadow takes a byte. -/
protected theorem Kept.takeSetting {pos : Nat} {v : Byte} : Kept r (takeSetting pos v s) := by
  have hs := h.setSettings (m := s.mpath.settings.write pos v) fun hs => Memory.wf_write hs.settings _ _
  have hwindow := hs.setLds (x := { s.lds with window := setWindow (s.mpath.settings.write pos v) })
  have hw := Kept.ite (c := (6 ≤ pos && pos ≤ 9) = true) hwindow hs
  exact .ite hw.notify hw

protected theorem Kept.handPwr {w : PwrHeld} (hroom : queueHasRoom s = true) : Kept r (handPwr w s) := by
  cases w with
  | init g => exact h.enqueue hroom
  | toggle flags => exact (h.enqueue hroom).takeSetting

protected theorem Kept.toggleTimer : Kept r (toggleTimer s) := .ite_of h.handPwr fun _ => .ite (h.same (by rfl)) (h.same (by rfl))

protected theorem Kept.dropToggle : Kept r (dropToggle s) := .ite (h.same (by rfl)) h

protected theorem Kept.keyPressed {n : Nat} : Kept r (keyPressed n s) := by
  unfold Machine.keyPressed
  split
  · exact .ite h.setPwr.post.cancelOff h.setPwr.post
  · split
    · exact h.wake
    · exact .ite h.wake.ejectByTable h
    · exact h.toggleTimer
    · exact h
  · exact h

protected theorem Kept.pressIf {b : Bool} {n : Nat} : Kept r (pressIf b n s) := .ite h.keyPressed h

protected theorem Kept.keySample {k : BitVec 4} : Kept r (keySample k s) :=
  h.setPwr.pressIf.pressIf.pressIf.pressIf

@[simp] protected theorem Kept.requestPowerOff : Kept r (requestPowerOff s).1 :=
  .ite_fst h <| .ite_fst h <| .ite_fst h h.beginOff

end

end Sys2Proof.Machine
end

section
/-! SUPPORT. R151, R154, R162, R163, R171: every operation of SCH, of the memory path and of the standby start keeps the memories
canonical and the queues within their sizes. -/

namespace Sys2Proof.Machine

section
variable {r s : State} (h : Kept r s)
include h

/-! ### SCH: entries, ends and the log -/

protected theorem Kept.setEntry {k : Fin 16} {e : Entry} : Kept r (setEntry k e s) := h.same (by rfl)

protected theorem Kept.setRun {c : Run} : Kept r (setRun c s) := h.same (by rfl)

protected theorem Kept.clearRun : Kept r (s.setSch { s.sch with run := none }) := h.same (by rfl)

protected theorem Kept.clearRetained : Kept r (clearRetained s) := h.same (by rfl)

protected theorem Kept.setClaim {c : Option (Fin 16 × Nat)} : Kept r (s.setSch { s.sch with claim := c }) := h.same (by rfl)

/-- R118, R148: a group is handed into a queue that has room. -/
protected theorem Kept.handSch {w : SchHeld} (hroom : queueHasRoom s = true) : Kept r (handSch w s) := by
  cases w with
  | status k bytes => exact h.enqueue hroom
  | log slot seq k bytes => exact (h.enqueue hroom).post

protected theorem Kept.writeStatus {k : Fin 16} : Kept r (writeStatus k s) :=
  .ite_of h.handSch fun _ => .ite (h.same (by rfl)) (h.same (by rfl))

protected theorem Kept.postProgramme {k : Fin 16} {o : EndOutcome} {x : Reason} : Kept r (postProgramme k o x s) := h.post

protected theorem Kept.recompute {k : Fin 16} : Kept r (recompute k s) := by
  unfold Machine.recompute
  refine .ite ?_ h
  split
  · exact .ite h h.setEntry.writeStatus
  · exact h.setEntry.postProgramme.writeStatus

protected theorem Kept.recomputeAll {ks : List (Fin 16)} : Kept r (recomputeAll ks s) := by
  induction ks generalizing s with
  | nil => exact h
  | cons k rest ih => exact ih h.recompute

protected theorem Kept.makeLog {k : Fin 16} {f : LogFacts} : Kept r (makeLog k f s) :=
  .ite_of (fun hroom => Kept.handSch (h.same (by rfl)) hroom) fun _ => h.same (by rfl)

protected theorem Kept.conclude {k : Fin 16} {e : Entry} {f : LogFacts} : Kept r (conclude k e f s) :=
  h.setEntry.postProgramme.makeLog.writeStatus

protected theorem Kept.missDay {k : Fin 16} {day : Nat} {x : Reason} : Kept r (missDay k day x s) := h.conclude

protected theorem Kept.missNext {k : Fin 16} {x : Reason} : Kept r (missNext k x s) := h.missDay

protected theorem Kept.concludeRun {c : Run} {o : EndOutcome} {x : Reason} {detail : Nat} :
    Kept r (concludeRun c o x detail s) := h.conclude

protected theorem Kept.returnTuner : Kept r (returnTuner s) := h.same (by rfl)

protected theorem Kept.releaseRun {wasStarted : Bool} : Kept r (releaseRun wasStarted s) := by
  have hs := h.schStop.returnTransport.returnTuner.clearRetained.clearRun
  exact .ite hs.reportNotRunning hs

protected theorem Kept.endRun {o : EndOutcome} {x : Reason} {detail : Nat} : Kept r (endRun o x detail s) := by
  unfold Machine.endRun
  split
  · exact h
  · exact h.concludeRun.releaseRun.notify.notify

protected theorem Kept.endWell : Kept r (endWell s) := by
  unfold Machine.endWell
  split
  · exact h
  · exact h.endRun

/-! ### SCH: the start, continuation and the tests of a run -/

protected theorem Kept.startEffects {c : Run} {counter : Int} : Kept r (startEffects c counter s) :=
  h.setRun.setEntry.setClk.setClk.postProgramme.writeStatus

protected theorem Kept.startRun_ : Kept r (startRun_ s) := by
  unfold Machine.startRun_
  split
  · exact h
  · exact .ite h.schResume.startEffects h

protected theorem Kept.continueRun {c : Run} {b : Fin 16} : Kept r (continueRun c b s) :=
  h.concludeRun.schPause.schResume.startEffects.notify

protected theorem Kept.fallBack {c : Run} : Kept r (fallBack c s) := .ite h.setRun h.setRun.setEntry.writeStatus

protected theorem Kept.clockTests {c : Run} : Kept r (clockTests c s) := by
  unfold Machine.clockTests
  dsimp only
  split
  · exact .ite h.endRun (.ite h.setRun h)
  · refine .ite ?_ h
    split
    · exact h.continueRun
    · exact h.endWell
  · exact h

protected theorem Kept.labelTests {c : Run} : Kept r (labelTests c s) := by
  unfold Machine.labelTests
  dsimp only
  split
  · exact .ite h.endRun (.ite h.setRun h)
  · exact .ite h.endRun h
  · exact .ite h.endRun h
  · exact h

protected theorem Kept.runTests : Kept r (runTests s) := by
  unfold Machine.runTests
  split
  · exact h
  · exact .ite h.labelTests h.clockTests

/-! ### SCH: pre-roll -/

protected theorem Kept.endPassed {k : Fin 16} : Kept r (endPassed k s) := by
  unfold Machine.endPassed
  dsimp only
  split
  · exact .ite (.ite h.recompute h.missNext) h
  · exact h

protected theorem Kept.endPassedAll {ks : List (Fin 16)} : Kept r (endPassedAll ks s) := by
  induction ks generalizing s with
  | nil => exact h
  | cons k rest ih => exact ih h.endPassed

protected theorem Kept.setWait {w : WaitReason} {ks : List (Fin 16)} : Kept r (setWait w ks s) := by
  induction ks generalizing s with
  | nil => exact h
  | cons k rest ih => exact ih h.setEntry

protected theorem Kept.handRecord {c : Run} : Kept r (handRecord c s) := h.setRun.setEntry.writeStatus.schRecord

protected theorem Kept.beginPreroll {k : Fin 16} {start : Nat} : Kept r (beginPreroll k start s) := by
  unfold Machine.beginPreroll
  extract_lets stop c waiting begun told taken kind value
  have hs : Kept r taken := h.setRun.setEntry.postProgramme.setTrc.takeTuner.cancelOff.wake
  split
  · exact hs.endRun
  · exact hs.takeTune.handRecord.runTests

protected theorem Kept.tryEntry {k : Fin 16} {busy : Bool} : Kept r (tryEntry k busy s).1 := by
  have hs : Kept r (takeUp k s) := h.same (by rfl)
  unfold Machine.tryEntry
  exact .ite_fst (.ite_fst hs.missNext h) <| .ite_fst hs.missNext <| .ite_fst hs.missNext hs.beginPreroll

protected theorem Kept.checkDue {n : Nat} : Kept r (checkDue n s) := by
  induction n generalizing s with
  | zero => exact h
  | succ n ih =>
    have hwait : Kept r (if transportBusy s then setWait .transport (dueEntries s) s else s) := .ite h.setWait h
    refine .ite h <| .ite h.setWait <| .ite h.setWait <| .ite h.setWait ?_
    dsimp only
    split
    · exact hwait
    · exact .ite (ih hwait.tryEntry) hwait.tryEntry

protected theorem Kept.prerollCheck : Kept r (prerollCheck s) := .ite h.runTests h.runTests.endPassedAll.checkDue

/-! ### SCH: labels, claims, requests and clock steps -/

protected theorem Kept.labelAction {c : Run} {status : Nat} : Kept r (labelAction c status s) := by
  unfold Machine.labelAction
  dsimp only
  split
  · exact h.setRun
  · exact h.setRun
  · exact h.endWell
  · exact h.endWell
  · exact h.schPause.setEntry.postProgramme.writeStatus
  · exact h.schPause.setEntry.postProgramme.writeStatus
  · exact h.schResume.setEntry.postProgramme.writeStatus
  · exact h

protected theorem Kept.labelPacket {net : Nat} {label : List Byte} {status : Nat} :
    Kept r (labelPacket net label status s) := by
  unfold Machine.labelPacket
  split
  · exact h
  · exact .ite (.ite h.setRun.labelAction h.setRun) h

protected theorem Kept.absenceEnd {c : Run} : Kept r (absenceEnd c s) := by
  unfold Machine.absenceEnd
  refine .ite ?_ h.fallBack.endRun
  split
  · exact h.fallBack.setRun
  · exact h.fallBack

protected theorem Kept.lossEnd {c : Run} : Kept r (lossEnd c s) := by
  unfold Machine.lossEnd
  refine .ite ?_ (.ite h.fallBack.endRun h.fallBack.endWell)
  dsimp only
  split
  · exact h.fallBack.setRun
  · exact h.fallBack.schResume.setEntry.postProgramme.writeStatus
  · exact h.fallBack

protected theorem Kept.labelTick : Kept r (labelTick s) := by
  unfold Machine.labelTick
  split
  · exact h
  · exact .ite (.ite (.ite h.setRun.lossEnd h.setRun) (.ite h.setRun.absenceEnd h.setRun)) h

protected theorem Kept.makeEmpty {k : Fin 16} : Kept r (makeEmpty k s) := by
  unfold Machine.makeEmpty
  dsimp only
  split
  · exact Kept.setEntry (.ite (h.same (by rfl)) h)
  · exact h.setEntry

protected theorem Kept.expireClaim {k : Fin 16} : Kept r (expireClaim k s) := h.makeEmpty.post.writeStatus

protected theorem Kept.claimTick : Kept r (claimTick s) := by
  unfold Machine.claimTick
  split
  · exact h
  · exact .ite h.expireClaim (h.same (by rfl))

@[simp] protected theorem Kept.requestClaim : Kept r (requestClaim s).1 := by
  unfold Machine.requestClaim
  split
  · exact h
  · split
    · exact .ite_fst (h.same (by rfl)) h
    · split
      · exact h
      · exact h
      · exact h
      · exact Kept.answers h.setEntry.setClaim.writeStatus

protected theorem Kept.takeCommit {k : Fin 16} : Kept r (takeCommit k s) := (Kept.setEntry (h.same (by rfl))).writeStatus.notify

@[simp] protected theorem Kept.requestCommit : Kept r (requestCommit s).1 := by
  unfold Machine.requestCommit
  split
  · exact h
  · refine .ite_fst h ?_
    split
    · exact h
    · exact h.takeCommit

@[simp] protected theorem Kept.requestDiscard : Kept r (requestDiscard s).1 := by
  unfold Machine.requestDiscard
  split
  · exact h
  · exact .ite_fst h.makeEmpty.writeStatus h

@[simp] protected theorem Kept.requestDelete : Kept r (requestDelete s).1 := by
  unfold Machine.requestDelete
  split
  · exact h
  · split
    · exact h.makeEmpty.writeStatus
    · exact h.makeEmpty.writeStatus
    · exact h
    · exact h

@[simp] protected theorem Kept.requestAbort : Kept r (requestAbort s).1 := by
  unfold Machine.requestAbort
  split
  · exact h.endRun
  · exact h

protected theorem Kept.stepOver {new : Nat} {k : Fin 16} : Kept r (stepOver new k s) := by
  unfold Machine.stepOver
  dsimp only
  split
  · exact .ite h.missNext h
  · exact h

protected theorem Kept.stepOverAll {new : Nat} {ks : List (Fin 16)} : Kept r (stepOverAll new ks s) := by
  induction ks generalizing s with
  | nil => exact h
  | cons k rest ih => exact ih h.stepOver

protected theorem Kept.clockMiss {new : Nat} {k : Fin 16} : Kept r (clockMiss new k s) := by
  unfold Machine.clockMiss
  refine .ite ?_ h
  split
  · exact h.missDay
  · exact h

protected theorem Kept.clockMissAll {new : Nat} {ks : List (Fin 16)} : Kept r (clockMissAll new ks s) := by
  induction ks generalizing s with
  | nil => exact h
  | cons k rest ih => exact ih h.clockMiss

protected theorem Kept.stepBack {new : Nat} : Kept r (stepBack new s) := by
  unfold Machine.stepBack
  split
  · exact h
  · exact .ite h.setRun h

protected theorem Kept.stepNotice {n : StepNotice} : Kept r (stepNotice n s) := by
  have hs : Kept r (if n.validBefore then stepOverAll n.new.secs s.sch.queue s else clockMissAll n.new.secs s.sch.queue s) :=
    .ite h.stepOverAll h.clockMissAll
  exact hs.recomputeAll.stepBack.notify

/-! ### SCH: notices -/

protected theorem Kept.transportReport {st : TransportState} : Kept r (transportReport st s) := by
  unfold Machine.transportReport
  split
  · exact h
  · split
    · exact h.setRun
    · exact h
    · exact h.setRun

protected theorem Kept.limitReport : Kept r (limitReport s) := by
  unfold Machine.limitReport
  split
  · exact h
  · exact .ite h.endRun h.endRun

protected theorem Kept.testAutoOff : Kept r (testAutoOff s) := .ite h.autoOff h

protected theorem Kept.takeNotice {n : Notice} : Kept r (takeNotice n s) := by
  cases n with
  | transport st => exact h.transportReport
  | fault code => exact h.endRun
  | tapeLimit => exact h.limitReport
  | override_ => exact h.endRun
  | step n => exact h.stepNotice
  | runTests => exact h.runTests
  | check => exact h.prerollCheck
  | autoOff => exact h.testAutoOff
  | mainLost => exact h.endRun

protected theorem Kept.settle {n : Nat} : Kept r (settle n s) := by
  induction n generalizing s with
  | zero => exact h
  | succ n ih =>
    unfold Machine.settle
    split
    · exact ih (Kept.takeNotice (h.same (by rfl)))
    · exact .ite (ih h.startRun_) h

protected theorem Kept.secondsEvent : Kept r (secondsEvent s) := h.setClk.claimTick.labelTick.notify

protected theorem Kept.markDone {m : MarkWrite} : Kept r (markDone m s) := by
  unfold Machine.markDone
  split
  · exact .ite h.setRun h
  · exact h

/-! ### Events, grants and drains -/

protected theorem Kept.setLines {ran : Bool} : Kept r (setLines ran s) := h.same (by rfl)

protected theorem Kept.finish {ran : Bool} : Kept r (finish ran s) := by
  have hs : Kept r ((s.setNotices []).setTaken []) := h.same (by rfl)
  exact hs.completeOff.releaseHost.setLines

protected theorem Kept.event {f : State → State} (hf : ∀ {u : State}, Kept r u → Kept r (f u)) : Kept r (event f s) :=
  .ite (hf h).settle.finish h

/-- R162: a block hands into a queue that has room. -/
protected theorem Kept.handOldest {b : Block} (hroom : queueHasRoom s = true) : Kept r (handOldest b s) := by
  cases b <;> simp only [Machine.handOldest] <;> split
  · exact h
  · exact Kept.enqueue (h.same (by rfl)) hroom
  · exact h
  · exact Kept.handSch (h.same (by rfl)) hroom
  · exact h
  · exact Kept.handTun (h.same (by rfl)) hroom
  · exact h
  · exact Kept.handPwr (h.same (by rfl)) hroom

protected theorem Kept.grants {n : Nat} : Kept r (grants n s) := by
  induction n generalizing s with
  | zero => exact h
  | succ n ih =>
    unfold Machine.grants
    split
    · exact h
    · exact .ite_of (fun hroom => ih (Kept.handOldest (h.same (by rfl)) hroom)) fun _ => h

protected theorem Kept.grantSlots : Kept r (grantSlots s) := h.grants

protected theorem Kept.closeCycle : Kept r (closeCycle s) := h.same (by rfl)

protected theorem Kept.drain : Kept r (drain s) := h.closeCycle.drainByte.grantSlots

/-! ### Host cycles -/

protected theorem Kept.holdCycle {n : Nat} : Kept r (holdCycle n s) := by
  induction n generalizing s with
  | zero => exact h
  | succ n ih => exact .ite (ih (h.event Kept.drain)) h

protected theorem Kept.holdOrServe : Kept r (holdOrServe s) :=
  .ite h (.ite (.ite (h.same (by rfl)) (Kept.holdCycle (h.same (by rfl)))) h.holdCycle)

protected theorem Kept.protect {x : ProtectReason} {off : Nat} {data : Byte} : Kept r (protect x off data s) := .ite h h.post

protected theorem Kept.releaseLatch : Kept r (releaseLatch s) := h.same (by rfl)

protected theorem Kept.passWrite {off : Nat} {data : Byte} : Kept r (passWrite off data s) :=
  h.writeRegion.clearPending.grantSlots

/-- R168: RQU's copies are no part of the event queue. -/
protected theorem Kept.takeCell {n : Nat} {v : Byte} : Kept r (takeCell n v s) := by
  unfold Machine.takeCell
  dsimp only
  split <;> exact h.same (by rfl)

/-- Each command's owner keeps the memories and the queues. -/
theorem ownerActs_kept {code : Byte} {t : State} {a : Answer} (ha : ownerActs code s = some (t, a)) : Kept r t := by
  have of {x : State × Answer} (hx : Kept r x.1) (e : some x = some (t, a)) : Kept r t := by cases e; exact hx
  unfold ownerActs at ha
  split at ha
  case h_27 => cases ha
  all_goals exact of (by simp [h]) ha

protected theorem Kept.request {code : Byte} : Kept r (request code s) := by
  unfold Machine.request
  dsimp only
  split
  · exact h.makeResult
  · rename_i t a ha
    have ht := ownerActs_kept h ha
    exact (Kept.settle (.ite ht.cancelOff ht)).makeResult

/-- R156: the programme shadow takes the byte. -/
protected theorem Kept.programmeCycle {off : Nat} {data : Byte} : Kept r (programmeCycle off data s) := by
  unfold Machine.programmeCycle
  refine .ite (Kept.passWrite (h.setSch fun hs => ?_)) h.protect
  exact Memory.wf_write hs.prog _ _

/-- R157: the preset shadow takes the byte. -/
protected theorem Kept.presetCycle {off : Nat} {data : Byte} : Kept r (presetCycle off data s) := by
  unfold Machine.presetCycle
  extract_lets key n pos dropped
  have hs : Kept r dropped := .ite h.dropHeldOffset h
  clear_value dropped
  refine .ite h.protect (.ite h.protect (Kept.passWrite (hs.setTun fun hu => ?_)))
  exact Memory.wf_write hu.presets _ _

/-- R58: the profile shadow takes the byte. -/
protected theorem Kept.profileCycle {off : Nat} {data : Byte} : Kept r (profileCycle off data s) := by
  refine Kept.passWrite (h.setPos fun hs => ?_)
  rw [Pos.profileWritten_profiles]
  exact Memory.wf_write hs.profiles _ _

protected theorem Kept.settingsCycle {off : Nat} {data : Byte} : Kept r (settingsCycle off data s) :=
  (Kept.takeSetting (.ite h.dropToggle h)).passWrite

/-- R153: whatever the owner class of the offset. -/
protected theorem Kept.regionWrite {off : Nat} {data : Byte} : Kept r (regionWrite off data s) := by
  unfold Machine.regionWrite
  exact .ite h.protect <| .ite h.takeCell.passWrite <| .ite h.passWrite.request <| .ite h.protect <|
    .ite h.passWrite.acknowledge <| .ite h.passWrite <| .ite h.protect <| .ite h.settingsCycle <| .ite h.profileCycle <|
    .ite h.protect <| .ite h.programmeCycle <| .ite h.passWrite <| .ite h.presetCycle <| .ite h.passWrite <|
    .ite h.protect h.passWrite

protected theorem Kept.hostWrite {addr : Nat} {data : Byte} : Kept r (hostWrite addr data s) := by
  have hs : Kept r (if hostRuns s then holdOrServe s else s) := .ite h.holdOrServe h
  unfold Machine.hostWrite
  dsimp only
  generalize (if hostRuns s then holdOrServe s else s) = u at hs ⊢
  refine .ite hs (.ite hs ?_)
  split
  · exact hs.releaseLatch.setMem fun hu => Memory.wf_write hu.mem _ _
  · exact hs.releaseLatch.regionWrite

protected theorem Kept.hostRead {addr : Nat} : Kept r (hostRead addr s) := by
  have hs : Kept r (if hostRuns s then holdOrServe s else s) := .ite h.holdOrServe h
  unfold Machine.hostRead
  dsimp only
  generalize (if hostRuns s then holdOrServe s else s) = u at hs ⊢
  refine .ite hs (.ite (hs.same (by rfl)) ?_)
  split
  · exact hs.same (by rfl)
  · refine .ite (hs.same (by rfl)) ?_
    split <;> exact hs.same (by rfl)

/-! ### The standby start, and the loss of the supply -/

/-- The logic at its standby-start values, over the RAM that stood. -/
protected theorem Kept.restart {t : State} (hm : t.mem = s.mem)
    (he : (t.setMem []).memories = State.reset.memories) (hq : t.queues = State.reset.queues) : Kept r t := by
  have hreset : MemoriesWf State.reset := ⟨rfl, by decide, rfl, rfl, rfl⟩
  have hempty : QueuesWf State.reset := (queuesWf_iff _).2 ⟨by decide, by decide, by decide, by decide, by decide, by decide⟩
  refine ⟨fun hr => ?_, fun _ => hempty.of_eq hq⟩
  have ht : MemoriesWf (t.setMem []) := hreset.of_eq he
  exact ⟨hm ▸ (h.memories hr).mem, ht.settings, ht.profiles, ht.presets, ht.prog⟩

protected theorem Kept.startValues {l : PinLevels} : Kept r (startValues l s) := h.restart rfl rfl rfl

protected theorem Kept.loadCells : Kept r (loadCells s) := h.same (by rfl)

protected theorem Kept.loadSettings {m : Memory} (hm : MemoriesWf s → m.wf = true) : Kept r (loadSettings m s) :=
  (h.setSettings hm).same (by rfl)

/-- R86: the shadow takes each correction. -/
protected theorem Kept.correctOffsets {ns : List Nat} : Kept r (correctOffsets ns s) := by
  induction ns generalizing s with
  | nil => exact h
  | cons n rest ih => exact .ite (ih (Kept.offerTun (h.setTun fun hs => Memory.wf_write hs.presets _ _))) (ih h)

protected theorem Kept.loadPresets : Kept r (loadPresets s) :=
  Kept.correctOffsets (h.setTun fun hs => Memory.wf_filter _ (Memory.wf_slice hs.mem _ _))

protected theorem Kept.loadOne {k : Fin 16} : Kept r (loadOne k s) :=
  .ite h.setEntry.postProgramme.writeStatus h.setEntry

protected theorem Kept.loadEntries {ks : List (Fin 16)} : Kept r (loadEntries ks s) := by
  induction ks generalizing s with
  | nil => exact h
  | cons k rest ih => exact ih h.loadOne

protected theorem Kept.loadSchedule : Kept r (loadSchedule s) :=
  Kept.loadEntries (h.setSch fun hs => Memory.wf_filter _ (Memory.wf_slice hs.mem _ _))

/-- R181: the shadows are parts of the RAM. -/
protected theorem Kept.validate : Kept r (validate s) := by
  have hs : Kept r (loadSettings (s.mem.slice (windowBase s + offSettings) 32) (loadCells s)) :=
    h.loadCells.loadSettings fun hs => Memory.wf_slice hs.mem _ _
  exact (Kept.loadSchedule (Kept.loadPresets (hs.setPos fun hu => Memory.wf_slice hu.mem _ _))).setPwr

protected theorem Kept.offerInit {gs : List WriteGroup} : Kept r (offerInit gs s) := by
  induction gs generalizing s with
  | nil => exact h
  | cons g rest ih => exact .ite_of (fun hroom => ih (h.enqueue hroom)) fun _ => ih (h.same (by rfl))

/-- R182: the shadows are set from nothing. -/
protected theorem Kept.initialise : Kept r (initialise s) := by
  have hs : Kept r (loadSettings defaultSettings s) := h.loadSettings fun _ => by decide
  exact (Kept.offerInit (hs.setPos fun _ => Memory.wf_writeAll rfl _ _)).setClk

protected theorem Kept.dropDrafts {ks : List (Fin 16)} : Kept r (dropDrafts ks s) := by
  induction ks generalizing s with
  | nil => exact h
  | cons k rest ih => exact .ite (ih h.setEntry.postProgramme.writeStatus) (ih h)

protected theorem Kept.resolveRetained : Kept r (resolveRetained s) := .ite h.conclude.setClk h

protected theorem Kept.resolveOne {k : Fin 16} : Kept r (resolveOne k s) := by
  unfold Machine.resolveOne
  dsimp only
  split
  · exact h.conclude
  · exact h.conclude
  · exact h.conclude
  · exact h

protected theorem Kept.resolveAll {ks : List (Fin 16)} : Kept r (resolveAll ks s) := by
  induction ks generalizing s with
  | nil => exact h
  | cons k rest ih => exact ih h.resolveOne

protected theorem Kept.supplyOff {k : Fin 16} : Kept r (supplyOff k s) := by
  unfold Machine.supplyOff
  dsimp only
  split
  · exact .ite h.missNext h
  · exact h

protected theorem Kept.supplyOffAll {ks : List (Fin 16)} : Kept r (supplyOffAll ks s) := by
  induction ks generalizing s with
  | nil => exact h
  | cons k rest ih => exact ih h.supplyOff

protected theorem Kept.rebuild : Kept r (rebuild s) := h.supplyOffAll.recomputeAll.notify

protected theorem Kept.validateAndRebuild : Kept r (validateAndRebuild s) :=
  .ite h.validate.postInvalid.dropDrafts.resolveRetained.resolveAll.rebuild h.initialise.postInvalid.rebuild

protected theorem Kept.standbyStart {l : PinLevels} : Kept r (standbyStart l s) :=
  .ite h.startValues.validateAndRebuild.settle.finish h

/-- R179: the byte in progress goes to the RAM, and the shadows and the queues are lost. -/
protected theorem Kept.supplyLoss {byteInProgress : Bool} : Kept r (supplyLoss byteInProgress s) := by
  have hs : Kept r (if byteInProgress then drainByte s else s) := .ite h.drainByte h
  exact .ite (hs.restart rfl rfl rfl) h

protected theorem Kept.backupReset : Kept r (backupReset s) := .ite h.setClk h

end

end Sys2Proof.Machine
end

section
/-! LEMMA. R151, R154, R162, R163, R171, R172: every instruction and the idle tick keep the memories canonical and the queues
within their sizes, and leave nothing untold; so does every step. -/

namespace Sys2Proof.Machine

/-- The time moves on and POS keeps its profile shadow. -/
@[simp] theorem reachTime_profiles (t : Nat) (s : State) : (reachTime t s).pos.profiles = s.pos.profiles := rfl

@[simp] theorem reachLimit_profiles (since limit : Nat) (s : State) :
    (reachLimit since limit s).pos.profiles = s.pos.profiles := rfl

section
variable {r s t : State} (h : Kept r s)
include h

/-! ### The servo's, the position unit's and the line data's own events -/

protected theorem Kept.useFree : Kept r (useFree s) := h.same (by rfl)

protected theorem Kept.frameWritten : Kept r (frameWritten s) := by
  have hs : Kept r ((s.setPos (s.pos.writeFrame (Config.counterLimit s.straps.fr30) s.straps.fr30).1).setCtlOut
      (some (s.pos.writeFrame (Config.counterLimit s.straps.fr30) s.straps.fr30).2.1)) :=
    (h.place (Pos.writeFrame_profiles _ _ _)).same (by rfl)
  unfold Machine.frameWritten
  dsimp only
  split
  · exact hs.markDone
  · exact hs

protected theorem Kept.writeFrame : Kept r (writeFrame s) := .ite h.frameWritten h

protected theorem Kept.fieldStart {at_ : Nat} : Kept r (fieldStart at_ s) := by
  have hseen : Kept r (fieldSeen at_ s) := h.same (by rfl)
  have hstarted : Kept r (frameStarted (fieldSeen at_ s)) := hseen.same (by rfl)
  rw [fieldStart_eq]
  exact .ite (.ite hstarted.frameWritten hstarted) hseen

protected theorem Kept.stallReported {reel : ReelName} : Kept r (stallReported reel s) := by
  unfold Machine.stallReported
  split
  · exact h
  · exact .ite h.latchFault h.tapeLimit

protected theorem Kept.watchInterval {interval : Option Nat} : Kept r (watchInterval interval s) := by
  unfold Machine.watchInterval
  split
  · exact h
  · refine .ite ?_ h
    dsimp only
    split
    · exact h.setSrv
    · exact h.setSrv.useSpeed.capReported

protected theorem Kept.takePulse {dir : Dir} {rise high : Nat} : Kept r (takePulse dir rise high s) := by
  have hread : Kept r (s.setPos (s.pos.readPulse (Config.counterLimit s.straps.fr30) dir rise high s.srv.row
      s.srv.capLock).1) := h.place (Pos.readPulse_profiles ..)
  unfold Machine.takePulse
  dsimp only
  split
  · exact Kept.markReported (.ite hread.setSrv.useFree.watchInterval hread.setSrv.useFree.watchInterval.counterChanged)
  · exact .ite hread.setSrv.useFree.watchInterval hread.setSrv.useFree.watchInterval.counterChanged

/-- R188: MAIN_GOOD has fallen. -/
protected theorem Kept.railFallen {c d : Bool} :
    Kept r (if d then railLost (tunerRailLost (stopDrumAllowance (if c then transportRailLost s else s)))
      else tunerRailLost (stopDrumAllowance (if c then transportRailLost s else s))) := by
  have hs : Kept r (tunerRailLost (stopDrumAllowance (if c then transportRailLost s else s))) :=
    (Kept.ite h.transportRailLost h).stopDrumAllowance.tunerRailLost
  exact .ite hs.railLost hs

/-- R184: MAIN_GOOD has risen. -/
protected theorem Kept.railRisen {c : Bool} {x : Pwr} :
    Kept r (if c then (tunerRailGood (transportRailGood s)).setPwr x else tunerRailGood (transportRailGood s)) :=
  .ite h.transportRailGood.tunerRailGood.setPwr h.transportRailGood.tunerRailGood

protected theorem Kept.timeTake : Kept r (timeTake s) := by
  unfold Machine.timeTake
  refine .ite h ?_
  dsimp only
  split
  · exact Kept.timePacket (h.same (by rfl))
  · exact h.same (by rfl)

protected theorem Kept.labelTake : Kept r (labelTake s) := by
  unfold Machine.labelTake
  refine .ite h ?_
  dsimp only
  split
  · exact Kept.labelPacket (h.same (by rfl))
  · exact h.same (by rfl)

/-! ### The second's advance, the keys and the idle tick -/

protected theorem Kept.secondAdvance : Kept r (secondAdvance s) := .ite (h.event fun hu => hu.setClk.secondsEvent) h.setClk

protected theorem Kept.keySamples {samples : List (BitVec 4)} : Kept r (keySamples samples s) := by
  induction samples generalizing s with
  | nil => exact h
  | cons k rest ih => exact ih (h.event fun hu => hu.keySample)

protected theorem Kept.tick : Kept r (tick s) := by
  have hs : Kept r (pwmPeriod (s.setNow (s.now + (crystalMicros (s.clk.sub + 1) - crystalMicros s.clk.sub)))) :=
    .ite (h.same (by rfl)) (h.same (by rfl))
  exact .ite hs.setClk hs.secondAdvance

/-! ### The commands -/

theorem command_kept {f : State → State} (hf : ∀ {u : State}, Kept r u → Kept r (f u)) (ht : command f s = .next t) :
    Kept r t := by
  cases ht
  exact h.event hf

theorem hostCycle_kept {f : State → State} (hf : ∀ {u : State}, Kept r u → Kept r (f u)) (ht : hostCycle f s = .next t) :
    Kept r t := by
  cases ht
  exact .ite (h.event hf).closeCycle h

/-- A host write of the region, the form of every request and of the host's own writes. -/
theorem hostWriteAt_kept {off : Nat} {data : Byte} (ht : hostCycle (hostWriteAt off data) s = .next t) : Kept r t :=
  hostCycle_kept h (fun hu => hu.hostWrite) ht

/-- Every command keeps the memories canonical and the queues within their sizes. -/
theorem exec_kept (i : Instr) (ht : exec i s = .next t) : Kept r t := by
  cases i with
  | standbyStart levels => cases ht; exact h.standbyStart
  | standbySupplyLoss b => cases ht; exact h.supplyLoss
  | backupReset => cases ht; exact h.backupReset
  | secondAdvance => cases ht; exact h.secondAdvance
  | keyPress samples => cases ht; exact h.keySamples
  | play | record | stop | pause | resume | ff | rew | cue | review | eject | indexSearch | goto | counterReset
  | recover | tune | scan | scanStop | store | fine | setTime | claim | commit | discard | delete | abort | powerOff
  | profileWrite off data | presetWrite off data | programmeWrite off data | settingsWrite off data
  | partOwnedWrite off data | unknownCommand code | eventAck seq => exact hostWriteAt_kept h ht
  | liveRead addr => exact hostCycle_kept h (fun hu => hu.hostRead) ht
  | hostWrite addr data => exact hostCycle_kept h (fun hu => hu.hostWrite) ht
  | timeTake => exact command_kept h Kept.timeTake ht
  | labelTake => exact command_kept h Kept.labelTake ht
  | nameTake => exact command_kept h Kept.nameTake ht
  | fieldStart at_ => exact command_kept h (fun hu => hu.fieldStart) ht
  | lineStart | linePacketComplete | framingCodeFound => exact command_kept h (fun hu => hu.same (by rfl)) ht
  | cassetteInsertion tab =>
    exact command_kept h (fun hu => .ite hu.setPins.insertCassette.wake hu.setPins.insertCassette) ht
  | cassetteRemoval => exact command_kept h (fun hu => hu.setPins.removeCassette) ht
  | threadingComplete closed => exact command_kept h (fun hu => .ite hu.setPins.threadingDone hu.setPins) ht
  | unthreadingComplete closed => exact command_kept h (fun hu => .ite hu.setPins.unthreadedSwitch hu.setPins) ht
  | threadTimeout => exact command_kept h (fun hu => by split; exacts [hu.setNow.threadFailure, hu]) ht
  | unthreadTimeout | ejectTimeout => exact command_kept h (fun hu => by split; exacts [hu.setNow.latchFault, hu]) ht
  | idleTimeout => exact command_kept h (fun hu => by split; exacts [.ite hu.setNow.beginUnthread hu, hu]) ht
  | pauseTimeout =>
    exact command_kept h (fun hu => by split; exacts [.ite hu.setNow.stopWriting.enterPosting hu, hu]) ht
  | lockAllowanceExpiry motor =>
    cases motor <;> exact command_kept h (fun hu => by dsimp only; split; exacts [hu.setNow.latchFault, hu]) ht
  | tapeLimit which active =>
    cases which <;> exact command_kept h (fun hu => .ite hu.setPins.tapeLimit hu.setPins) ht
  | motorOc motor active =>
    exact command_kept h (fun hu => .ite (.ite hu.setPins.threadFailure hu.setPins.latchFault) hu.setPins) ht
  | thermal active => exact command_kept h (fun hu => .ite hu.setPins.latchFault hu.setPins) ht
  | searchCounterTimeout => exact command_kept h Kept.searchTimeout ht
  | mainGoodFall => exact command_kept h (fun hu => .ite (Kept.railFallen (hu.same (by rfl))) hu) ht
  | mainGoodRise => exact command_kept h (fun hu => .ite hu (Kept.railRisen (hu.same (by rfl)))) ht
  | railTimeout => exact command_kept h (fun hu => by split; exacts [.ite hu.setNow.railLost hu, hu]) ht
  | hostResetRelease => exact command_kept h (fun hu => by split; exacts [hu.setNow.setPwr.releaseHost, hu]) ht
  | drumFgPulse at_ => exact command_kept h (fun hu => .ite hu.setNow.setSrv.drumReported hu.setNow) ht
  | drumFgGap => exact command_kept h (fun hu => .ite hu.setNow.setSrv.drumReported hu) ht
  | capstanFgPulse at_ =>
    exact command_kept h (fun hu =>
      .ite (.ite hu.setNow.setSrv.capReported.runDone hu.setNow.setSrv.capReported) hu.setNow) ht
  | capstanFgGap => exact command_kept h (fun hu => .ite hu.setNow.setSrv.capReported hu) ht
  | drumPgPulse at_ => exact command_kept h (fun hu => .ite hu.setNow.setSrv.useFree.drumReported hu.setNow) ht
  | frameReferencePulse => exact command_kept h (fun hu => .ite hu.setNow.setSrv.writeFrame hu.setNow.setSrv) ht
  | frameReferenceTimeout => exact command_kept h (fun hu => by split; exacts [.ite hu.setNow.setSrv hu, hu]) ht
  | reelMark reel at_ =>
    exact command_kept h (fun hu => .ite (hu.setNow.setSrv.place (Pos.takePeriod_profiles ..)) hu.setNow.setSrv) ht
  | reelStall reel => exact command_kept h (fun hu => by split; exacts [hu.setNow.setSrv.stallReported, hu]) ht
  | ctlReadPulse rise high =>
    exact command_kept h (fun hu => by dsimp only; split; exacts [hu.setNow.takePulse, hu.setNow]) ht
  | runDownEnd => exact command_kept h (fun hu => by split; exacts [hu.same (by rfl), hu]) ht
  | extrapolationStart | extrapolatedFrame =>
    exact command_kept h (fun hu => by split; exacts [(hu.setNow.place (by simp)).counterChanged, hu]) ht
  | unsureSet => exact command_kept h (fun hu => by split; exacts [hu.same (by rfl), hu]) ht
  | synthWordEnd => exact command_kept h Kept.wordEnd ht
  | settleEnd x => exact command_kept h (fun hu => hu.settleEnd) ht
  | afcSample x => exact command_kept h (fun hu => hu.afcEvent) ht
  | trackingSample x => exact command_kept h (fun hu => hu.trackEvent) ht
  | noSignalWatch x => exact command_kept h (fun hu => hu.watchEvent) ht
  | scanStepTest x => exact command_kept h (fun hu => hu.stepTest) ht
  | dwellTimeout => exact command_kept h Kept.dwellEnd ht
  | claimExpiry => exact command_kept h (fun hu => by split; exacts [.ite hu.expireClaim hu, hu]) ht
  | occurrenceStart => exact command_kept h Kept.startRun_ ht
  | occurrenceStartDue => exact command_kept h (fun hu => by split; exacts [.ite hu.runTests hu, hu]) ht
  | occurrenceStopReached => exact command_kept h (fun hu => by split; exacts [.ite hu.clockTests hu, hu]) ht
  | absenceTimeout => exact command_kept h (fun hu => by split; exacts [.ite hu.absenceEnd hu, hu]) ht
  | labelLossTimeout => exact command_kept h (fun hu => by split; exacts [.ite hu.lossEnd hu, hu]) ht
  | labelOverrunLimit => exact command_kept h (fun hu => by split; exacts [.ite hu.labelTests hu, hu]) ht
  | postedWriteDrain => exact command_kept h Kept.drain ht
  | slotGrant => exact command_kept h Kept.grantSlots ht
  | powerOffComplete => exact command_kept h Kept.completeOff ht

end

/-- Every step keeps the memories canonical and the queues within their sizes. -/
theorem step_kept {s t : State} (ht : step s = .next t) : Kept s t := by
  unfold step at ht
  split at ht
  · cases ht
    exact (Kept.refl s).tick
  · rename_i c rest _
    have hs : Kept s (s.setPending rest) := (Kept.refl s).same (by rfl)
    exact exec_kept hs c ht

/-! ### Nothing is left untold -/

section
variable {s t : State}

theorem NothingUntold.frame {ps : List Part} (hu : NothingUntold s) (hf : SameBut ps s t) (hp : .untold ∉ ps) :
    NothingUntold t :=
  have ⟨hn, ht⟩ := hf .untold hp
  ⟨hn.trans hu.1, ht.trans hu.2⟩

theorem completeOff_untold (hu : NothingUntold s) : NothingUntold (completeOff s) :=
  iteInduction (motive := NothingUntold) (fun _ => hu) fun _ => hu

theorem releaseHost_untold (hu : NothingUntold s) : NothingUntold (releaseHost s) := by
  have hs (x : Pwr) : NothingUntold (s.setPwr x) := hu
  unfold releaseHost
  refine iteInduction (motive := NothingUntold) (fun _ => ?_) fun _ => hu
  dsimp only
  split
  · exact (hs _).frame (post_frame _ _) (by decide)
  · exact hs _

/-- What follows an event settles what is told and what is taken. -/
theorem finish_untold (ran : Bool) (s : State) : NothingUntold (finish ran s) := by
  have hs : NothingUntold ((s.setNotices []).setTaken []) := ⟨rfl, rfl⟩
  exact (releaseHost_untold (completeOff_untold hs)).frame (setLines_frame ran _) (by decide)

theorem event_untold (f : State → State) (hu : NothingUntold s) : NothingUntold (event f s) :=
  iteInduction (fun _ => finish_untold _ _) fun _ => hu

theorem command_untold {f : State → State} (hu : NothingUntold s) (ht : command f s = .next t) : NothingUntold t := by
  cases ht
  exact event_untold f hu

theorem hostCycle_untold {f : State → State} (hu : NothingUntold s) (ht : hostCycle f s = .next t) : NothingUntold t := by
  cases ht
  exact iteInduction (motive := NothingUntold) (fun _ => event_untold f hu) fun _ => hu

theorem secondAdvance_untold (hu : NothingUntold s) : NothingUntold (secondAdvance s) :=
  iteInduction (motive := NothingUntold) (fun _ => event_untold _ hu) fun _ => hu

theorem keySamples_untold (samples : List (BitVec 4)) (hu : NothingUntold s) : NothingUntold (keySamples samples s) := by
  induction samples generalizing s with
  | nil => exact hu
  | cons k rest ih => exact ih (event_untold _ hu)

theorem standbyStart_untold (levels : PinLevels) (hu : NothingUntold s) : NothingUntold (standbyStart levels s) :=
  iteInduction (motive := NothingUntold) (fun _ => finish_untold _ _) fun _ => hu

theorem supplyLoss_untold (b : Bool) (hu : NothingUntold s) : NothingUntold (supplyLoss b s) :=
  iteInduction (motive := NothingUntold) (fun _ => ⟨rfl, rfl⟩) fun _ => hu

theorem backupReset_untold (hu : NothingUntold s) : NothingUntold (backupReset s) :=
  iteInduction (motive := NothingUntold) (fun _ => hu) fun _ => hu

theorem tick_untold (hu : NothingUntold s) : NothingUntold (tick s) := by
  have hp {u : State} (hu : NothingUntold u) : NothingUntold (pwmPeriod u) := by
    unfold pwmPeriod
    split <;> exact hu
  exact iteInduction (motive := NothingUntold) (fun _ => hp hu) fun _ => secondAdvance_untold (hp hu)

/-- Every command is one event, one host cycle, or one of the few with a shape of its own. -/
theorem exec_untold (i : Instr) (hu : NothingUntold s) (ht : exec i s = .next t) : NothingUntold t := by
  cases i with
  | standbyStart levels => cases ht; exact standbyStart_untold levels hu
  | standbySupplyLoss b => cases ht; exact supplyLoss_untold b hu
  | backupReset => cases ht; exact backupReset_untold hu
  | secondAdvance => cases ht; exact secondAdvance_untold hu
  | keyPress samples => cases ht; exact keySamples_untold samples hu
  | play | record | stop | pause | resume | ff | rew | cue | review | eject | indexSearch | goto | counterReset
  | recover | tune | scan | scanStop | store | fine | setTime | claim | commit | discard | delete | abort | powerOff
  | profileWrite | presetWrite | programmeWrite | settingsWrite | partOwnedWrite | unknownCommand | eventAck
  | liveRead | hostWrite => exact hostCycle_untold hu ht
  | lockAllowanceExpiry motor => cases motor <;> exact command_untold hu ht
  | tapeLimit which active => cases which <;> exact command_untold hu ht
  | _ => exact command_untold hu ht

/-- Every step leaves nothing untold. -/
theorem step_untold (hu : NothingUntold s) (ht : step s = .next t) : NothingUntold t := by
  unfold step at ht
  split at ht
  · cases ht
    exact tick_untold hu
  · rename_i rest _
    have hs : NothingUntold (s.setPending rest) := hu
    exact exec_untold _ hs ht

end

end Sys2Proof.Machine
end

section
open Sys2Proof Sys2Proof.Machine

/-- Settles O4: every operation keeps the RAM and the shadows canonical (`step_kept`). -/
theorem everyStepKeepsMemoriesCanonical : Obligations.EveryStepKeepsMemoriesCanonical :=
  fun _ _ hm ht => (step_kept ht).memories hm

/-- Settles O5: every operation keeps the queues within their sizes (`step_kept`), and every event ends with nothing
untold (`step_untold`). -/
theorem everyStepKeepsQueueBounds : Obligations.EveryStepKeepsQueueBounds :=
  fun _ _ hq hu ht => ⟨(step_kept ht).queues hq, step_untold hu ht⟩

end

section
/-! LEMMA. R152, R154, R155, R160, R161, R168: a host cycle of a running host while nothing waits to drain. -/

namespace Sys2Proof.Machine

section
variable {s u : State} {f : State → State}

/-! ### How a host cycle ends -/

/-- A host cycle that tells SCH nothing and leaves the power alone ends by the lines. -/
theorem hostCycle_ends (hf : f s = u) (hh : HostRuns s) (hn : u.notices = []) (hr : u.sch.run = none) (hp : u.pwr = s.pwr) :
    hostCycle f s = .next (closeCycle (ended true u)) := by
  have hphase : u.pwr.phase = .running := by rw [hp, hh.phase]
  rw [hostCycle_powered (by simp [hh.power]), hf, settle_idle _ hn hr, hostRuns_of hh,
    finish_steady (by simp [hphase]) (by simp [hphase])]
  rfl

/-- Nothing told and nothing taken is nothing to settle. -/
theorem settled_nothing (hn : u.notices = []) (ht : u.taken = []) : (u.setNotices []).setTaken [] = u := by
  cases u
  simp_all [State.setNotices, State.setTaken]

theorem closeCycle_closed (h : u.mpath.cycleOpen = false) : closeCycle u = u := by
  cases u
  rename_i m _ _
  cases m
  simp_all [closeCycle, State.setMpath]

/-- The lines stand after work that changes none of what they follow from, and the queue stays empty. -/
theorem ended_closed (hh : HostRuns s) (hi : ScheduleIdle s) (hl : LinesStand s)
    (hu : u.notices = s.notices ∧ u.taken = s.taken) (hp : u.pwr = s.pwr)
    (hm : u.mpath = { s.mpath with latch := u.mpath.latch }) (hcount : u.rqu.count = s.rqu.count)
    (hirq : u.rqu.irq = s.rqu.irq) : closeCycle (ended true u) = u := by
  have hqueue : u.mpath.queue = s.mpath.queue := by rw [hm]
  have hsettings : u.mpath.settings = s.mpath.settings := by rw [hm]
  have hopen : u.mpath.cycleOpen = s.mpath.cycleOpen := by rw [hm]
  have hurgent : urgentLevel u = urgentLevel s := by simp only [urgentLevel, hp, hqueue]
  have hlow : urgentLevel s = false := urgentLevel_drained hh.drained.queue
  have hlines : LinesStand u :=
    ⟨by rw [hirq, hl.irq]; simp only [irqLevel, hostRuns, hp, hcount, hsettings],
      by rw [hurgent, hm]; exact hl.urgent, by rw [hurgent, hm]; exact hl.hwait, by rw [hm]; exact hl.cycleOpen⟩
  have hclosed : u.mpath.cycleOpen = false := by
    refine Bool.eq_false_iff.mpr fun h => ?_
    exact absurd (hl.cycleOpen (hopen.symm.trans h)) (by simp [hl.hwait, hlow])
  rw [ended, settled_nothing (hu.1.trans hi.notices) (hu.2.trans hi.taken), setLines_stand hlines,
    closeCycle_closed hclosed]

/-- A host cycle that touches no more than the RAM, HD, the latch and RQU's cells ends where its own work left it. -/
theorem hostCycle_served (hf : f s = u) (hh : HostRuns s) (hi : ScheduleIdle s) (hl : LinesStand s)
    (hframe : SameBut [.mem, .hd, .mpath, .rqu] s u) (hm : u.mpath = { s.mpath with latch := u.mpath.latch })
    (hcount : u.rqu.count = s.rqu.count) (hirq : u.rqu.irq = s.rqu.irq) : hostCycle f s = .next u := by
  have huntold := hframe .untold (by decide)
  have hpwr : u.pwr = s.pwr := hframe .pwr (by decide)
  have hsch : u.sch = s.sch := hframe .sch (by decide)
  rw [hostCycle_ends hf hh (huntold.1.trans hi.notices) (by rw [hsch, hi.run]) hpwr,
    ended_closed hh hi hl huntold hpwr hm hcount hirq]

/-! ### Host writes (R152 to R155) -/

/-- R153: the offsets that the host owns and that no block takes. -/
def hostOwned (off : Nat) : Prop :=
  0xE00 ≤ off ∨ (0x400 ≤ off ∧ off < 0x410) ∨ (0xA40 ≤ off ∧ off < 0xC00) ∨ (0x01C ≤ off ∧ off < 0x020)

theorem regionWrite_hostOwned {off : Nat} (h : hostOwned off) (data : Byte) (s : State) :
    regionWrite off data s = passWrite off data s := by
  unfold regionWrite offCommand offAck
  rcases h with h | h | h | h <;> simp (disch := omega) only [if_pos, if_neg]

theorem regionWrite_cell {n : Nat} (h : n < 7) (data : Byte) (s : State) :
    regionWrite (0x010 + n) data s = passWrite (0x010 + n) data (takeCell n data s) := by
  rw [regionWrite, if_neg (by omega), if_pos (by omega), Nat.add_sub_cancel_left]

theorem regionWrite_blocked {off : Nat} (h : ownerBlocked off = true) (data : Byte) (s : State) :
    regionWrite off data s = protect .owner off data s := by
  simp only [ownerBlocked, Bool.or_eq_true, Bool.and_eq_true, decide_eq_true_eq, or_assoc] at h
  unfold regionWrite offCommand offAck
  rcases h with h | h | h | h | h <;> simp (disch := omega) only [if_pos, if_neg]

theorem ownerBlocked_lt {off : Nat} (h : ownerBlocked off = true) : off < 4096 := by
  simp only [ownerBlocked, Bool.or_eq_true, Bool.and_eq_true, decide_eq_true_eq] at h
  omega

theorem windowOffset_outside {addr : Nat} (h : addr < windowBase s ∨ windowBase s + 4096 ≤ addr) :
    windowOffset s addr = none := by
  rw [windowOffset, if_neg]
  simp only [Bool.and_eq_true, decide_eq_true_eq]
  omega

/-- R152: a host write above the RAM does nothing. -/
theorem hostWrite_above {addr : Nat} (hh : HostRuns s) (ha : 0x8000 ≤ addr) (data : Byte) : hostWrite addr data s = s := by
  simp [hostWrite, hostRuns_of hh, holdOrServe_drained hh.drained.queue, ha]

/-- R154: a host write in the window is served by the owner class of its offset. -/
theorem hostWrite_window {off : Nat} (hh : HostRuns s) (ho : off < 4096) (data : Byte) :
    hostWrite (windowBase s + off) data s = regionWrite off data (releaseLatch s) :=
  hostWriteAt_drained hh ho data

/-- R154: a host write in the RAM and outside the window. -/
theorem hostWrite_outside {addr : Nat} (hh : HostRuns s) (ha : addr < 0x8000)
    (ho : addr < windowBase s ∨ windowBase s + 4096 ≤ addr) (data : Byte) :
    hostWrite addr data s = (releaseLatch s).setMem (s.mem.write addr data) := by
  have hw : windowOffset (releaseLatch s) addr = none := windowOffset_outside ho
  simp only [hostWrite, hostRuns_of hh, holdOrServe_drained hh.drained.queue, if_true, Bool.not_true, Bool.false_eq_true,
    if_false, Nat.not_le.mpr ha, hw]
  rfl

/-- R154: a host write in the RAM that passes, of an address that no owner class takes. -/
theorem hostWrite_passes {addr : Nat} (hh : HostRuns s) (ha : addr < 0x8000)
    (ho : addr < windowBase s ∨ windowBase s + 4096 ≤ addr ∨ hostOwned (addr - windowBase s)) (data : Byte) :
    hostWrite addr data s = (releaseLatch s).setMem (s.mem.write addr data) := by
  by_cases hout : addr < windowBase s ∨ windowBase s + 4096 ≤ addr
  · exact hostWrite_outside hh ha hout data
  · have howned : hostOwned (addr - windowBase s) := by
      rcases ho with ho | ho | ho
      · exact absurd (.inl ho) hout
      · exact absurd (.inr ho) hout
      · exact ho
    obtain ⟨off, rfl⟩ : ∃ off, addr = windowBase s + off := ⟨addr - windowBase s, by omega⟩
    rw [Nat.add_sub_cancel_left] at howned
    rw [hostWrite_window hh (by omega), regionWrite_hostOwned howned,
      passWrite_drained (s := releaseLatch s) hh.drained.queue hh.drained.grants]
    rfl

/-- R168: a host write to TAG or an ARG cell goes to RQU's copy, and to the RAM. -/
theorem hostWrite_cell {n : Nat} (hh : HostRuns s) (h : n < 7) (data : Byte) :
    hostWrite (windowBase s + 0x010 + n) data s
      = (takeCell n data (releaseLatch s)).setMem (s.mem.write (windowBase s + 0x010 + n) data) := by
  rw [Nat.add_assoc, hostWrite_window hh (by omega), regionWrite_cell h,
    passWrite_drained (s := takeCell n data (releaseLatch s)) hh.drained.queue hh.drained.grants]
  rfl

/-- RQU's copies of the request cells are no part of the event queue, and the line follows the queue. -/
theorem takeCell_line (n : Nat) (v : Byte) (s : State) :
    (takeCell n v s).rqu.count = s.rqu.count ∧ (takeCell n v s).rqu.irq = s.rqu.irq := by
  unfold takeCell
  dsimp only
  split <;> exact ⟨rfl, rfl⟩

theorem takeCell_frame (n : Nat) (v : Byte) (s : State) : SameBut [.rqu] s (takeCell n v s) := setRqu_frame s _

theorem releaseLatch_frame (s : State) : SameBut [.mpath] s (releaseLatch s) := setMpath_frame s _

theorem setMem_frame (s : State) (m : Memory) : SameBut [.mem] s (s.setMem m) := by
  intro p hp; cases p <;> simp_all [Part.same]

theorem setHd_frame (s : State) (x : Option Byte) : SameBut [.hd] s (s.setHd x) := by
  intro p hp; cases p <;> simp_all [Part.same]

/-- One byte of a canonical RAM is written. -/
theorem ramWritten_write (hw : s.mem.wf = true) {addr : Nat} {v : Byte} (h : u.mem = s.mem.write addr v) :
    RamWritten addr v s u := by
  rw [RamWritten, h]
  exact ⟨Memory.read_write_same hw _ _, fun x hx => Memory.read_write_other _ _ hx⟩

/-- R155, R158: a host write that is blocked while no event waits posts PROTECT. -/
theorem hostWriteAt_blocked {off : Nat} (hh : HostRuns s) (hb : ownerBlocked off = true) (hc : s.rqu.count = 0) (data : Byte) :
    hostWriteAt off data s = post (evProtect .owner off data) (releaseLatch s) := by
  have hcount : (releaseLatch s).rqu.count = 0 := hc
  rw [hostWriteAt_drained hh (ownerBlocked_lt hb), regionWrite_blocked hb, protect]
  simp [hcount]

/-- R155: a part-owned write while no event waits ends with PROTECT posted. -/
theorem blocked_posts {off : Nat} {data : Byte} (hh : HostRuns s) (hi : ScheduleIdle s) (hb : ownerBlocked off = true)
    (hc : s.rqu.count = 0) (hn : s.rqu.overflow = none) :
    ∃ t, hostCycle (hostWriteAt off data) s = .next t ∧ Blocked .owner off data s t ∧ SameBut [.mpath, .rqu] s t := by
  have hpost : post (evProtect .owner off data) (releaseLatch s) = _ :=
    post_room (s := releaseLatch s) hn (by show s.rqu.count ≤ 30; omega)
      (by show s.mpath.queue.length < 4; rw [hh.drained.queue]; decide)
  have hframe : SameBut [.mpath, .rqu] s (post (evProtect .owner off data) (releaseLatch s)) :=
    ((releaseLatch_frame s).trans (post_frame _ _)).mono (by decide)
  have hrqu : (post (evProtect .owner off data) (releaseLatch s)).rqu
      = { s.rqu with count := s.rqu.count + 1, newest := evProtect .owner off data } := by rw [hpost]; rfl
  have hmpath : (post (evProtect .owner off data) (releaseLatch s)).mpath
      = { s.mpath with latch := none, queue := eventGroups s [evProtect .owner off data] } := by
    rw [hpost]
    show ({ s.mpath with latch := none, queue := s.mpath.queue ++ _ } : Mpath) = _
    rw [hh.drained.queue]
    rfl
  generalize hu : post (evProtect .owner off data) (releaseLatch s) = u at hframe hrqu hmpath
  have hsch : u.sch = s.sch := hframe .sch (by decide)
  have huntold := hframe .untold (by decide)
  refine ⟨_, hostCycle_ends ((hostWriteAt_blocked hh hb hc data).trans hu) hh (huntold.1.trans hi.notices)
    (by rw [hsch, hi.run]) (hframe .pwr (by decide)), ⟨?_, ?_⟩, ?_⟩
  · show ({ u.rqu with irq := irqLevel u } : Rqu) = _
    rw [hrqu]
    rfl
  · show ({ u.mpath with urgent := urgentLevel u, hwait := urgentLevel u, cycleOpen := false } : Mpath) = _
    rw [hmpath]
    rfl
  · exact (ended_frame ⟨hi.notices, hi.taken⟩ hframe (by decide) (by decide)).with ((closeCycle_frame _).mono (by decide))

end

end Sys2Proof.Machine
end

section
open Sys2Proof Sys2Proof.Machine

/-- Settles O56, one owner class at a time: where the write passes it ends with its byte, and where it is blocked with PROTECT. -/
theorem hostWritesByOwnerClass : Obligations.HostWritesByOwnerClass := by
  intro s data hh hi hl
  refine ⟨fun addr ha => ?_, fun addr ha ho => ?_, fun n addr ha => ?_, fun off hb hc hn => ?_⟩
  · exact hostCycle_served (hostWrite_above hh ha data) hh hi hl (.refl _ _) rfl rfl rfl
  · have howned : addr.toNat < windowBase s ∨ windowBase s + 4096 ≤ addr.toNat
        ∨ hostOwned (addr.toNat - windowBase s) := by
      unfold hostOwned
      omega
    have hframe : SameBut [.mem, .mpath] s ((releaseLatch s).setMem (s.mem.write addr.toNat data)) :=
      ((releaseLatch_frame s).trans (setMem_frame _ _)).mono (by decide)
    exact ⟨_, hostCycle_served (hostWrite_passes hh ha howned data) hh hi hl (hframe.mono (by decide)) rfl rfl rfl,
      ramWritten_write hh.ram rfl, rfl, hframe⟩
  · have hcell := hostWrite_cell hh n.isLt data
    rw [← ha] at hcell
    obtain ⟨hcount, hirq⟩ := takeCell_line n.val data (releaseLatch s)
    have hframe : SameBut [.mem, .mpath, .rqu] s
        ((takeCell n.val data (releaseLatch s)).setMem (s.mem.write addr.toNat data)) :=
      (((releaseLatch_frame s).trans (takeCell_frame _ _ _)).trans (setMem_frame _ _)).mono (by decide)
    exact ⟨_, hostCycle_served hcell hh hi hl (hframe.mono (by decide)) rfl hcount hirq, ramWritten_write hh.ram rfl, rfl, rfl,
      hframe⟩
  · exact blocked_posts hh hi hb hc hn

end

section
/-! LEMMA. R152, R160, R161: host reads of a running host while nothing waits to drain. -/

namespace Sys2Proof.Machine

section
variable {s u : State}

/-- A group's offsets lie in the live block. -/
theorem LiveGroup.range_live (g : LiveGroup) : 0x020 ≤ g.range.1 ∧ g.range.1 ≤ g.range.2 ∧ g.range.2 < 0x060 := by
  cases g <;> decide

/-- 11.3: the groups share no offset. -/
theorem groupAt_of_range {g : LiveGroup} {off : Nat} (hlow : g.range.1 ≤ off) (hhigh : off ≤ g.range.2) :
    groupAt off = some g := by
  cases g <;> simp only [LiveGroup.range] at hlow hhigh <;> interval_cases off <;> rfl

/-- R161: a read of the lowest byte of a group answers from a fresh copy and latches it. -/
theorem latchRead_lowest (g : LiveGroup) (s : State) :
    latchRead g.range.1 s = ((liveBytes g s).headD 0, some (g, liveBytes g s)) := by
  simp [latchRead, groupAt_of_range (Nat.le_refl _) g.range_live.2.1]

/-- R161: a read of a later byte of the latched group answers from the copy, and the highest byte releases it. -/
theorem latchRead_later {g : LiveGroup} {copy : List Byte} {i : Nat} {v : Byte} (hl : s.mpath.latch = some (g, copy))
    (hi : 0 < i) (hhigh : g.range.1 + i ≤ g.range.2) (hv : copy[i]? = some v) :
    latchRead (g.range.1 + i) s = (v, if g.range.1 + i = g.range.2 then none else some (g, copy)) := by
  have hlater : i ≠ 0 := by omega
  simp [latchRead, groupAt_of_range (Nat.le_add_right _ i) hhigh, hl, hlater, hv]

theorem windowOffset_window {off : Nat} (h : off < 4096) : windowOffset s (windowBase s + off) = some off := by
  simp [windowOffset, h]

/-- R160: a host read of a live byte goes through the latch. -/
theorem hostRead_live {off : Nat} (hh : HostRuns s) (hlow : 0x020 ≤ off) (hhigh : off < 0x060) :
    hostRead (windowBase s + off) s
      = (s.setMpath { s.mpath with latch := (latchRead off s).2 }).setHd (some (latchRead off s).1) := by
  have hbase := windowBase_lt s
  have hin : ¬ 0x8000 ≤ windowBase s + off := by omega
  simp [hostRead, hostRuns_of hh, holdOrServe_drained hh.drained.queue, hin, windowOffset_window (s := s) (off := off) (by omega),
    hlow, hhigh]

/-- R152, R160: any other host read of the RAM answers from it: no byte is pending. -/
theorem hostRead_ram {addr : Nat} (hh : HostRuns s) (ha : addr < 0x8000)
    (ho : addr < windowBase s + 0x020 ∨ windowBase s + 0x060 ≤ addr) :
    hostRead addr s = s.setHd (some (s.mem.read addr)) := by
  have hin : ¬ 0x8000 ≤ addr := by omega
  by_cases hout : addr < windowBase s ∨ windowBase s + 4096 ≤ addr
  · simp [hostRead, hostRuns_of hh, holdOrServe_drained hh.drained.queue, hin, windowOffset_outside hout]
  · obtain ⟨off, rfl⟩ : ∃ off, addr = windowBase s + off := ⟨addr - windowBase s, by omega⟩
    have hdead : ¬ (0x020 ≤ off ∧ off < 0x060) := by omega
    have hoff : windowOffset s (windowBase s + off) = some off := windowOffset_window (by omega)
    simp [hostRead, hostRuns_of hh, holdOrServe_drained hh.drained.queue, hin, hoff, hdead, hh.drained.queue, forwarded]

/-- A live read ends with its answer on HD, and with the latch that it leaves. -/
theorem liveRead_ends {addr : BitVec 16} {off : Nat} {v : Byte} {latch : Option (LiveGroup × List Byte)} (hh : HostRuns s)
    (hi : ScheduleIdle s) (hl : LinesStand s) (ha : addr.toNat = windowBase s + off) (hlow : 0x020 ≤ off)
    (hhigh : off < 0x060) (hread : latchRead off s = (v, latch)) :
    ∃ t, exec (.liveRead addr) s = .next t ∧ t.hd = some v ∧ t.mpath = { s.mpath with latch := latch }
      ∧ SameBut [.hd, .mpath] s t := by
  have hserved := hostRead_live hh hlow hhigh
  rw [hread, ← ha] at hserved
  have hframe : SameBut [.hd, .mpath] s ((s.setMpath { s.mpath with latch := latch }).setHd (some v)) :=
    ((setMpath_frame s _).trans (setHd_frame _ _)).mono (by decide)
  exact ⟨_, hostCycle_served hserved hh hi hl (hframe.mono (by decide)) rfl rfl rfl, rfl, rfl, hframe⟩

end

end Sys2Proof.Machine
end

section
open Sys2Proof Sys2Proof.Machine

/-- Settles O58: the lowest and the later bytes of a live group by what the latch answers, and the rest from the RAM. -/
theorem liveReadsGoThroughTheLatch : Obligations.LiveReadsGoThroughTheLatch := by
  intro s hh hi hl
  refine ⟨fun g addr ha => ?_, fun g copy i v addr hlatch hpos hhigh hv ha => ?_, fun addr ha ho => ?_⟩
  · obtain ⟨hlive, hrange, hend⟩ := g.range_live
    exact liveRead_ends hh hi hl ha hlive (by omega) (latchRead_lowest g s)
  · obtain ⟨hlive, _, hend⟩ := g.range_live
    exact liveRead_ends hh hi hl (by rw [ha, Nat.add_assoc]) (by omega) (by omega) (latchRead_later hlatch hpos hhigh hv)
  · have hframe : SameBut [.hd] s (s.setHd (some (s.mem.read addr.toNat))) := setHd_frame _ _
    exact ⟨_, hostCycle_served (hostRead_ram hh ha ho) hh hi hl (hframe.mono (by decide)) rfl rfl rfl, rfl, hframe⟩

end

section
/-! LEMMA. R162, R163: the drain of one byte, and the grant of one slot. -/

namespace Sys2Proof.Machine

section
variable {s u : State}

/-! ### How a command that moves the queue ends -/

/-- The host's cycle in progress, as the lines see it: from what the command's own work left, and from the end of it. -/
theorem openLevel_eq_openAfter {r : State} (hran : hostRuns r = hostRuns s) (hopen : u.mpath.cycleOpen = r.mpath.cycleOpen)
    (hwait : u.mpath.hwait = r.mpath.hwait) : openLevel (hostRuns s) u = openAfter r (ended (hostRuns s) u) := by
  simp [openLevel, openAfter, hran, hopen, hwait]

/-! ### The drain of one byte (R163) -/

theorem grantSlots_none (h : s.mpath.grants = []) : grantSlots s = s := by
  simp [grantSlots, grants, h]

/-- The bytes that are pending once the lowest is not: those after it. -/
theorem anyPending_passByte {bytes : List GroupByte} {i : Nat} {v : Byte} (h : firstPending bytes = some (i, v)) :
    (passByte bytes i).any (fun b => b.pending) = (bytes.drop (i + 1)).any fun b => b.pending := by
  induction bytes generalizing i with
  | nil => cases h
  | cons b rest ih =>
    unfold firstPending at h
    split at h
    · cases h
      simp [passByte]
    · rename_i hb
      obtain ⟨⟨j, w⟩, hrest, hj⟩ := Option.map_eq_some_iff.mp h
      cases hj
      simp [passByte, hb, ih hrest]

theorem WriteGroup.pass_place (g : WriteGroup) (i : Nat) : g.pass (g.start + i) = { g with bytes := passByte g.bytes i } := by
  simp [WriteGroup.pass]

/-- R163: the lowest pending byte of the oldest group is written, and the group stays while others are pending. -/
theorem drainByte_first {g : WriteGroup} {rest : List WriteGroup} {i : Nat} {v : Byte} (hq : s.mpath.queue = g :: rest)
    (hf : firstPending g.bytes = some (i, v)) (hs : g.start ≠ 0) :
    drainByte s = (writeRegion (g.start + i) v s).setMpath { s.mpath with
      queue := if (g.bytes.drop (i + 1)).any (fun b => b.pending) then { g with bytes := passByte g.bytes i } :: rest
        else rest } := by
  have hpending : WriteGroup.anyPending { g with bytes := passByte g.bytes i }
      = (g.bytes.drop (i + 1)).any fun b => b.pending := anyPending_passByte hf
  simp only [drainByte, hq, hf, WriteGroup.pass_place, hpending, groupLeft, hs, if_false]
  split <;> rfl

/-- R163: the byte in place `i` of the oldest group has drained. -/
def byteDrained (g : WriteGroup) (rest : List WriteGroup) (i : Nat) (v : Byte) (s : State) : State :=
  (writeRegion (g.start + i) v (closeCycle s)).setMpath { (closeCycle s).mpath with
    queue := if (g.bytes.drop (i + 1)).any (fun b => b.pending) then { g with bytes := passByte g.bytes i } :: rest
      else rest }

/-- R163: a drain while no block waits for a slot. -/
theorem drain_first {g : WriteGroup} {rest : List WriteGroup} {i : Nat} {v : Byte} (hq : s.mpath.queue = g :: rest)
    (hf : firstPending g.bytes = some (i, v)) (hs : g.start ≠ 0) (hg : s.mpath.grants = []) :
    drain s = byteDrained g rest i v s := by
  rw [drain, drainByte_first (s := closeCycle s) hq hf hs]
  exact grantSlots_none hg

theorem byteDrained_frame (g : WriteGroup) (rest : List WriteGroup) (i : Nat) (v : Byte) (s : State) :
    SameBut [.mem, .mpath, .rqu] s (byteDrained g rest i v s) :=
  (((closeCycle_frame s).trans (writeRegion_frame _ _ _)).trans (setMpath_frame _ _)).mono (by decide)

/-! ### The grant of one slot (R162) -/

/-- The block at the head of the grant list has its turn. -/
def turn (s : State) : State := s.setMpath { s.mpath with grants := [] }

/-- R162: one block waits, a slot is free, and the handing leaves no other waiting. -/
theorem grantSlots_one {b : Block} (hroom : s.mpath.queue.length < 4) (hg : s.mpath.grants = [b])
    (hu : handOldest b (turn s) = u) (hnone : u.mpath.grants = []) : grantSlots s = u := by
  have hfree : queueHasRoom s = true := decide_eq_true hroom
  have hgrants : grants 15 u = u := by simp [grants, hnone]
  rw [grantSlots, grants, hg]
  simp only [hfree, if_true]
  exact (congrArg (grants 15) hu).trans hgrants

/-- R162: the grant of one slot ends by the lines. -/
theorem slotGrant_ends {b : Block} (hi : ScheduleIdle s) (hp : PowerSteady s) (hroom : s.mpath.queue.length < 4)
    (hg : s.mpath.grants = [b]) (hu : handOldest b (turn s) = u) (hnone : u.mpath.grants = [])
    (hn : u.notices = [] ∨ u.notices = [.check]) (hsch : u.sch.run = s.sch.run ∧ u.sch.queue = s.sch.queue)
    (hphase : u.pwr.phase = s.pwr.phase) : exec .slotGrant s = .next (ended (hostRuns s) u) :=
  command_ends (grantSlots_one hroom hg hu hnone) hp.powered hn (hsch.1.trans hi.run) (hsch.2.trans hi.queue)
    (hphase ▸ hp.notStopping) (hphase ▸ hp.notResetHold)

/-- What a grant leaves of MPATH: the group at the queue's end, and no block waiting. -/
def Granted (g : WriteGroup) (settings : Memory) (s t : State) : Prop :=
  t.mpath = { s.mpath with
    queue := s.mpath.queue ++ [g], grants := [], settings := settings, urgent := urgentLevel t, hwait := urgentLevel t
    cycleOpen := openAfter s t }

/-- R162: one slot is granted; the block hands a group, and its own work left `u`. -/
theorem slotGrant_hands {b : Block} {g : WriteGroup} {ps : List Part} {settings : Memory} (hi : ScheduleIdle s)
    (hp : PowerSteady s) (hroom : s.mpath.queue.length < 4) (hg : s.mpath.grants = [b]) (hu : handOldest b (turn s) = u)
    (hm : u.mpath = { s.mpath with queue := s.mpath.queue ++ [g], grants := [], settings := settings })
    (hn : u.notices = [] ∨ u.notices = [.check]) (hsch : u.sch.run = s.sch.run ∧ u.sch.queue = s.sch.queue)
    (hphase : u.pwr.phase = s.pwr.phase) (hf : SameBut ps s u) (hps : .rqu ∈ ps ∧ .mpath ∈ ps) :
    exec .slotGrant s = .next (ended (hostRuns s) u) ∧ Granted g settings s (ended (hostRuns s) u)
      ∧ SameBut (ps.erase .untold) s (ended (hostRuns s) u) := by
  refine ⟨slotGrant_ends hi hp hroom hg hu (by rw [hm]) hn hsch hphase, ?_,
    ended_frame ⟨hi.notices, hi.taken⟩ hf hps.1 hps.2⟩
  rw [Granted, ended_mpath, openLevel_eq_openAfter (r := s) rfl (by rw [hm]) (by rw [hm]), hm]
  rfl

/-- R162, R175: where the lines stand and the block touches neither the event queue nor the settings, RQU stands. -/
theorem slotGrant_hands_quietly {b : Block} {g : WriteGroup} {ps : List Part} (hi : ScheduleIdle s) (hp : PowerSteady s)
    (hl : LinesStand s) (hroom : s.mpath.queue.length < 4) (hg : s.mpath.grants = [b]) (hu : handOldest b (turn s) = u)
    (hm : u.mpath = { s.mpath with queue := s.mpath.queue ++ [g], grants := [] })
    (hsch : u.sch.run = s.sch.run ∧ u.sch.queue = s.sch.queue) (hpwr : u.pwr.power = s.pwr.power ∧ u.pwr.phase = s.pwr.phase)
    (hf : SameBut ps s u) (hps : (.rqu ∉ ps ∧ .untold ∉ ps) ∧ .mpath ∈ ps) :
    exec .slotGrant s = .next (ended (hostRuns s) u) ∧ Granted g s.mpath.settings s (ended (hostRuns s) u)
      ∧ SameBut ps s (ended (hostRuns s) u) := by
  obtain ⟨⟨hrqu, huntold⟩, hmpath⟩ := hps
  have hnone : u.notices = [] := (hf .untold huntold).1.trans hi.notices
  have hkept : u.rqu = s.rqu := hf .rqu hrqu
  have hirq : irqLevel u = irqLevel s := by simp only [irqLevel, hostRuns, hkept, hpwr.1, hpwr.2, hm]
  obtain ⟨hx, hgranted, hframe⟩ := slotGrant_hands (ps := .rqu :: ps) (settings := s.mpath.settings) hi hp hroom hg hu hm
    (.inl hnone) hsch hpwr.2 (hf.mono fun _ => List.mem_cons_of_mem _)
    ⟨List.mem_cons_self .., List.mem_cons_of_mem _ hmpath⟩
  refine ⟨hx, hgranted, fun p hps => ?_⟩
  by_cases hpr : p = .rqu
  · subst hpr
    show (ended (hostRuns s) u).rqu = s.rqu
    rw [ended_rqu, hirq, hkept, ← hl.irq]
  · exact hframe p fun hmem => (List.mem_cons.mp (List.mem_of_mem_erase hmem)).elim hpr hps

/-- R162: what a block has handed once its own copy of the held writes is set. -/
theorem handed_frame {ps : List Part} {v : State} (g : WriteGroup) (h : SameBut ps (turn s) v) :
    SameBut ([.mpath] ++ ps ++ [.mpath]) s (enqueue g v) :=
  ((setMpath_frame s _).trans h).trans (enqueue_frame g v)

theorem notify_frame (n : Notice) (s : State) : SameBut [.untold] s (notify n s) := by
  intro p hp; cases p <;> simp_all [Part.same, notify]

/-- R190, R194: the flags byte leaves the window; a timer that goes on asks for the check (R128). -/
theorem takeSetting_flags (flags : Byte) (s : State) :
    takeSetting 0 flags s =
      (if !setTimerOn s.mpath.settings && setTimerOn (s.mpath.settings.write 0 flags) then
        notify .check (s.setMpath { s.mpath with settings := s.mpath.settings.write 0 flags })
      else s.setMpath { s.mpath with settings := s.mpath.settings.write 0 flags }) := rfl

theorem takeSetting_flags_mpath (flags : Byte) (s : State) :
    (takeSetting 0 flags s).mpath = { s.mpath with settings := s.mpath.settings.write 0 flags } := by
  rw [takeSetting_flags]
  split <;> rfl

theorem takeSetting_flags_notices (flags : Byte) (s : State) :
    (takeSetting 0 flags s).notices = s.notices ∨ (takeSetting 0 flags s).notices = s.notices ++ [.check] := by
  rw [takeSetting_flags]
  split
  · exact .inr rfl
  · exact .inl rfl

theorem takeSetting_flags_frame (flags : Byte) (s : State) : SameBut [.mpath, .untold] s (takeSetting 0 flags s) := by
  rw [takeSetting_flags]
  split
  · exact (setMpath_frame s _).trans (notify_frame _ _)
  · exact (setMpath_frame s _).mono (by decide)

/-- R190: PWR hands its toggle. -/
theorem handOldest_toggle {flags : Byte} {held : List PwrHeld} (hh : s.pwr.held = .toggle flags :: held) :
    handOldest .pwr (turn s)
      = takeSetting 0 flags (enqueue (mkGroup 0x060 [flags]) ((turn s).setPwr { s.pwr with held := held })) := by
  simp only [handOldest, turn, State.setMpath_pwr, hh]
  rfl

/-- R162, R190: the grant of PWR's slot for a toggle, which the settings shadow takes. -/
theorem slotGrant_toggle {flags : Byte} {held : List PwrHeld} (hi : ScheduleIdle s) (hp : PowerSteady s)
    (hroom : s.mpath.queue.length < 4) (hg : s.mpath.grants = [.pwr]) (hh : s.pwr.held = .toggle flags :: held) :
    ∃ t, exec .slotGrant s = .next t ∧ Granted (mkGroup 0x060 [flags]) (s.mpath.settings.write 0 flags) s t
      ∧ t.rqu = { s.rqu with irq := irqLevel t } ∧ t.pwr = { s.pwr with held := held }
      ∧ SameBut [.mpath, .pwr, .rqu] s t := by
  have hhanded := handed_frame (s := s) (mkGroup 0x060 [flags]) (setPwr_frame (turn s) { s.pwr with held := held })
  have hset := takeSetting_flags_frame flags (enqueue (mkGroup 0x060 [flags]) ((turn s).setPwr { s.pwr with held := held }))
  have hmpath := takeSetting_flags_mpath flags
    (enqueue (mkGroup 0x060 [flags]) ((turn s).setPwr { s.pwr with held := held }))
  have hnotices := takeSetting_flags_notices flags
    (enqueue (mkGroup 0x060 [flags]) ((turn s).setPwr { s.pwr with held := held }))
  have hu := handOldest_toggle hh
  generalize takeSetting 0 flags _ = u at hset hmpath hnotices hu
  have hrqu : u.rqu = s.rqu := hset .rqu (by decide)
  have hpwr : u.pwr = { s.pwr with held := held } := hset .pwr (by decide)
  have hsch : u.sch = s.sch := hset .sch (by decide)
  have hframe : SameBut [.mpath, .pwr, .rqu, .untold] s u := (hhanded.trans hset).mono (by decide)
  have hn : u.notices = [] ∨ u.notices = [.check] :=
    hnotices.imp (fun h => h.trans hi.notices) fun h => h.trans (congrArg (· ++ [Notice.check]) hi.notices)
  obtain ⟨hx, hm, hended⟩ := slotGrant_hands (settings := s.mpath.settings.write 0 flags) hi hp hroom hg hu hmpath hn
    ⟨by rw [hsch], by rw [hsch]⟩ (by rw [hpwr]) hframe (by decide)
  refine ⟨_, hx, hm, ?_, hpwr, hended⟩
  rw [ended_rqu, hrqu]
  rfl

end

end Sys2Proof.Machine
end

section
open Sys2Proof Sys2Proof.Machine

/-- Settles O60: the drain by its byte, and each block's grant by the group it hands. -/
theorem postedWritesDrainAndSlotsAreGranted : Obligations.PostedWritesDrainAndSlotsAreGranted := by
  refine ⟨fun s g rest i v hi hp hram hq hg hf hs => ?_, fun s g held hi hp hroom hg hh => ?_,
    fun s k bytes held hi hp hl hroom hg hh => ?_,
    fun s n v bytes held hi hp hl hroom hg => ⟨fun hh => ?_, fun hh => ?_⟩,
    fun s g flags held hi hp hl hroom hg => ⟨fun hh => ?_, fun hh => ?_⟩⟩
  · have hx := command_ends (drain_first hq hf hs hg) hp.powered (.inl hi.notices) hi.run hi.queue hp.notStopping
      hp.notResetHold
    refine ⟨_, hx, ramWritten_write hram rfl, ?_, rfl, ended_frame (ran := hostRuns s) ⟨hi.notices, hi.taken⟩
      (byteDrained_frame g rest i v s) (by decide) (by decide)⟩
    rw [← ended, ended_mpath,
      openLevel_eq_openAfter (s := s) (u := byteDrained g rest i v s) (r := closeCycle s) rfl rfl rfl]
    rfl
  · have hu : handOldest .rqu (turn s) = enqueue g ((turn s).setRqu { s.rqu with held := held }) := by
      simp only [handOldest, turn, State.setMpath_rqu, hh]
    obtain ⟨hx, hm, hframe⟩ := slotGrant_hands (settings := s.mpath.settings) hi hp hroom hg hu rfl (.inl hi.notices)
      ⟨rfl, rfl⟩ rfl (handed_frame g (setRqu_frame _ _)) (by decide)
    exact ⟨_, hx, hm, rfl, hframe.mono (by decide)⟩
  · have hu : handOldest .sch (turn s)
        = enqueue (mkGroup (0x214 + 32 * k.val) bytes) ((turn s).setSch { s.sch with held := held }) := by
      have hoff : offProgrammes + 32 * k.val + 20 = 0x214 + 32 * k.val := by unfold offProgrammes; omega
      simp only [handOldest, turn, State.setMpath_sch, hh, handSch, hoff]
    obtain ⟨hx, hm, hframe⟩ := slotGrant_hands_quietly hi hp hl hroom hg hu rfl ⟨rfl, rfl⟩ ⟨rfl, rfl⟩
      (handed_frame _ (setSch_frame _ _)) (by decide)
    exact ⟨_, hx, hm, rfl, hframe.mono (by decide)⟩
  · have hu : handOldest .tun (turn s) = (enqueue (mkGroup (0x403 + 16 * n) [v])
        ((turn s).setTun { s.tun with held := held })).setTun
          { s.tun with held := held, presets := s.tun.presets.write (16 * n + 3) v } := by
      have hoff : offPresets + 16 * n + 3 = 0x403 + 16 * n := by unfold offPresets; omega
      simp only [handOldest, turn, State.setMpath_tun, hh, handTun, hoff]
      rfl
    obtain ⟨hx, hm, hframe⟩ := slotGrant_hands_quietly hi hp hl hroom hg hu rfl ⟨rfl, rfl⟩ ⟨rfl, rfl⟩
      ((handed_frame _ (setTun_frame _ _)).trans (setTun_frame _ _)) (by decide)
    exact ⟨_, hx, hm, rfl, hframe.mono (by decide)⟩
  · have hu : handOldest .tun (turn s) = (enqueue (mkGroup (0x400 + 16 * n) bytes)
        ((turn s).setTun { s.tun with held := held })).setTun
          { s.tun with held := held, presets := s.tun.presets.writeAll (16 * n) bytes } := by
      simp only [handOldest, turn, State.setMpath_tun, hh]
      rfl
    obtain ⟨hx, hm, hframe⟩ := slotGrant_hands_quietly hi hp hl hroom hg hu rfl ⟨rfl, rfl⟩ ⟨rfl, rfl⟩
      ((handed_frame _ (setTun_frame _ _)).trans (setTun_frame _ _)) (by decide)
    exact ⟨_, hx, hm, rfl, hframe.mono (by decide)⟩
  · have hu : handOldest .pwr (turn s) = enqueue g ((turn s).setPwr { s.pwr with held := held }) := by
      simp only [handOldest, turn, State.setMpath_pwr, hh]
      rfl
    obtain ⟨hx, hm, hframe⟩ := slotGrant_hands_quietly hi hp hl hroom hg hu rfl ⟨rfl, rfl⟩ ⟨rfl, rfl⟩
      (handed_frame _ (setPwr_frame _ _)) (by decide)
    exact ⟨_, hx, hm, rfl, hframe.mono (by decide)⟩
  · exact slotGrant_toggle hi hp hroom hg hh

end
